-- ==== Sys2Proof/Word.lean ====
section
/-! DEFINITION. The word types of the SB-430: octets, and the 16-bit words of counters, generation and check. -/

namespace Sys2Proof

/-- An octet is 8 bits (00_scope.md, Numbers). -/
abbrev Octet := BitVec 8

/-- A 16-bit word: a counter (R183), the active generation (R4), the check (R143). -/
abbrev Word := BitVec 16

/-- The low octet of a word, which is sent first (R141). -/
def Word.lo (w : Word) : Octet := w.setWidth 8

/-- The high octet of a word, which is sent second (R141). -/
def Word.hi (w : Word) : Octet := (w >>> 8).setWidth 8

end Sys2Proof
end

