-- ==== Sys2Proof/Syntax.lean ====
section
/-! DEFINITION. The commands: one constructor per row of spec/opcode_table.json, with the row's operands. -/

namespace Sys2Proof

/-- The four line ports P0 to P3 (00_scope.md, Ports). P0 is the trunk. -/
inductive PortId where
  | p0 | p1 | p2 | p3
  deriving DecidableEq, Repr

/-- The three branches (00_scope.md, Ports). -/
inductive BranchId where
  | b1 | b2 | b3
  deriving DecidableEq, Repr

/-- The levels of the strap pins (00_scope.md, Pins and straps). -/
structure Straps where
  addr  : BitVec 3
  start : Bool
  rate  : BitVec 2
  deriving DecidableEq, Repr

/-- What the management unit copies of a request besides its payload (R153). -/
structure Header where
  src    : Octet
  tag    : BitVec 4
  urgent : Bool
  len    : Octet
  deriving DecidableEq, Repr

/-- What the part reads back at the end of a character that it sends (R134): a character with a high stop
bit, one with a low stop bit, or none, where the start bit is not qualified. `low` is how long the line
stays low after that end, where no high stop bit was read. -/
inductive ReadBack where
  | good (o : Octet) (marker : Bool)
  | lowStop (o : Octet) (marker : Bool) (low : Nat)
  | unqualified (low : Nat)
  deriving DecidableEq, Repr

/-- The time of an event that counts on a quiet line: `dt` after the command before (log 1), and whether a
character is in progress on the line (R113; log 8). -/
structure LineTime where
  dt   : Nat
  busy : Bool
  deriving DecidableEq, Repr

/-- The time of an event that a reset can follow at once (R155, R172): `dt` after the command before (log 1),
and the levels of the strap pins (log 10). -/
structure StrapTime where
  dt     : Nat
  straps : Straps
  deriving DecidableEq, Repr

/-- The commands of the part. `dt` is the time since the command before (log 1), in units of 1/25
reference clock period; an event of which more than the time counts carries a `LineTime` or a `StrapTime`.
The management requests carry the header `h` of the request and the octets of its parameters in the order
of R147; they stand for the request as dispatch hands it to the management unit (log 5). -/
inductive Instr where
  /-- IDENTIFY (R157). -/
  | identify (dt : Nat) (h : Header)
  /-- READ-STATUS (R158). -/
  | readStatus (dt : Nat) (h : Header)
  /-- READ-PORT (R159). -/
  | readPort (dt : Nat) (h : Header) (port clear : Octet)
  /-- READ-BRIDGE (R160). -/
  | readBridge (dt : Nat) (h : Header) (clear : Octet)
  /-- READ-ENTRY (R162). -/
  | readEntry (dt : Nat) (h : Header) (bank index : Octet)
  /-- WRITE-ENTRY (R2, R163). -/
  | writeEntry (dt : Nat) (h : Header) (index valid base mask action port window retries : Octet)
  /-- PREPARE-SHADOW in clear mode (R3, R164). -/
  | prepareShadowClear (dt : Nat) (h : Header)
  /-- PREPARE-SHADOW in copy mode (R3, R164). -/
  | prepareShadowCopy (dt : Nat) (h : Header)
  /-- COMMIT with the expected generation (R17, R165). -/
  | commit (dt : Nat) (h : Header) (expected : Word)
  /-- READ-LEARNED (R166). -/
  | readLearned (dt : Nat) (h : Header) (first count : Octet)
  /-- FORGET in the one-address form (R19, R167). -/
  | forgetAddress (dt : Nat) (h : Header) (addr : Octet)
  /-- FORGET in the all form, whose address octet is not read (R19, R167). -/
  | forgetAll (dt : Nat) (h : Header)
  /-- READ-EXCHANGES (R161). -/
  | readExchanges (dt : Nat) (h : Header) (first count : Octet)
  /-- SET-PORT (R168). -/
  | setPort (dt : Nat) (h : Header) (port rate guard unsolicited broadcast probe : Octet)
  /-- PORT-CONTROL with action enable (R117, R169). -/
  | portControlEnable (dt : Nat) (h : Header) (port : Octet)
  /-- PORT-CONTROL with action disable (R120, R169). -/
  | portControlDisable (dt : Nat) (h : Header) (port : Octet)
  /-- SET-BRIDGE (R170). -/
  | setBridge (dt : Nat) (h : Header) (policy window retries ageing dest : Octet)
  /-- FLUSH (R171). -/
  | flush (dt : Nat) (h : Header)
  /-- RESTART (R172). -/
  | restart (dt : Nat) (h : Header)
  /-- A request with LEN 0 or an operation code outside 0x01 to 0x10 (R153). -/
  | badOperation (dt : Nat) (h : Header) (code : Octet)
  /-- A character with marker 1 and a good stop bit ends on the line of a port (R122, R126). -/
  | markedCharacter (dt : Nat) (p : PortId) (o : Octet)
  /-- The character with marker 0 that is a LEN octet above 56 (R123, R127). -/
  | oversizeLen (dt : Nat) (p : PortId) (o : Octet)
  /-- The character with marker 0 that ends a frame in COLLECT (R128). -/
  | frameEnd (dt : Nat) (p : PortId) (o : Octet)
  /-- The character with marker 0 that ends a frame followed in DISCARD (R127). -/
  | discardedFrameEnd (dt : Nat) (p : PortId) (o : Octet)
  /-- A character with a framing error; `low` is how long the line stays low after its stop bit was
  sampled (R113, R125). -/
  | framingError (dt : Nat) (p : PortId) (low : Nat)
  /-- The gap timer passes 2 character times inside a frame (R124). -/
  | gapExpiry (t : LineTime) (p : PortId)
  /-- The line has been held low for 4 character times; `low` is how long it stays low after the
  detection (R118, R119). -/
  | stuckLine (t : StrapTime) (p : PortId) (low : Nat)
  /-- The recovery timer reaches 32 character times (R119). -/
  | recovery (dt : Nat) (p : PortId)
  /-- The deadline of a branch's slot expires, held by a DIRECT exchange (R39). -/
  | windowExpiry (dt : Nat) (b : BranchId)
  /-- The deadline of a branch's slot expires, held by a PROBE exchange (R66). -/
  | probeWindowExpiry (dt : Nat) (b : BranchId)
  /-- The ageing timer expires (R15, R16). -/
  | ageingExpiry (dt : Nat)
  /-- The shadow copy completes (R3, R18). -/
  | shadowCopyCompletion (dt : Nat)
  /-- The transmitter takes its next item (R131). -/
  | takeItem (t : LineTime) (p : PortId)
  /-- The wait of DEFER ends (R132). -/
  | deferWaitEnd (t : LineTime) (p : PortId)
  /-- The wait of BACKOFF ends (R135). -/
  | backoffWaitEnd (t : LineTime) (p : PortId)
  /-- A character of the frame being sent ends, and `back` is what was read back: a contention where it
  differs from the character sent (R134). -/
  | contention (t : StrapTime) (p : PortId) (back : ReadBack)
  /-- The last character of the frame is read back correctly (R137). -/
  | transmissionComplete (t : StrapTime) (p : PortId)
  /-- Power-up or RESET_N, with the strap pins at the given levels (R173). -/
  | hardwareReset (dt : Nat) (straps : Straps)
  /-- A character with marker 0 and a good stop bit (R122, R123, R127). -/
  | marker0Character (dt : Nat) (p : PortId) (o : Octet)
  /-- In FAULT, a low level still present at the middle of its first bit time; `low` is how long the
  line then stays low (R119). -/
  | recoveryTimerRestart (dt : Nat) (p : PortId) (low : Nat)
  deriving DecidableEq, Repr

end Sys2Proof
end

