-- ==== Sys2Proof/WellFormed.lean ====
section
/-! DEFINITION. Which commands are well formed: what the outside can send at all. -/

namespace Sys2Proof

/-- The header of a request that can reach the management unit: SRC is neither 0x00 nor 0xFF (R76)
and LEN is at most 56 (R123). -/
def Header.ok (h : Header) : Bool :=
  h.src != 0x00#8 && h.src != 0xFF#8 && decide (h.len.toNat ≤ 56)

/-- The header of a request that names an operation: a payload octet 0 there is (R147, R153). -/
def Header.named (h : Header) : Bool := h.ok && h.len != 0

/-- An operation code of R147, 0x01 to 0x10. -/
def isOperationCode (code : Octet) : Bool :=
  decide (1 ≤ code.toNat) && decide (code.toNat ≤ 16)

/-- Well-formed commands. A management request has a possible header that leaves room for its
operation code; a BAD_OPERATION has LEN 0 or an operation code outside R147; the octet of an
OVERSIZE_LEN is above 56. The other commands have no operand that is out of range. -/
def Instr.wellFormed : Instr → Bool
  | .identify _ h => h.named
  | .readStatus _ h => h.named
  | .readPort _ h _ _ => h.named
  | .readBridge _ h _ => h.named
  | .readEntry _ h _ _ => h.named
  | .writeEntry _ h _ _ _ _ _ _ _ _ => h.named
  | .prepareShadowClear _ h => h.named
  | .prepareShadowCopy _ h => h.named
  | .commit _ h _ => h.named
  | .readLearned _ h _ _ => h.named
  | .forgetAddress _ h _ => h.named
  | .forgetAll _ h => h.named
  | .readExchanges _ h _ _ => h.named
  | .setPort _ h _ _ _ _ _ _ => h.named
  | .portControlEnable _ h _ => h.named
  | .portControlDisable _ h _ => h.named
  | .setBridge _ h _ _ _ _ _ => h.named
  | .flush _ h => h.named
  | .restart _ h => h.named
  | .badOperation _ h code => h.ok && (h.len == 0 || !isOperationCode code)
  | .markedCharacter _ _ _ => true
  | .oversizeLen _ _ o => decide (56 < o.toNat)
  | .frameEnd _ _ _ => true
  | .discardedFrameEnd _ _ _ => true
  | .framingError _ _ _ => true
  | .gapExpiry _ _ => true
  | .stuckLine _ _ _ => true
  | .recovery _ _ => true
  | .windowExpiry _ _ => true
  | .probeWindowExpiry _ _ => true
  | .ageingExpiry _ => true
  | .shadowCopyCompletion _ => true
  | .takeItem _ _ => true
  | .deferWaitEnd _ _ => true
  | .backoffWaitEnd _ _ => true
  | .contention _ _ _ => true
  | .transmissionComplete _ _ => true
  | .hardwareReset _ _ => true
  | .marker0Character _ _ _ => true
  | .recoveryTimerRestart _ _ _ => true

end Sys2Proof
end

