-- ==== Sys2Proof/Decode.lean ====
section
/-! DEFINITION. The command a table word spells. spec/opcode_table.json gives no row any bits: a command of this
part is an event, not a word. -/

namespace Sys2Proof

/-- The command that an instruction word of `nbits` bits spells by the table. No row of the table
gives bits, so no word spells a command. -/
def decodeTableWord (_nbits _w : Nat) : Option Instr := none

end Sys2Proof
end

