-- ==== Sys2Proof/Config.lean ====
section
/-! DEFINITION. What the spec leaves free. There is one free value, an order that no rule states. -/

namespace Sys2Proof.Config

/-- FREE VALUE (DESIGN CHOICE, log 11). Whether the raising of an alert goes ahead of the other effect
of the same instant: the exchange returns of R45 or R64, or the offer of R179 at the recovery of the
trunk. No rule states that order. The argument is the number of such choices made before, so that each
choice is a fresh one. -/
opaque alertAhead : Nat → Bool

end Sys2Proof.Config
end

