-- ==== Sys2Proof/Machine/State.lean ====
section
/-! DEFINITION. The state of the SB-430 as plain data, block by block, and the state after reset. -/

namespace Sys2Proof.Machine

/-! ### Shapes -/

/-- One value for each of the four ports. -/
structure PerPort (α : Type) where
  p0 : α
  p1 : α
  p2 : α
  p3 : α
  deriving DecidableEq, Repr

/-- One value for each of the three branches. -/
structure PerBranch (α : Type) where
  b1 : α
  b2 : α
  b3 : α
  deriving DecidableEq, Repr

/-- The number of a pool buffer, 0 to 47 (R93). -/
abbrev BufId := Fin 48

/-- A table slot number: the index of an exchange record, 0 to 15 (R22). -/
abbrev SlotNo := Fin 16

/-! ### Station table (chapter 1) -/

/-- What a valid loaded entry does with its addresses (R1). The port, window and retries belong to
FORWARD alone. `onTrunk` is the action LOCAL. -/
inductive Action where
  | forward (port : BranchId) (window : Octet) (retries : Fin 4)
  | onTrunk
  | block
  deriving DecidableEq, Repr

/-- A valid loaded entry (R1). An invalid entry is `none` in its bank. -/
structure Entry where
  base   : Octet
  mask   : Octet
  action : Action
  deriving DecidableEq, Repr

/-- The state of a learned entry: VALID with its age, or CONFLICT with the other port (R10). -/
inductive LearnedMark where
  | valid (age : Nat)
  | conflict (other : BranchId)
  deriving DecidableEq, Repr

/-- A learned entry (R10). An empty place is `none`. -/
structure Learned where
  addr : Octet
  port : BranchId
  mark : LearnedMark
  deriving DecidableEq, Repr

/-- The unknown policy (R20). -/
inductive UnknownPolicy where
  | ignore | probe
  deriving DecidableEq, Repr

/-- The station table: banks, generation, learned entries, settings and ageing timer (R1, R4, R10, R16, R20).
`ageingFrom` is the instant of the ageing timer's last start or expiry; the timer runs while
`ageing` is not 0. -/
structure Table where
  active         : List (Option Entry)
  shadow         : List (Option Entry)
  generation     : Word
  learned        : List (Option Learned)
  policy         : UnknownPolicy
  probeWindow    : Octet
  learnedRetries : Fin 4
  ageing         : Octet
  ageingFrom     : Nat
  deriving DecidableEq, Repr

/-! ### Exchange engine (chapters 2 and 3) -/

/-- The key of an exchange (R22). -/
structure Key where
  requester : Octet
  station   : Octet
  tag       : BitVec 4
  deriving DecidableEq, Repr

/-- The states of a DIRECT exchange that is not FREE (R23); `repeating` is REPEAT. -/
inductive DirectPhase where
  | queued | awaiting | repeating | returning
  deriving DecidableEq, Repr

/-- The states of a PROBE exchange that is not FREE (R54). -/
inductive ProbePhase where
  | probing | settling
  deriving DecidableEq, Repr

/-- What a DIRECT exchange holds besides the common fields (R22). -/
structure Direct where
  phase      : DirectPhase
  port       : BranchId
  viaLearned : Bool
  retries    : Fin 4
  attempts   : Nat
  deriving DecidableEq, Repr

/-- What a PROBE exchange holds besides the common fields (R22, R53): the probe set and the
return-pending flag. -/
structure Probe where
  phase   : ProbePhase
  set     : PerBranch Bool
  pending : Bool
  deriving DecidableEq, Repr

/-- The mode of an exchange, with the fields the mode has (R22). -/
inductive Mode where
  | direct (d : Direct)
  | probe (p : Probe)
  deriving DecidableEq, Repr

/-- An exchange record that is not FREE (R22). `request` is the request reference: the buffer held,
or `none` once released. A FREE record is `none`. -/
structure Exchange where
  key     : Key
  urgent  : Bool
  window  : Octet
  request : Option BufId
  mode    : Mode
  deriving DecidableEq, Repr

/-- The kind of item a response slot was claimed for (R24). -/
inductive SlotKind where
  | request | probe
  deriving DecidableEq, Repr

/-- A held response slot (R24). `deadline` is `none` while stopped, and the instant of its start while
it runs. -/
structure Slot where
  exch     : SlotNo
  kind     : SlotKind
  deadline : Option Nat
  deriving DecidableEq, Repr

/-! ### Buffer pool (section 5.1) -/

/-- One buffer: the octets stored so far and the reference count (R93). -/
structure Buffer where
  octets : List Octet
  refs   : Nat
  deriving DecidableEq, Repr

/-- The buffer pool (R93). -/
structure Pool where
  buffers : List Buffer
  free    : List BufId
  armed   : Bool
  deriving DecidableEq, Repr

/-! ### Transmit queues (sections 5.2 and 5.3) -/

/-- The kind of a branch queue item, with the exchange of a request or probe item (R99). -/
inductive BranchItemKind where
  | request (x : SlotNo)
  | probe (x : SlotNo)
  | notice
  deriving DecidableEq, Repr

/-- An item of a branch queue (R99). -/
structure BranchItem where
  kind   : BranchItemKind
  urgent : Bool
  buf    : BufId
  deriving DecidableEq, Repr

/-- The nine reasons of refusals (R145). -/
inductive Reason where
  | timeout | blocked | conflict | queueFull | noExchange | portDown | flushed | busy | contention
  deriving DecidableEq, Repr

/-- A refusal item's five fields (R30). -/
structure RefusalItem where
  requester : Octet
  station   : Octet
  tag       : BitVec 4
  urgent    : Bool
  reason    : Reason
  deriving DecidableEq, Repr

/-- The kinds of alerts (R146, R175). -/
inductive AlertKind where
  | portFault | portRecovered | addressConflict | poolEmpty
  deriving DecidableEq, Repr

/-- An entry of the alert list (R175). -/
structure AlertEntry where
  kind    : AlertKind
  subject : Octet
  repeats : Octet
  deriving DecidableEq, Repr

/-- An alert item's fields, fixed at the offer (R179). -/
structure AlertItem where
  dest       : Octet
  entry      : AlertEntry
  overflow   : Bool
  generation : Word
  deriving DecidableEq, Repr

/-- An item of the trunk queue (R105): an exchange return (a matched frame, or a refusal), the
management response, a BUSY refusal, an alert, an immediate refusal, a passed-up frame. -/
inductive TrunkItem where
  | frameReturn (x : SlotNo) (buf : BufId)
  | refusalReturn (x : SlotNo) (r : RefusalItem)
  | response
  | busy (r : RefusalItem)
  | alert (a : AlertItem)
  | immediate (r : RefusalItem)
  | passUp (buf : BufId)
  deriving DecidableEq, Repr

/-! ### Line ports (chapter 6) -/

/-- The receiver of an ACTIVE port (section 6.3). `discard` holds the number of characters followed
and, from the fourth on, the LEN octet (R127). -/
inductive Rx where
  | hunt
  | collect (buf : BufId)
  | discard (count : Nat) (len : Option Octet)
  deriving DecidableEq, Repr

/-- What a transmitter can hold as its current item (R130): an item of a branch or of the trunk. -/
inductive TxItem where
  | branch (i : BranchItem)
  | trunk (i : TrunkItem)
  deriving DecidableEq, Repr

/-- The current item with its contention count (R130). -/
structure Current where
  item        : TxItem
  contentions : Nat
  deriving DecidableEq, Repr

/-- The transmitter of an ACTIVE port (R130). In SEND it has the frame being sent and the instant at
which its first character began. -/
inductive Tx where
  | idle
  | defer (c : Current)
  | send (c : Current) (since : Nat) (frame : List Octet)
  | backoff (c : Current)
  deriving DecidableEq, Repr

/-- What works in an ACTIVE port (R116): the line timers, the receiver, the transmitter. `idleFrom` is
the end of the last busy period (R113): it lies ahead of the clock while a framing error keeps the line
low. `highFrom` is the latest instant at which the line is known to be high (R118): it lies ahead of the
clock while the line is known to be low, and `stuckFrom` is then an instant before that low at which the
line was high. `busy` holds from a qualified start bit to the end of its character (R113). -/
structure Live where
  idleFrom  : Nat
  highFrom  : Nat
  stuckFrom : Nat
  busy      : Bool
  rx        : Rx
  tx        : Tx
  deriving DecidableEq, Repr

/-- The state of a port, with what works in it (R116). In FAULT, `since` is the instant from which the
recovery timer counts (R119). -/
inductive Line where
  | disabled
  | active (l : Live)
  | fault (since : Nat)
  deriving DecidableEq, Repr

/-- The character that a teardown in SEND lets finish on the line (R121): the frame, the rate it goes
at (a SET-PORT meanwhile does not reach it, R117), the instant at which it began, and the instant at
which the driver is released. -/
structure Tail where
  since : Nat
  frame : List Octet
  rate  : BitVec 3
  stop  : Nat
  deriving DecidableEq, Repr

/-- The twelve counters of a port (R138, R150). -/
structure PortCounters where
  framesIn    : Word
  framesOut   : Word
  checkErrors : Word
  truncated   : Word
  malformed   : Word
  nobufDrops  : Word
  queueDrops  : Word
  contentions : Word
  abandoned   : Word
  faults      : Word
  unsolicited : Word
  late        : Word
  deriving DecidableEq, Repr

/-- A line port (R115, R116, R138). -/
structure Port where
  rate     : BitVec 3
  guard    : BitVec 4
  line     : Line
  tail     : Option Tail
  counters : PortCounters
  deriving DecidableEq, Repr

/-- The unsolicited policy of a branch (R115). -/
inductive UnsolicitedPolicy where
  | drop | passUp
  deriving DecidableEq, Repr

/-- What the part holds for a branch besides its port: the settings that dispatch reads (R115), the
branch queue (R99), the response slot (R24), the repeat holder (R25), the last-timed-out record (R26). -/
structure Branch where
  unsolicited   : UnsolicitedPolicy
  broadcastPass : Bool
  probeMember   : Bool
  queue         : List BranchItem
  slot          : Option Slot
  holder        : Option SlotNo
  lastTimedOut  : Option (Key × SlotNo)
  deriving DecidableEq, Repr

/-! ### Management unit (chapter 8), alert unit and counters (chapter 9) -/

/-- The operation a shadow copy runs for (R3, R18). -/
inductive CopyJob where
  | commit | prepare
  deriving DecidableEq, Repr

/-- The states of the management unit (R152). In WORKING it keeps what it copied of the request, and
the start of the copy. -/
inductive MgmtPhase where
  | idle
  | working (h : Header) (job : CopyJob) (since : Nat)
  | answering
  deriving DecidableEq, Repr

/-- The management unit (R152): its state, its response buffer (DEST to the last payload octet) and
its restart flag. -/
structure Mgmt where
  phase    : MgmtPhase
  response : List Octet
  restart  : Bool
  deriving DecidableEq, Repr

/-- The alert unit (R175, R178). `offered` says whether the oldest entry is the offered entry. -/
structure AlertUnit where
  list     : List AlertEntry
  overflow : Bool
  dest     : Octet
  offered  : Bool
  deriving DecidableEq, Repr

/-- The REFUSALS counters, one for each reason (R30). -/
structure RefusalCounters where
  timeout    : Word
  blocked    : Word
  conflict   : Word
  queueFull  : Word
  noExchange : Word
  portDown   : Word
  flushed    : Word
  busy       : Word
  contention : Word
  deriving DecidableEq, Repr

/-- The 21 bridge counters (R160, R183). -/
structure BridgeCounters where
  exchangesOpened    : Word
  duplicates         : Word
  timeouts           : Word
  refusals           : RefusalCounters
  probesStarted      : Word
  probesSkipped      : Word
  probeMisses        : Word
  learned            : Word
  conflicts          : Word
  agedOut            : Word
  returnsLost        : Word
  immediateDiscards  : Word
  managementDiscards : Word
  deriving DecidableEq, Repr

/-! ### The part -/

/-- The state of the part. `now`, `choices` and `pending` are the model's own (log 1, log 11, log 2):
the clock since the last reset, the count of free order choices made, the queue of waiting commands. -/
structure State where
  now        : Nat
  strapPins  : Straps
  addr       : BitVec 3
  ports      : PerPort Port
  branches   : PerBranch Branch
  table      : Table
  records    : List (Option Exchange)
  pool       : Pool
  trunkQueue : List TrunkItem
  mgmt       : Mgmt
  alerts     : AlertUnit
  counters   : BridgeCounters
  choices    : Nat
  pending    : List Instr
  deriving DecidableEq, Repr

/-! ### Stops -/

/-- The faults of the part. Nobody raises one: the spec gives no event that stops the part, and every
command has an effect in every state. -/
inductive Fault where
  deriving DecidableEq, Repr

/-- The refusals. -/
inductive Refusal where
  /-- Raised by no arm: every command has its meaning. It would be safe (the model stops where the
  part goes on). -/
  | notModelled (mnemonic : String)
  deriving DecidableEq, Repr

/-! ### Reset -/

/-- A port's counters after reset (R183). -/
def PortCounters.zero : PortCounters :=
  { framesIn := 0, framesOut := 0, checkErrors := 0, truncated := 0, malformed := 0, nobufDrops := 0,
    queueDrops := 0, contentions := 0, abandoned := 0, faults := 0, unsolicited := 0, late := 0 }

/-- The REFUSALS counters after reset (R183). -/
def RefusalCounters.zero : RefusalCounters :=
  { timeout := 0, blocked := 0, conflict := 0, queueFull := 0, noExchange := 0, portDown := 0,
    flushed := 0, busy := 0, contention := 0 }

/-- The bridge counters after reset (R183). -/
def BridgeCounters.zero : BridgeCounters :=
  { exchangesOpened := 0, duplicates := 0, timeouts := 0, refusals := .zero, probesStarted := 0,
    probesSkipped := 0, probeMisses := 0, learned := 0, conflicts := 0, agedOut := 0, returnsLost := 0,
    immediateDiscards := 0, managementDiscards := 0 }

/-- The rate code that the RATE straps select (R114). -/
def strapRate (r : BitVec 2) : BitVec 3 :=
  if r = 0b00#2 then 1#3 else if r = 0b01#2 then 3#3 else if r = 0b10#2 then 4#3 else 6#3

/-- What works in a port that becomes ACTIVE at the instant `now` (R117, R119, R140). -/
def Live.fresh (now : Nat) : Live :=
  { idleFrom := now, highFrom := now, stuckFrom := now, busy := false, rx := .hunt, tx := .idle }

/-- The trunk port after reset (R115, R140). -/
def Port.resetTrunk (straps : Straps) : Port :=
  { rate := strapRate straps.rate, guard := 4#4, line := .active (.fresh 0), tail := none, counters := .zero }

/-- A branch's port after reset (R115, R140). -/
def Port.resetBranch (straps : Straps) : Port :=
  { rate := strapRate straps.rate, guard := 2#4,
    line := if straps.start then .active (.fresh 0) else .disabled, tail := none, counters := .zero }

/-- A branch after reset (R115, R111, R52). -/
def Branch.reset : Branch :=
  { unsolicited := .drop, broadcastPass := true, probeMember := true, queue := [], slot := none,
    holder := none, lastTimedOut := none }

/-- The station table after reset (section 1.10). -/
def Table.reset (straps : Straps) : Table :=
  { active := List.replicate 64 none, shadow := List.replicate 64 none, generation := 0,
    learned := List.replicate 32 none, policy := if straps.start then .probe else .ignore,
    probeWindow := 50#8, learnedRetries := 1, ageing := 60#8, ageingFrom := 0 }

/-- All buffer numbers in order, the free list after reset (R98). -/
def allBuffers : List BufId :=
  [0, 1, 2, 3, 4, 5, 6, 7, 8, 9, 10, 11, 12, 13, 14, 15] ++
  [16, 17, 18, 19, 20, 21, 22, 23, 24, 25, 26, 27, 28, 29, 30, 31] ++
  [32, 33, 34, 35, 36, 37, 38, 39, 40, 41, 42, 43, 44, 45, 46, 47]

/-- The buffer pool after reset (R98). The octets of an unfilled buffer are log 13's choice. -/
def Pool.reset : Pool :=
  { buffers := List.replicate 48 { octets := [], refs := 0 }, free := allBuffers, armed := true }

/-- The part right after a reset that samples the given strap levels (sections 1.10, 5.4, 9.4; R52,
R98, R111, R140, R151, R152, R182, R183). -/
def State.resetWith (straps : Straps) : State :=
  { now := 0, strapPins := straps, addr := straps.addr,
    ports := { p0 := .resetTrunk straps, p1 := .resetBranch straps, p2 := .resetBranch straps,
               p3 := .resetBranch straps },
    branches := { b1 := .reset, b2 := .reset, b3 := .reset },
    table := .reset straps, records := List.replicate 16 none, pool := .reset, trunkQueue := [],
    mgmt := { phase := .idle, response := [], restart := false },
    alerts := { list := [], overflow := false, dest := 0, offered := false },
    counters := .zero, choices := 0, pending := [] }

/-- The part right after reset. The strap levels are the board's; here they are all 0 (DESIGN CHOICE,
unsafe, log 10). -/
def State.reset : State := .resetWith { addr := 0, start := false, rate := 0 }

end Sys2Proof.Machine
end

