-- ==== Sys2Proof/Machine/Ops.lean ====
section
/-! DEFINITION. The named operations over the parts of the state: ports, branches, records, time, and the buffer
pool's references. -/

namespace Sys2Proof.Machine

/-! ### Ports and branches -/

/-- The port of a branch. -/
def branchPort : BranchId → PortId
  | .b1 => .p1
  | .b2 => .p2
  | .b3 => .p3

/-- The branch of a port; the trunk is none. -/
def portBranch : PortId → Option BranchId
  | .p0 => none
  | .p1 => some .b1
  | .p2 => some .b2
  | .p3 => some .b3

/-- The number of a port in payloads (R149). -/
def portNumber : PortId → Octet
  | .p0 => 0
  | .p1 => 1
  | .p2 => 2
  | .p3 => 3

/-- The number of a branch in payloads (R149). -/
def branchNumber (b : BranchId) : Octet := portNumber (branchPort b)

/-- The port a payload octet names, if it names one (R149). -/
def portOfOctet (o : Octet) : Option PortId :=
  if o = 0 then some .p0 else if o = 1 then some .p1 else if o = 2 then some .p2
  else if o = 3 then some .p3 else none

/-- The branch a payload octet names, if it names one (R1, R149). -/
def branchOfOctet (o : Octet) : Option BranchId := (portOfOctet o).bind portBranch

/-- The branches in order. -/
def allBranches : List BranchId := [.b1, .b2, .b3]

/-- The table slot numbers in order (R22). -/
def allSlots : List SlotNo := [0, 1, 2, 3, 4, 5, 6, 7, 8, 9, 10, 11, 12, 13, 14, 15]

def portGet {α : Type} (m : PerPort α) : PortId → α
  | .p0 => m.p0
  | .p1 => m.p1
  | .p2 => m.p2
  | .p3 => m.p3

def portSet {α : Type} (m : PerPort α) (p : PortId) (x : α) : PerPort α :=
  match p with
  | .p0 => { m with p0 := x }
  | .p1 => { m with p1 := x }
  | .p2 => { m with p2 := x }
  | .p3 => { m with p3 := x }

def branchGet {α : Type} (m : PerBranch α) : BranchId → α
  | .b1 => m.b1
  | .b2 => m.b2
  | .b3 => m.b3

def branchSet {α : Type} (m : PerBranch α) (b : BranchId) (x : α) : PerBranch α :=
  match b with
  | .b1 => { m with b1 := x }
  | .b2 => { m with b2 := x }
  | .b3 => { m with b3 := x }

/-- No branch is in the set (R54, R67, R68). -/
def setEmpty (m : PerBranch Bool) : Bool := !m.b1 && !m.b2 && !m.b3

/-- The empty probe set. -/
def emptySet : PerBranch Bool := { b1 := false, b2 := false, b3 := false }

/-- One port of the part. -/
def State.port (s : State) (p : PortId) : Port := portGet s.ports p

def State.setPort (s : State) (p : PortId) (x : Port) : State :=
  { s with ports := portSet s.ports p x }

/-- What the part holds for one branch. -/
def State.branch (s : State) (b : BranchId) : Branch := branchGet s.branches b

def State.setBranch (s : State) (b : BranchId) (x : Branch) : State :=
  { s with branches := branchSet s.branches b x }

/-- One exchange record; `none` is FREE (R22). -/
def State.record (s : State) (x : SlotNo) : Option Exchange := s.records.getD x.val none

def State.setRecord (s : State) (x : SlotNo) (r : Option Exchange) : State :=
  { s with records := s.records.set x.val r }

/-- What works in a port, when it is ACTIVE (R116). -/
def Line.live? : Line → Option Live
  | .active l => some l
  | .disabled => none
  | .fault _ => none

def State.live? (s : State) (p : PortId) : Option Live := (s.port p).line.live?

def State.setLine (s : State) (p : PortId) (l : Line) : State :=
  s.setPort p { s.port p with line := l }

def State.setLive (s : State) (p : PortId) (l : Live) : State := s.setLine p (.active l)

/-- The port is ACTIVE (R116). -/
def State.isActive (s : State) (p : PortId) : Bool := (s.live? p).isSome

/-- The port is in FAULT (R116). -/
def State.inFault (s : State) (p : PortId) : Bool :=
  match (s.port p).line with
  | .fault _ => true
  | .active _ => false
  | .disabled => false

/-- The part's own management address, 0xF0 plus the ADDR straps sampled at the last reset (R151). -/
def State.ownAddress (s : State) : Octet := 0xF0#8 ||| s.addr.setWidth 8

/-! ### Time (log 1)

One unit is 1/25 of a reference clock period, 1/368.64 MHz. -/

/-- Time passes. -/
def State.advance (s : State) (dt : Nat) : State := { s with now := s.now + dt }

/-- Reference clock periods per bit at a rate code (R114). -/
def clocksPerBit (rate : BitVec 3) : Nat :=
  match rate.toNat with
  | 0 => 1536
  | 1 => 768
  | 2 => 384
  | 3 => 256
  | 4 => 128
  | 5 => 64
  | 6 => 32
  | _ => 16

/-- A bit time at a rate code (R114). -/
def bitTime (rate : BitVec 3) : Nat := 25 * clocksPerBit rate

/-- A character time: 11 bit times (00_scope.md, Time; R113). -/
def charTime (rate : BitVec 3) : Nat := 11 * bitTime rate

/-- A character time of a port. -/
def State.charTime (s : State) (p : PortId) : Nat := Machine.charTime (s.port p).rate

/-- A time unit: 100 µs (00_scope.md, Time). -/
def timeUnit : Nat := 36864

/-- A second. -/
def second : Nat := 368640000

/-- From a high-to-low transition to the middle of its first bit time: half a bit time (R113, R119). -/
def startSampleTime (rate : BitVec 3) : Nat := bitTime rate / 2

/-- The time to the middle of a first bit at the rate of a port. -/
def State.startSampleTime (s : State) (p : PortId) : Nat := Machine.startSampleTime (s.port p).rate

/-- From the start of a character to its stop-bit sample: ten and a half bit times (R113). -/
def sampleTime (rate : BitVec 3) : Nat := 21 * startSampleTime rate

/-- The time to the stop-bit sample at the rate of a port. -/
def State.sampleTime (s : State) (p : PortId) : Nat := Machine.sampleTime (s.port p).rate

/-- The line has been idle for the time `t` (R113): no character is in progress, and `t` has passed since
the end of the last busy period. -/
def Live.idleFor (l : Live) (t now : Nat) : Bool := !l.busy && decide (l.idleFrom + t ≤ now)

/-- The latest instant at which the line is known to have been high, the port's own characters left aside
(R118): the latest known high where that has come, and otherwise an instant before the low that is going
on. -/
def Live.seenHigh (l : Live) (now : Nat) : Nat := if l.highFrom ≤ now then l.highFrom else l.stuckFrom

/-- The latest known high before a character of the port's own frame that began at `start`: the stop bit of
the character before it was read back high, in the middle of its bit time (R113, R134). -/
def Live.highBefore (l : Live) (now : Nat) (rate : BitVec 3) (start : Nat) (first : Bool) : Nat :=
  if first then l.seenHigh now else start - startSampleTime rate

/-- The latest instant at which the line is known to have been high (R118). In SEND every character that has
been sent was read back with a high stop bit, or a contention would have come first (R134). -/
def Live.highAt (l : Live) (now : Nat) (rate : BitVec 3) : Nat :=
  match l.tx with
  | .send _ since frame =>
    let sent := min ((now - since) / Machine.charTime rate) frame.length
    l.highBefore now rate (since + sent * Machine.charTime rate) (decide (sent = 0))
  | .idle => l.seenHigh now
  | .defer _ => l.seenHigh now
  | .backoff _ => l.seenHigh now

/-- What an event says of the line of a port: with `busy` a start bit has been qualified and its
character is in progress (R113). -/
def State.lineSeen (s : State) (p : PortId) (busy : Bool) : State :=
  match s.live? p with
  | some l => s.setLive p { l with busy := l.busy || busy }
  | none => s

/-! ### Buffers (R93, R94, R97)

The claim is with the alerts, because it can raise one. -/

def emptyBuffer : Buffer := { octets := [], refs := 0 }

def Pool.buffer (P : Pool) (b : BufId) : Buffer := P.buffers.getD b.val emptyBuffer

/-- One more holder of a buffer. -/
def Pool.retain (P : Pool) (b : BufId) : Pool :=
  { P with buffers := P.buffers.set b.val { P.buffer b with refs := (P.buffer b).refs + 1 } }

/-- One holder of a buffer less. At the last one the buffer joins the free list at its tail, and a
release that raises the free count to 8 sets the arming flag (R94, R97). -/
def Pool.release (P : Pool) (b : BufId) : Pool :=
  if (P.buffer b).refs = 0 then P
  else if (P.buffer b).refs = 1 then
    { buffers := P.buffers.set b.val { P.buffer b with refs := 0 }
      free := P.free ++ [b]
      armed := P.armed || decide (P.free.length + 1 = 8) }
  else { P with buffers := P.buffers.set b.val { P.buffer b with refs := (P.buffer b).refs - 1 } }

/-- The receiver stores one more octet (R123). -/
def Pool.store (P : Pool) (b : BufId) (o : Octet) : Pool :=
  { P with buffers := P.buffers.set b.val { P.buffer b with octets := (P.buffer b).octets ++ [o] } }

def State.retain (s : State) (b : BufId) : State := { s with pool := s.pool.retain b }

def State.release (s : State) (b : BufId) : State := { s with pool := s.pool.release b }

/-- Releases a reference where one is held. -/
def State.releaseOpt (s : State) : Option BufId → State
  | none => s
  | some b => s.release b

/-- Releases one reference for each buffer of the list, in its order (log 12). -/
def State.releaseAll (s : State) (bs : List BufId) : State := bs.foldl State.release s

/-- The octets of the frame in a buffer. -/
def State.octets (s : State) (b : BufId) : List Octet := (s.pool.buffer b).octets

/-- The buffer that a trunk queue item refers to (R105). -/
def TrunkItem.buf? : TrunkItem → Option BufId
  | .frameReturn _ b => some b
  | .passUp b => some b
  | .refusalReturn _ _ => none
  | .response => none
  | .busy _ => none
  | .alert _ => none
  | .immediate _ => none

/-- The buffer that a transmitter's current item refers to (R130). -/
def TxItem.buf? : TxItem → Option BufId
  | .branch i => some i.buf
  | .trunk i => i.buf?

/-- The buffer a receiver is filling (R122). -/
def Rx.buf? : Rx → Option BufId
  | .collect b => some b
  | .hunt => none
  | .discard _ _ => none

/-- The current item of a transmitter (R130). -/
def Tx.current? : Tx → Option Current
  | .idle => none
  | .defer c => some c
  | .send c _ _ => some c
  | .backoff c => some c

/-- The buffer of a transmitter's current item. -/
def Tx.buf? (t : Tx) : Option BufId := t.current?.bind (fun c => c.item.buf?)

end Sys2Proof.Machine
end

