-- ==== Sys2Proof/Machine/Flags.lean ====
section
/-! DEFINITION. The counters and how they count, and the conditions that the outputs report. -/

namespace Sys2Proof.Machine

/-- The twelve counters of a port (R138, R150), in the order of READ-PORT. -/
inductive PortCounter where
  | framesIn | framesOut | checkErrors | truncated | malformed | nobufDrops
  | queueDrops | contentions | abandoned | faults | unsolicited | late
  deriving DecidableEq, Repr

/-- The 21 bridge counters (R160), REFUSALS by reason. -/
inductive BridgeCounter where
  | exchangesOpened | duplicates | timeouts | refusals (r : Reason)
  | probesStarted | probesSkipped | probeMisses | learned | conflicts | agedOut
  | returnsLost | immediateDiscards | managementDiscards
  deriving DecidableEq, Repr

/-- One increment of a counter: it adds one, except at 65535 (R183). -/
def saturate (w : Word) : Word := if w = 0xFFFF#16 then w else w + 1

def portCounterGet (c : PortCounters) : PortCounter → Word
  | .framesIn => c.framesIn
  | .framesOut => c.framesOut
  | .checkErrors => c.checkErrors
  | .truncated => c.truncated
  | .malformed => c.malformed
  | .nobufDrops => c.nobufDrops
  | .queueDrops => c.queueDrops
  | .contentions => c.contentions
  | .abandoned => c.abandoned
  | .faults => c.faults
  | .unsolicited => c.unsolicited
  | .late => c.late

def portCounterBump (c : PortCounters) : PortCounter → PortCounters
  | .framesIn => { c with framesIn := saturate c.framesIn }
  | .framesOut => { c with framesOut := saturate c.framesOut }
  | .checkErrors => { c with checkErrors := saturate c.checkErrors }
  | .truncated => { c with truncated := saturate c.truncated }
  | .malformed => { c with malformed := saturate c.malformed }
  | .nobufDrops => { c with nobufDrops := saturate c.nobufDrops }
  | .queueDrops => { c with queueDrops := saturate c.queueDrops }
  | .contentions => { c with contentions := saturate c.contentions }
  | .abandoned => { c with abandoned := saturate c.abandoned }
  | .faults => { c with faults := saturate c.faults }
  | .unsolicited => { c with unsolicited := saturate c.unsolicited }
  | .late => { c with late := saturate c.late }

def refusalCounterGet (c : RefusalCounters) : Reason → Word
  | .timeout => c.timeout
  | .blocked => c.blocked
  | .conflict => c.conflict
  | .queueFull => c.queueFull
  | .noExchange => c.noExchange
  | .portDown => c.portDown
  | .flushed => c.flushed
  | .busy => c.busy
  | .contention => c.contention

def refusalCounterBump (c : RefusalCounters) : Reason → RefusalCounters
  | .timeout => { c with timeout := saturate c.timeout }
  | .blocked => { c with blocked := saturate c.blocked }
  | .conflict => { c with conflict := saturate c.conflict }
  | .queueFull => { c with queueFull := saturate c.queueFull }
  | .noExchange => { c with noExchange := saturate c.noExchange }
  | .portDown => { c with portDown := saturate c.portDown }
  | .flushed => { c with flushed := saturate c.flushed }
  | .busy => { c with busy := saturate c.busy }
  | .contention => { c with contention := saturate c.contention }

def bridgeCounterGet (c : BridgeCounters) : BridgeCounter → Word
  | .exchangesOpened => c.exchangesOpened
  | .duplicates => c.duplicates
  | .timeouts => c.timeouts
  | .refusals r => refusalCounterGet c.refusals r
  | .probesStarted => c.probesStarted
  | .probesSkipped => c.probesSkipped
  | .probeMisses => c.probeMisses
  | .learned => c.learned
  | .conflicts => c.conflicts
  | .agedOut => c.agedOut
  | .returnsLost => c.returnsLost
  | .immediateDiscards => c.immediateDiscards
  | .managementDiscards => c.managementDiscards

def bridgeCounterBump (c : BridgeCounters) : BridgeCounter → BridgeCounters
  | .exchangesOpened => { c with exchangesOpened := saturate c.exchangesOpened }
  | .duplicates => { c with duplicates := saturate c.duplicates }
  | .timeouts => { c with timeouts := saturate c.timeouts }
  | .refusals r => { c with refusals := refusalCounterBump c.refusals r }
  | .probesStarted => { c with probesStarted := saturate c.probesStarted }
  | .probesSkipped => { c with probesSkipped := saturate c.probesSkipped }
  | .probeMisses => { c with probeMisses := saturate c.probeMisses }
  | .learned => { c with learned := saturate c.learned }
  | .conflicts => { c with conflicts := saturate c.conflicts }
  | .agedOut => { c with agedOut := saturate c.agedOut }
  | .returnsLost => { c with returnsLost := saturate c.returnsLost }
  | .immediateDiscards => { c with immediateDiscards := saturate c.immediateDiscards }
  | .managementDiscards => { c with managementDiscards := saturate c.managementDiscards }

/-- A counter of port `p` is counted (00_scope.md, Counting). -/
def State.countPort (s : State) (p : PortId) (c : PortCounter) : State :=
  s.setPort p { s.port p with counters := portCounterBump (s.port p).counters c }

/-- A bridge counter is counted. -/
def State.count (s : State) (c : BridgeCounter) : State :=
  { s with counters := bridgeCounterBump s.counters c }

/-- A counter of a port, and a bridge counter. -/
def State.portCounter (s : State) (p : PortId) (c : PortCounter) : Word := portCounterGet (s.port p).counters c

def State.bridgeCounter (s : State) (c : BridgeCounter) : Word := bridgeCounterGet s.counters c

/-- The counters in the order of READ-PORT (R150). -/
def portCounterOrder : List PortCounter :=
  [.framesIn, .framesOut, .checkErrors, .truncated, .malformed, .nobufDrops,
   .queueDrops, .contentions, .abandoned, .faults, .unsolicited, .late]

/-- The counters in the order of READ-BRIDGE (R150). -/
def bridgeCounterOrder : List BridgeCounter :=
  [.exchangesOpened, .duplicates, .timeouts,
   .refusals .timeout, .refusals .blocked, .refusals .conflict, .refusals .queueFull,
   .refusals .noExchange, .refusals .portDown, .refusals .flushed, .refusals .busy, .refusals .contention,
   .probesStarted, .probesSkipped, .probeMisses, .learned, .conflicts, .agedOut,
   .returnsLost, .immediateDiscards, .managementDiscards]

/-- A learned place holds an entry (R21). -/
def isLearned (o : Option Learned) : Bool := o.isSome

/-- A learned place holds a CONFLICT entry (R13). -/
def isConflict : Option Learned → Bool
  | some e => match e.mark with
    | .conflict _ => true
    | .valid _ => false
  | none => false

/-- The number of learned entries, and of those in CONFLICT (R21, R150). -/
def Table.learnedCount (t : Table) : Nat := (t.learned.filter isLearned).length

def Table.conflictCount (t : Table) : Nat := (t.learned.filter isConflict).length

end Sys2Proof.Machine
end

