-- ==== Sys2Proof/Machine/Operands.lean ====
section
/-! DEFINITION. The layouts of frames and payloads (chapter 7): headers, check, built frames, codes. -/

namespace Sys2Proof.Machine

/-! ### Frames -/

/-- The kinds of frames (R142). -/
inductive Kind where
  | notice | request | response | refusal | reserved
  deriving DecidableEq, Repr

/-- A frame's fields without its check (R141). -/
structure Frame where
  dest    : Octet
  src     : Octet
  ctl     : Octet
  len     : Octet
  payload : List Octet
  deriving DecidableEq, Repr

/-- The fields of the octets in a buffer (R141). -/
def frameOf (os : List Octet) : Frame :=
  { dest := os.getD 0 0, src := os.getD 1 0, ctl := os.getD 2 0, len := os.getD 3 0,
    payload := (os.drop 4).take (os.getD 3 0).toNat }

/-- The kind, bits 2:0 of CTL (R142). -/
def Frame.kind (f : Frame) : Kind :=
  match (f.ctl.extractLsb' 0 3).toNat with
  | 0 => .notice
  | 1 => .request
  | 2 => .response
  | 3 => .refusal
  | _ => .reserved

/-- The urgent bit, bit 3 of CTL (R142). -/
def Frame.urgent (f : Frame) : Bool := f.ctl.getLsbD 3

/-- The tag, bits 7:4 of CTL (R142). -/
def Frame.tag (f : Frame) : BitVec 4 := f.ctl.extractLsb' 4 4

/-- The code of a kind (R142); the part builds no frame of a reserved kind. -/
def Kind.code : Kind → BitVec 3
  | .notice => 0
  | .request => 1
  | .response => 2
  | .refusal => 3
  | .reserved => 4

/-- The CTL octet of a built frame (R142). -/
def ctlOctet (k : Kind) (urgent : Bool) (tag : BitVec 4) : Octet := tag ++ (BitVec.ofBool urgent ++ k.code)

/-- The key of a trunk request: its SRC asks, its DEST is asked (R22). -/
def Frame.requestKey (f : Frame) : Key := { requester := f.src, station := f.dest, tag := f.tag }

/-- The key a branch frame carries: its DEST as requester, its SRC as station (R37). -/
def Frame.answerKey (f : Frame) : Key := { requester := f.dest, station := f.src, tag := f.tag }

/-- The frame is of a kind that answers a request (R37). -/
def Frame.isAnswer (f : Frame) : Bool := decide (f.kind = .response) || decide (f.kind = .refusal)

/-- The malformed conditions (R76, R144). -/
def Frame.malformed (f : Frame) : Bool :=
  decide (f.kind = .reserved) || decide (f.dest = 0x00#8) || decide (f.src = 0x00#8) ||
  decide (f.src = 0xFF#8) || decide (f.src = f.dest) ||
  (decide (f.dest = 0xFF#8) && !decide (f.kind = .notice))

/-- An address in 0xF8 to 0xFE, a requester's (R144). -/
def isRequesterAddress (a : Octet) : Bool := decide (0xF8 ≤ a.toNat) && decide (a.toNat ≤ 0xFE)

/-! ### The check (R143) -/

/-- One bit enters the check register. -/
def crcBit (reg : Word) (b : Bool) : Word :=
  if b = reg.getLsbD 0 then reg >>> 1 else (reg >>> 1) ^^^ 0x8408#16

/-- One octet enters the check register, bit 0 first. -/
def crcOctet (reg : Word) (o : Octet) : Word :=
  [o.getLsbD 0, o.getLsbD 1, o.getLsbD 2, o.getLsbD 3, o.getLsbD 4, o.getLsbD 5, o.getLsbD 6,
    o.getLsbD 7].foldl crcBit reg

/-- The check of the octets from DEST to the last payload octet. -/
def check (os : List Octet) : Word := ~~~ (os.foldl crcOctet 0xFFFF#16)

/-- The octets followed by their check, low octet first. -/
def withCheck (os : List Octet) : List Octet := os ++ [(check os).lo, (check os).hi]

/-- The check of a whole received frame is good (R128). -/
def goodCheck (os : List Octet) : Bool :=
  decide (os.drop (os.length - 2) = [(check (os.take (os.length - 2))).lo, (check (os.take (os.length - 2))).hi])

/-! ### Codes (R145, R146, R148, R149) -/

def boolOctet (b : Bool) : Octet := if b then 1 else 0

/-- A count that fits an octet, as sent. -/
def natOctet (n : Nat) : Octet := BitVec.ofNat 8 n

def wordOctets (w : Word) : List Octet := [w.lo, w.hi]

def Reason.code : Reason → Octet
  | .timeout => 1
  | .blocked => 2
  | .conflict => 3
  | .queueFull => 4
  | .noExchange => 5
  | .portDown => 6
  | .flushed => 7
  | .busy => 8
  | .contention => 9

def AlertKind.code : AlertKind → Octet
  | .portFault => 1
  | .portRecovered => 2
  | .addressConflict => 3
  | .poolEmpty => 4

/-- The statuses of a management response (R148). -/
inductive Status where
  | ok | badOperation | badLength | badIndex | badValue | stale | portActive | notPermitted
  deriving DecidableEq, Repr

def Status.code : Status → Octet
  | .ok => 0
  | .badOperation => 1
  | .badLength => 2
  | .badIndex => 3
  | .badValue => 4
  | .stale => 5
  | .portActive => 6
  | .notPermitted => 7

/-- The code of a port state (R149). -/
def Line.code : Line → Octet
  | .disabled => 0
  | .active _ => 1
  | .fault _ => 2

/-- The code of an exchange state (R149); `none` is FREE. -/
def exchangeStateCode : Option Exchange → Octet
  | none => 0
  | some e => match e.mode with
    | .direct d => match d.phase with
      | .queued => 1
      | .awaiting => 2
      | .repeating => 3
      | .returning => 4
    | .probe p => match p.phase with
      | .probing => 5
      | .settling => 6

def UnknownPolicy.code : UnknownPolicy → Octet
  | .ignore => 0
  | .probe => 1

def UnsolicitedPolicy.code : UnsolicitedPolicy → Octet
  | .drop => 0
  | .passUp => 1

/-- The octets action, port, window, retries of an entry (R149, R150). -/
def Action.octets : Action → List Octet
  | .forward p w r => [1, branchNumber p, w, natOctet r.val]
  | .onTrunk => [2, 0, 0, 0]
  | .block => [3, 0, 0, 0]

/-- The octets from the valid flag on of an entry in READ-ENTRY, absent fields 0 (R21, R150). -/
def entryOctets : Option Entry → List Octet
  | none => [0, 0, 0, 0, 0, 0, 0]
  | some e => [1, e.base, e.mask] ++ e.action.octets

/-- The five octets of a learned place: state, address, port, other port, age (R150, R166). -/
def learnedOctets : Option Learned → List Octet
  | none => [0, 0, 0, 0, 0]
  | some e => match e.mark with
    | .valid age => [1, e.addr, branchNumber e.port, 0, natOctet age]
    | .conflict other => [2, e.addr, branchNumber e.port, branchNumber other, 0]

/-- The port-or-set octet of a PROBE record: bits 1, 2, 3 (R150). -/
def probeSetOctet (m : PerBranch Bool) : Octet :=
  (if m.b1 then 2 else 0) + (if m.b2 then 4 else 0) + (if m.b3 then 8 else 0)

/-- The eight octets of an exchange record (R50, R150). -/
def exchangeOctets : Option Exchange → List Octet
  | none => [0, 0, 0, 0, 0, 0, 0, 0]
  | some e =>
    [exchangeStateCode (some e), e.key.requester, e.key.station] ++
    match e.mode with
    | .direct d =>
      [BitVec.ofBool false ++ (BitVec.ofBool false ++ (BitVec.ofBool d.viaLearned ++
        (BitVec.ofBool e.urgent ++ e.key.tag))),
       branchNumber d.port, e.window, natOctet d.retries.val, natOctet d.attempts]
    | .probe q =>
      [BitVec.ofBool true ++ (BitVec.ofBool q.pending ++ (BitVec.ofBool false ++
        (BitVec.ofBool e.urgent ++ e.key.tag))),
       probeSetOctet q.set, e.window, 0, 0]

/-- The request LEN that R147 fixes for an operation code. -/
def requestLen (code : Octet) : Octet :=
  match code.toNat with
  | 0x01 => 1
  | 0x02 => 1
  | 0x03 => 3
  | 0x04 => 2
  | 0x05 => 3
  | 0x06 => 9
  | 0x07 => 2
  | 0x08 => 3
  | 0x09 => 3
  | 0x0A => 3
  | 0x0B => 3
  | 0x0C => 7
  | 0x0D => 3
  | 0x0E => 6
  | 0x0F => 1
  | 0x10 => 1
  | _ => 0

/-! ### Frames the part builds (R30, R133, R141, R145, R146) -/

/-- The refusal frame of a refusal item (R30, R145). -/
def refusalFrame (own : Octet) (r : RefusalItem) : List Octet :=
  withCheck [r.requester, if r.reason = .busy then own else r.station,
    ctlOctet .refusal r.urgent r.tag, 2, r.reason.code, own]

/-- The alert notice of an alert item (R146). -/
def alertFrame (own : Octet) (a : AlertItem) : List Octet :=
  withCheck ([a.dest, own, ctlOctet .notice false 0, 6, a.entry.kind.code, a.entry.subject,
    a.entry.repeats, boolOctet a.overflow] ++ wordOctets a.generation)

/-- The frame a transmitter sends for its current item (R133). -/
def State.itemFrame (s : State) : TxItem → List Octet
  | .branch i => s.octets i.buf
  | .trunk i => match i with
    | .frameReturn _ b => s.octets b
    | .passUp b => s.octets b
    | .refusalReturn _ r => refusalFrame s.ownAddress r
    | .busy r => refusalFrame s.ownAddress r
    | .immediate r => refusalFrame s.ownAddress r
    | .alert a => alertFrame s.ownAddress a
    | .response => withCheck s.mgmt.response

end Sys2Proof.Machine
end

