-- ==== Sys2Proof/Machine/StationTable.lean ====
section
/-! DEFINITION. The station table (chapter 1): resolution, learning, ageing, commit, forgetting. -/

namespace Sys2Proof.Machine

/-! ### Loaded entries (R1, R2) -/

/-- A valid entry matches an address (R1). -/
def Entry.matchesAddr (e : Entry) (a : Octet) : Bool := decide (a &&& e.mask = e.base)

/-- The number of mask bits set (R6). -/
def maskBits (m : Octet) : Nat :=
  (m.getLsbD 0).toNat + (m.getLsbD 1).toNat + (m.getLsbD 2).toNat + (m.getLsbD 3).toNat +
  (m.getLsbD 4).toNat + (m.getLsbD 5).toNat + (m.getLsbD 6).toNat + (m.getLsbD 7).toNat

/-- Some valid entry of a bank matches the address. -/
def covers (bank : List (Option Entry)) (a : Octet) : Bool :=
  bank.any (fun o => match o with
    | some e => e.matchesAddr a
    | none => false)

/-- The action a WRITE-ENTRY carries, if its code and, for FORWARD, its port, window and retries are
permitted (R2). -/
def actionOf (action port window retries : Octet) : Option Action :=
  if action = 1 then
    match branchOfOctet port with
    | some b => if window = 0 then none
                else if h : retries.toNat < 4 then some (.forward b window ⟨retries.toNat, h⟩) else none
    | none => none
  else if action = 2 then some .onTrunk
  else if action = 3 then some .block
  else none

/-- The entry that a WRITE-ENTRY with valid flag 1 writes, or none where it is refused BAD-VALUE (R2, step 3). -/
def entryOf (base mask action port window retries : Octet) : Option Entry :=
  if base &&& ~~~mask ≠ 0 then none
  else if base.toNat < 0x01 then none
  else if 0xF7 < base.toNat then none
  else if 0xF7 < (base ||| ~~~mask).toNat then none
  else (actionOf action port window retries).map (fun a => { base := base, mask := mask, action := a })

/-! ### Resolution (R5 to R8) -/

/-- The outcomes of a resolution (R5). -/
inductive Resolved where
  | forward (port : BranchId) (window : Octet) (retries : Fin 4) (viaLearned : Bool)
  | onTrunk
  | block
  | conflict
  | probe
  | ignore
  deriving DecidableEq, Repr

/-- The most specific matching entry of a bank, the lowest index among equals (R6). -/
def bestEntry (a : Octet) : List (Option Entry) → Option Entry
  | [] => none
  | none :: rest => bestEntry a rest
  | some e :: rest =>
    if e.matchesAddr a then
      match bestEntry a rest with
      | some f => if maskBits e.mask < maskBits f.mask then some f else some e
      | none => some e
    else bestEntry a rest

/-- The learned entry for an address (R7). -/
def findLearned (a : Octet) (places : List (Option Learned)) : Option Learned :=
  places.findSome? (fun o => match o with
    | some e => if e.addr = a then some e else none
    | none => none)

/-- The loaded step (R6). -/
def Table.loadedStep (t : Table) (a : Octet) : Option Resolved :=
  (bestEntry a t.active).map (fun e => match e.action with
    | .forward p w r => .forward p w r false
    | .onTrunk => .onTrunk
    | .block => .block)

/-- The learned step (R7). -/
def Table.learnedStep (t : Table) (a : Octet) : Option Resolved :=
  (findLearned a t.learned).map (fun e => match e.mark with
    | .valid _ => .forward e.port t.probeWindow t.learnedRetries true
    | .conflict _ => .conflict)

/-- The unknown step (R8). -/
def Table.unknownStep (t : Table) (own a : Octet) : Resolved :=
  match t.policy with
  | .ignore => .ignore
  | .probe => if 0x01 ≤ a.toNat ∧ a.toNat ≤ 0xF7 ∧ a ≠ own then .probe else .ignore

/-- The resolution of a destination address (R5). -/
def State.resolve (s : State) (a : Octet) : Resolved :=
  if isRequesterAddress a then .ignore
  else match s.table.loadedStep a with
    | some r => r
    | none => match s.table.learnedStep a with
      | some r => r
      | none => s.table.unknownStep s.ownAddress a

/-! ### Learning (R11 to R14) -/

/-- What the handover of a probe answer did (R11). -/
inductive LearnEvent where
  | nothing | created | refreshed | conflicted
  deriving DecidableEq, Repr

/-- Replaces the entry for an address by its image (R11, R13, R14). -/
def mapLearned (a : Octet) (f : Learned → Learned) (places : List (Option Learned)) : List (Option Learned) :=
  places.map (fun o => match o with
    | some e => if e.addr = a then some (f e) else some e
    | none => none)

/-- The lowest empty place (R10). -/
def emptyPlace (places : List (Option Learned)) : Option Nat := places.findIdx? (fun o => o.isNone)

/-- The age of a VALID entry in a place. -/
def ageAt : Option Learned → Option Nat
  | some e => match e.mark with
    | .valid age => some age
    | .conflict _ => none
  | none => none

/-- The place of the VALID entry with the highest age, the lowest index among equals, with its age
(R12). The places are numbered from `i`. -/
def oldestFrom (i : Nat) : List (Option Learned) → Option (Nat × Nat)
  | [] => none
  | o :: rest => match ageAt o, oldestFrom (i + 1) rest with
    | none, r => r
    | some age, none => some (i, age)
    | some age, some (j, best) => if age < best then some (j, best) else some (i, age)

def oldestPlace (places : List (Option Learned)) : Option Nat := (oldestFrom 0 places).map (·.1)

/-- A new VALID entry (R11, R12). -/
def newLearned (a : Octet) (b : BranchId) : Option Learned := some { addr := a, port := b, mark := .valid 0 }

/-- The handover of address `a` answered on branch `b` (R11, R12, R13): the new learned entries and
what happened. -/
def Table.learn (t : Table) (a : Octet) (b : BranchId) : List (Option Learned) × LearnEvent :=
  if covers t.active a then (t.learned, .nothing)
  else match findLearned a t.learned with
    | none => match emptyPlace t.learned with
      | some i => (t.learned.set i (newLearned a b), .created)
      | none => match oldestPlace t.learned with
        | some i => (t.learned.set i (newLearned a b), .created)
        | none => (t.learned, .nothing)
    | some e => match e.mark with
      | .valid _ =>
        if e.port = b then (mapLearned a (fun x => { x with mark := .valid 0 }) t.learned, .refreshed)
        else (mapLearned a (fun x => { x with mark := .conflict b }) t.learned, .conflicted)
      | .conflict _ => (t.learned, .nothing)

/-- The learned entries after a matched RESPONSE of a via-learned exchange for station `a` on branch
`b` (R14). -/
def Table.refresh (t : Table) (a : Octet) (b : BranchId) : List (Option Learned) :=
  match findLearned a t.learned with
  | some e => match e.mark with
    | .valid _ => if e.port = b then mapLearned a (fun x => { x with mark := .valid 0 }) t.learned else t.learned
    | .conflict _ => t.learned
  | none => t.learned

def State.setLearned (s : State) (places : List (Option Learned)) : State :=
  { s with table := { s.table with learned := places } }

/-- The age refresh of R14. -/
def State.refreshAge (s : State) (a : Octet) (b : BranchId) : State := s.setLearned (s.table.refresh a b)

/-- The handover of R62 at the station table, with the counting of R11 to R13. The alert of R13 is
raised by the caller, from the event. -/
def State.learn (s : State) (a : Octet) (b : BranchId) : State :=
  match (s.table.learn a b).2 with
  | .nothing => s
  | .created => (s.setLearned (s.table.learn a b).1).count .learned
  | .refreshed => s.setLearned (s.table.learn a b).1
  | .conflicted => (s.setLearned (s.table.learn a b).1).count .conflicts

/-! ### Ageing (R15) -/

/-- One place at an ageing expiry: a VALID entry grows older by one, and is removed at age 4. -/
def agePlace : Option Learned → Option Learned
  | some e => match e.mark with
    | .valid age => if age + 1 < 4 then some { e with mark := .valid (age + 1) } else none
    | .conflict _ => some e
  | none => none

/-- The entry of the place is removed by the expiry. -/
def agesOut (o : Option Learned) : Bool := o.isSome && (agePlace o).isNone

/-- AGED-OUT is counted once for each entry removed. -/
def State.countTimes (s : State) (c : BridgeCounter) : Nat → State
  | 0 => s
  | n + 1 => (s.count c).countTimes c n

/-- The ageing expiry (R15). -/
def State.age (s : State) : State :=
  (s.setLearned (s.table.learned.map agePlace)).countTimes .agedOut (s.table.learned.filter agesOut).length

/-! ### Commit and forgetting (R17, R18, R19) -/

/-- A learned entry survives a commit when no valid entry of the new ACTIVE bank covers it (R17). -/
def uncovered (bank : List (Option Entry)) : Option Learned → Option Learned
  | some e => if covers bank e.addr then none else some e
  | none => none

/-- The swap of a COMMIT (R17). The former ACTIVE bank is SHADOW until the copy completes (log 15). -/
def Table.swap (t : Table) : Table :=
  { t with active := t.shadow, shadow := t.active, generation := t.generation + 1,
           learned := t.learned.map (uncovered t.shadow) }

/-- The removal of the learned entry for one address (R19). -/
def forgetPlace (a : Octet) : Option Learned → Option Learned
  | some e => if e.addr = a then none else some e
  | none => none

/-- How many learned entries a FORGET of one address removes (R167). -/
def Table.forgetCount (t : Table) (a : Octet) : Nat :=
  (t.learned.filter (fun o => o.isSome && (forgetPlace a o).isNone)).length

end Sys2Proof.Machine
end

