-- ==== Sys2Proof/Machine/Queues.lean ====
section
/-! DEFINITION. The transmit queues (sections 5.2, 5.3), the alert unit (chapter 9) and the buffer claim (R95, R97). -/

namespace Sys2Proof.Machine

/-! ### Branch queues -/

/-- The most items a branch queue holds (R99). -/
def branchQueueLimit : Nat := 8

/-- An item is placed by its urgency (R100). -/
def insertItem (q : List BranchItem) (i : BranchItem) : List BranchItem :=
  if i.urgent then q.takeWhile (·.urgent) ++ i :: q.dropWhile (·.urgent) else q ++ [i]

/-- The branch queue admits an item now (R100). -/
def State.branchHasRoom (s : State) (b : BranchId) : Bool :=
  s.isActive (branchPort b) && decide ((s.branch b).queue.length < branchQueueLimit)

/-- Appends an item, which takes one more reference on its buffer. -/
def State.appendItem (s : State) (b : BranchId) (i : BranchItem) : State :=
  (s.retain i.buf).setBranch b { s.branch b with queue := insertItem (s.branch b).queue i }

/-! ### The trunk queue -/

/-- The five classes of the trunk queue (R105). -/
inductive TrunkClass where
  | exchange | management | alert | immediate | passUp
  deriving DecidableEq, Repr

def TrunkItem.cls : TrunkItem → TrunkClass
  | .frameReturn _ _ => .exchange
  | .refusalReturn _ _ => .exchange
  | .response => .management
  | .busy _ => .management
  | .alert _ => .alert
  | .immediate _ => .immediate
  | .passUp _ => .passUp

/-- The class limits (R105). -/
def TrunkClass.limit : TrunkClass → Nat
  | .exchange => 16
  | .management => 2
  | .alert => 1
  | .immediate => 4
  | .passUp => 5

def TrunkItem.isResponse : TrunkItem → Bool
  | .response => true
  | .frameReturn _ _ => false
  | .refusalReturn _ _ => false
  | .busy _ => false
  | .alert _ => false
  | .immediate _ => false
  | .passUp _ => false

def TrunkItem.isBusy : TrunkItem → Bool
  | .busy _ => true
  | .frameReturn _ _ => false
  | .refusalReturn _ _ => false
  | .response => false
  | .alert _ => false
  | .immediate _ => false
  | .passUp _ => false

/-- How many items of a class stand in a trunk queue. -/
def classCount (q : List TrunkItem) (c : TrunkClass) : Nat := (q.filter (fun i => decide (i.cls = c))).length

/-- The own place of an item in the MANAGEMENT class is free (R107); the other classes have no
places of their own. -/
def placeFree (q : List TrunkItem) (i : TrunkItem) : Bool :=
  (!i.isResponse || q.all (fun j => !j.isResponse)) && (!i.isBusy || q.all (fun j => !j.isBusy))

/-- The trunk queue admits an offered item (R106, R107). -/
def State.admits (s : State) (i : TrunkItem) : Bool :=
  s.isActive .p0 && decide (classCount s.trunkQueue i.cls < i.cls.limit) && placeFree s.trunkQueue i

/-- An admitted item stands at the tail (R106). -/
def State.enqueue (s : State) (i : TrunkItem) : State := { s with trunkQueue := s.trunkQueue ++ [i] }

/-! ### The alert unit -/

/-- One more raising of a listed entry, saturated at 255 (R176). -/
def bumpRepeats (r : Octet) : Octet := if r = 0xFF#8 then r else r + 1

/-- The alert list after a raising (R176). -/
def AlertUnit.add (u : AlertUnit) (k : AlertKind) (subject : Octet) : AlertUnit :=
  if u.list.any (fun e => decide (e.kind = k ∧ e.subject = subject)) then
    { u with list := u.list.map (fun e =>
        if e.kind = k ∧ e.subject = subject then { e with repeats := bumpRepeats e.repeats } else e) }
  else if u.list.length < 8 then { u with list := u.list ++ [{ kind := k, subject := subject, repeats := 1 }] }
  else { u with overflow := true }

/-- The alert item built from an entry now (R179). -/
def State.alertItem (s : State) (e : AlertEntry) : AlertItem :=
  { dest := s.alerts.dest, entry := e, overflow := s.alerts.overflow, generation := s.table.generation }

/-- The offer of the oldest entry, made when all conditions of R179 hold. -/
def State.offerAlert (s : State) : State :=
  match s.alerts.list with
  | [] => s
  | e :: _ =>
    if s.alerts.dest ≠ 0 ∧ s.alerts.offered = false ∧ s.admits (.alert (s.alertItem e)) = true then
      { s.enqueue (.alert (s.alertItem e)) with alerts := { s.alerts with offered := true } }
    else s

/-- Alert K(s) is raised (R176), and offered where it can be (R179). -/
def State.raise (s : State) (k : AlertKind) (subject : Octet) : State :=
  State.offerAlert { s with alerts := s.alerts.add k subject }

/-- The end of the offered entry's item without its completion (R181). -/
def State.alertLost (s : State) : State :=
  State.offerAlert { s with alerts := { s.alerts with offered := false } }

/-- The completion of the offered entry's item (R180). -/
def State.alertSent (s : State) (a : AlertItem) : State :=
  State.offerAlert { s with alerts :=
    { s.alerts with list := s.alerts.list.tail, offered := false,
                    overflow := s.alerts.overflow && !a.overflow } }

/-! ### The buffer claim -/

/-- The free count a claimant needs: the trunk leaves a reserve of eight (R95). -/
def claimNeeds : PortId → Nat
  | .p0 => 9
  | .p1 => 1
  | .p2 => 1
  | .p3 => 1

/-- The pool after a grant of the buffer `b` at the head of the free list, `rest` remaining (R93, R95, R97). -/
def Pool.grant (P : Pool) (b : BufId) (rest : List BufId) : Pool :=
  { buffers := P.buffers.set b.val { octets := [], refs := 1 }, free := rest,
    armed := P.armed && !rest.isEmpty }

/-- A receiver's claim (R95): the buffer granted, if one is, and the state after it, with the alert of
R97. -/
def State.claim (s : State) (p : PortId) : Option BufId × State :=
  if s.pool.free.length < claimNeeds p then (none, s)
  else match s.pool.free with
    | [] => (none, s)
    | b :: rest =>
      if rest.isEmpty && s.pool.armed then
        (some b, State.raise { s with pool := s.pool.grant b rest } .poolEmpty 0)
      else (some b, { s with pool := s.pool.grant b rest })

end Sys2Proof.Machine
end

