-- ==== Sys2Proof/Machine/Exchanges.lean ====
section
/-! DEFINITION. The exchange engine (chapters 2 and 3): opening, returns, answers, expiries, teardown, FLUSH. -/

namespace Sys2Proof.Machine

/-! ### Records -/

/-- Some record that is not FREE has the key (R27, R55). -/
def State.keyInUse (s : State) (k : Key) : Bool :=
  s.records.any (fun r => match r with
    | some e => decide (e.key = k)
    | none => false)

/-- The FREE record with the lowest index (R29, R56). -/
def State.freeRecord (s : State) : Option SlotNo := allSlots.find? (fun x => (s.record x).isNone)

/-- The refusal item of an exchange, from its record (R30). -/
def Exchange.refusal (e : Exchange) (r : Reason) : RefusalItem :=
  { requester := e.key.requester, station := e.key.station, tag := e.key.tag, urgent := e.urgent, reason := r }

/-- The refusal item of a request, from its frame (R28, R30, R78, R86). -/
def Frame.refusal (f : Frame) (r : Reason) : RefusalItem :=
  { requester := f.src, station := f.dest, tag := f.tag, urgent := f.urgent, reason := r }

/-- A branch's slot, holder or last-timed-out record is set. -/
def State.setSlot (s : State) (b : BranchId) (v : Option Slot) : State :=
  s.setBranch b { s.branch b with slot := v }

def State.setHolder (s : State) (b : BranchId) (v : Option SlotNo) : State :=
  s.setBranch b { s.branch b with holder := v }

def State.setLastTimedOut (s : State) (b : BranchId) (v : Option (Key × SlotNo)) : State :=
  s.setBranch b { s.branch b with lastTimedOut := v }

def State.setQueue (s : State) (b : BranchId) (q : List BranchItem) : State :=
  s.setBranch b { s.branch b with queue := q }

/-! ### Returns (R31) -/

/-- A DIRECT exchange enters RETURNING with a refusal (R30, R31): it releases its request reference,
and its refusal is admitted, or dropped with RETURNS-LOST where the trunk queue does not admit it. -/
def State.refuse (s : State) (x : SlotNo) (e : Exchange) (d : Direct) (r : Reason) : State :=
  if (s.releaseOpt e.request).admits (.refusalReturn x (e.refusal r)) then
    (((s.releaseOpt e.request).enqueue (.refusalReturn x (e.refusal r))).count (.refusals r)).setRecord x
      (some { e with request := none, mode := .direct { d with phase := .returning } })
  else ((s.releaseOpt e.request).count .returnsLost).setRecord x none

/-- A DIRECT exchange enters RETURNING with the station's frame in buffer `b` (R31, R38, R41). -/
def State.returnFrame (s : State) (x : SlotNo) (e : Exchange) (d : Direct) (b : BufId) : State :=
  if (s.releaseOpt e.request).admits (.frameReturn x b) then
    ((s.releaseOpt e.request).enqueue (.frameReturn x b)).setRecord x
      (some { e with request := none, mode := .direct { d with phase := .returning } })
  else (((s.releaseOpt e.request).release b).count .returnsLost).setRecord x none

/-- An immediate refusal (R28): the request's reference is released, and the item is admitted to the
IMMEDIATE class or discarded. -/
def State.refuseAtOnce (s : State) (b : BufId) (r : RefusalItem) : State :=
  if (s.release b).admits (.immediate r) then
    ((s.release b).enqueue (.immediate r)).count (.refusals r.reason)
  else (s.release b).count .immediateDiscards

/-! ### Opening (R27, R29, R55, R56) -/

/-- The opening of a DIRECT exchange at a FREE record (R29). The exchange takes over the reference that
came with the request in buffer `b`; the request item takes a second one. -/
def State.openDirectAt (s : State) (x : SlotNo) (f : Frame) (b : BufId) (p : BranchId) (window : Octet)
    (retries : Fin 4) (viaLearned : Bool) : State :=
  ((s.setRecord x (some
    { key := f.requestKey, urgent := f.urgent, window := window, request := some b,
      mode := .direct { phase := .queued, port := p, viaLearned := viaLearned, retries := retries,
                        attempts := 0 } })).appendItem p
    { kind := .request x, urgent := f.urgent, buf := b }).count .exchangesOpened

/-- A trunk REQUEST with a FORWARD outcome (R27). -/
def State.openDirect (s : State) (f : Frame) (b : BufId) (p : BranchId) (window : Octet)
    (retries : Fin 4) (viaLearned : Bool) : State :=
  if s.keyInUse f.requestKey then (s.release b).count .duplicates
  else if s.isActive (branchPort p) = false then s.refuseAtOnce b (f.refusal .portDown)
  else match s.freeRecord with
    | none => s.refuseAtOnce b (f.refusal .noExchange)
    | some x =>
      if (s.branch p).queue.length < branchQueueLimit then s.openDirectAt x f b p window retries viaLearned
      else s.refuseAtOnce b (f.refusal .queueFull)

/-- A branch qualifies for a probe set (R56). -/
def State.qualifies (s : State) (q : BranchId) : Bool := (s.branch q).probeMember && s.branchHasRoom q

/-- The qualifying branches (R56). -/
def State.probeSet (s : State) : PerBranch Bool :=
  { b1 := s.qualifies .b1, b2 := s.qualifies .b2, b3 := s.qualifies .b3 }

/-- The probe item of an exchange on one branch of its set (R56). -/
def State.placeProbe (x : SlotNo) (f : Frame) (b : BufId) (set : PerBranch Bool) (s : State) (q : BranchId) : State :=
  if branchGet set q then s.appendItem q { kind := .probe x, urgent := f.urgent, buf := b } else s

/-- The opening of a PROBE exchange at a FREE record (R56). -/
def State.openProbeAt (s : State) (x : SlotNo) (f : Frame) (b : BufId) (set : PerBranch Bool) : State :=
  (allBranches.foldl (State.placeProbe x f b set) (s.setRecord x (some
    { key := f.requestKey, urgent := f.urgent, window := s.table.probeWindow, request := some b,
      mode := .probe { phase := .probing, set := set, pending := false } }))).count .probesStarted

/-- A trunk REQUEST with a PROBE outcome (R55). -/
def State.openProbe (s : State) (f : Frame) (b : BufId) : State :=
  if s.keyInUse f.requestKey then (s.release b).count .duplicates
  else match s.freeRecord with
    | none => (s.release b).count .probesSkipped
    | some x =>
      if setEmpty s.probeSet then (s.release b).count .probesSkipped
      else s.openProbeAt x f b s.probeSet

/-! ### The end of PROBE exchanges (R67, R68) -/

/-- A SETTLING exchange with an empty set and a clear return-pending flag becomes FREE (R68). -/
def State.settle (s : State) (x : SlotNo) (e : Exchange) (q : Probe) : State :=
  if setEmpty q.set && !q.pending then s.setRecord x none
  else s.setRecord x (some { e with mode := .probe q })

/-- Branch `b` leaves the probe set of the exchange at `x` (R60, R66, R70), and the exchange ends where
R67 or R68 says so. -/
def State.loseBranch (s : State) (x : SlotNo) (e : Exchange) (q : Probe) (b : BranchId) : State :=
  match q.phase with
  | .probing =>
    if setEmpty (branchSet q.set b false) then ((s.releaseOpt e.request).setRecord x none).count .probeMisses
    else s.setRecord x (some { e with mode := .probe { q with set := branchSet q.set b false } })
  | .settling => s.settle x e { q with set := branchSet q.set b false }

/-! ### Answers (R37 to R42, R61 to R65) -/

/-- The age refresh at a match or an accepted late answer (R38, R41, R14). -/
def State.refreshFor (s : State) (e : Exchange) (d : Direct) (f : Frame) : State :=
  if d.viaLearned && decide (f.kind = .response) then s.refreshAge e.key.station d.port else s

/-- A frame matches the exchange in slot `p` (R38). -/
def State.matched (s : State) (p : BranchId) (x : SlotNo) (e : Exchange) (d : Direct) (f : Frame) (b : BufId) : State :=
  (((s.setSlot p none).refreshFor e d f).returnFrame x e d b)

/-- A late answer is accepted from the repeat holder (R41). -/
def State.lateAccepted (s : State) (p : BranchId) (x : SlotNo) (e : Exchange) (d : Direct) (f : Frame) (b : BufId) : State :=
  (((s.setHolder p none).refreshFor e d f).returnFrame x e d b)

/-- The item is a probe item of the exchange (R63). -/
def BranchItem.isProbeOf (x : SlotNo) (i : BranchItem) : Bool := decide (i.kind = .probe x)

/-- Probe cancellation in one branch queue (R63, R102). -/
def State.cancelIn (x : SlotNo) (s : State) (q : BranchId) : State :=
  (s.setQueue q ((s.branch q).queue.filter (fun i => !i.isProbeOf x))).releaseAll
    (((s.branch q).queue.filter (fun i => i.isProbeOf x)).map (·.buf))

/-- The branches whose copy still waits in their queue. -/
def State.waitingCopy (s : State) (x : SlotNo) (q : BranchId) : Bool := (s.branch q).queue.any (fun i => i.isProbeOf x)

/-- The probe set without the branches whose copies a cancellation removes (R63). -/
def State.setAfterCancel (s : State) (x : SlotNo) (set : PerBranch Bool) : PerBranch Bool :=
  { b1 := set.b1 && !s.waitingCopy x .b1, b2 := set.b2 && !s.waitingCopy x .b2,
    b3 := set.b3 && !s.waitingCopy x .b3 }

/-- The return of a first answer is offered, and the exchange enters SETTLING or becomes FREE (R64, R68).
`q` has the probe set that is left. -/
def State.returnAnswer (s : State) (x : SlotNo) (e : Exchange) (q : Probe) (b : BufId) : State :=
  if s.admits (.frameReturn x b) then
    (s.enqueue (.frameReturn x b)).settle x { e with request := none } { q with phase := .settling, pending := true }
  else ((s.release b).count .returnsLost).settle x { e with request := none } { q with phase := .settling, pending := false }

/-- Two effects of one instant whose order no rule states, `alert` being the raising of an alert. Where
the order makes a difference to the trunk queue, the free value draws it (log 11). -/
def State.bothOrders (s : State) (effect alert : State → State) : State :=
  if (alert (effect s)).trunkQueue = (effect (alert s)).trunkQueue then alert (effect s)
  else if Config.alertAhead s.choices then effect (alert { s with choices := s.choices + 1 })
  else alert (effect { s with choices := s.choices + 1 })

/-- The first answer to a PROBING exchange, on branch `p` in buffer `b` (R64, R62, R63). -/
def State.firstAnswer (s : State) (p : BranchId) (x : SlotNo) (e : Exchange) (q : Probe) (b : BufId) : State :=
  let set := s.setAfterCancel x (branchSet q.set p false)
  let s1 := (((allBranches.foldl (State.cancelIn x) (s.setSlot p none)).releaseOpt e.request).learn e.key.station p)
  if (s.table.learn e.key.station p).2 = .conflicted then
    s1.bothOrders (fun t => t.returnAnswer x e { q with set := set } b)
      (fun t => t.raise .addressConflict e.key.station)
  else s1.returnAnswer x e { q with set := set } b

/-- A further answer to a SETTLING exchange (R65, R62). -/
def State.furtherAnswer (s : State) (p : BranchId) (x : SlotNo) (e : Exchange) (q : Probe) (b : BufId) : State :=
  let s1 := ((((s.setSlot p none).learn e.key.station p).release b).settle x e { q with set := branchSet q.set p false })
  if (s.table.learn e.key.station p).2 = .conflicted then s1.raise .addressConflict e.key.station else s1

/-- Where the exchange engine puts a branch frame (R37). -/
inductive AnswerCase where
  | matched (x : SlotNo) (e : Exchange) (d : Direct)
  | first (x : SlotNo) (e : Exchange) (q : Probe)
  | further (x : SlotNo) (e : Exchange) (q : Probe)
  | lateAccepted (x : SlotNo) (e : Exchange) (d : Direct)
  | lateUnsolicited
  | lateDiscarded
  | unsolicited
  deriving DecidableEq, Repr

/-- What the slot of branch `p` makes of an answer (R37 cases 2 and 3, R61). -/
def State.slotCase (s : State) (p : BranchId) (f : Frame) : Option AnswerCase :=
  match (s.branch p).slot with
  | none => none
  | some sl => match s.record sl.exch with
    | none => none
    | some e => match sl.kind, e.mode with
      | .request, .direct d =>
        if d.phase = .awaiting ∧ e.key = f.answerKey then some (.matched sl.exch e d) else none
      | .probe, .probe q =>
        if e.key = f.answerKey ∧ sl.deadline.isSome = true then
          match q.phase with
          | .probing => some (.first sl.exch e q)
          | .settling => some (.further sl.exch e q)
        else none
      | .request, .probe _ => none
      | .probe, .direct _ => none

/-- What the last-timed-out record of branch `p` makes of an answer (R37 case 4, R41, R42). -/
def State.lateCase (s : State) (p : BranchId) (f : Frame) : AnswerCase :=
  match (s.branch p).lastTimedOut with
  | none => .unsolicited
  | some (k, x) =>
    if k = f.answerKey then
      match s.record x with
      | none => .lateDiscarded
      | some e =>
        if e.key = k then
          match e.mode with
          | .direct d =>
            if d.phase = .repeating ∧ (s.branch p).holder = some x then .lateAccepted x e d
            else if d.phase = .queued ∧ d.port = p then .lateUnsolicited
            else .lateDiscarded
          | .probe _ => .lateDiscarded
        else .lateDiscarded
    else .unsolicited

/-- The case of R37 that a good well-formed frame on branch `p` falls under. -/
def State.answerCase (s : State) (p : BranchId) (f : Frame) : AnswerCase :=
  if f.isAnswer then
    match s.slotCase p f with
    | some c => c
    | none => s.lateCase p f
  else .unsolicited

/-! ### Window expiries (R39, R40, R66) -/

/-- The deadline of a slot is due at this instant: no sooner than window time units after its start,
and before window + 1 (R34, R59). -/
def State.due (s : State) (start : Nat) (window : Octet) : Bool :=
  decide (start + window.toNat * timeUnit ≤ s.now) && decide (s.now < start + (window.toNat + 1) * timeUnit)

/-- A window expiry of a DIRECT exchange on branch `p` (R39, R40). -/
def State.windowExpired (s : State) (p : BranchId) (x : SlotNo) (e : Exchange) (d : Direct) : State :=
  let s1 := ((s.count .timeouts).setSlot p none).setLastTimedOut p (some (e.key, x))
  if d.attempts ≤ d.retries.val then
    (s1.setHolder p (some x)).setRecord x (some { e with mode := .direct { d with phase := .repeating } })
  else s1.refuse x e d .timeout

/-! ### Ends of trunk items (R43, R44, R46, R68, R71) -/

/-- The return of exchange `x` was sent in full (R43, R68). -/
def State.returnDone (s : State) (x : SlotNo) : State :=
  match s.record x with
  | none => s
  | some e => match e.mode with
    | .direct _ => s.setRecord x none
    | .probe q => s.settle x e { q with pending := false }

/-- The return of exchange `x` was abandoned, or dropped by trunk teardown (R44, R46, R71). -/
def State.returnLost (s : State) (x : SlotNo) : State := (s.returnDone x).count .returnsLost

/-! ### Teardown of a branch and FLUSH (R45, R48, R70, R71) -/

/-- A DIRECT exchange that still lives on its branch: QUEUED, AWAITING or REPEAT. -/
def Direct.onBranch (d : Direct) : Bool :=
  match d.phase with
  | .queued => true
  | .awaiting => true
  | .repeating => true
  | .returning => false

/-- What the teardown of branch `p` does to one record (R45, R70). -/
def State.downRecord (p : BranchId) (s : State) (x : SlotNo) : State :=
  match s.record x with
  | none => s
  | some e => match e.mode with
    | .direct d => if d.port = p ∧ d.onBranch = true then s.refuse x e d .portDown else s
    | .probe q => if branchGet q.set p then s.loseBranch x e q p else s

/-- What a FLUSH does to one record (R48, R71). -/
def State.flushRecord (s : State) (x : SlotNo) : State :=
  match s.record x with
  | none => s
  | some e => match e.mode with
    | .direct d => if d.onBranch then s.refuse x e d .flushed else s
    | .probe q => match q.phase with
      | .probing => (s.releaseOpt e.request).setRecord x none
      | .settling => s.settle x e { q with set := emptySet }

/-- The slot, holder and last-timed-out record of a branch are emptied (R45, R48). -/
def State.clearBranch (s : State) (p : BranchId) : State :=
  s.setBranch p { s.branch p with slot := none, holder := none, lastTimedOut := none }

/-- A branch queue is emptied and its references released (R103, R104). -/
def State.emptyQueue (s : State) (p : BranchId) : State :=
  (s.setQueue p []).releaseAll ((s.branch p).queue.map (·.buf))

/-- The exchange engine and the queue at the teardown of branch `p` (R45, R70, R103). -/
def State.branchDown (s : State) (p : BranchId) : State :=
  allSlots.foldl (State.downRecord p) ((s.emptyQueue p).clearBranch p)

/-- The exchange engine and the branch queues at a FLUSH (R48, R71, R104). -/
def State.flushed (s : State) : State :=
  allSlots.foldl State.flushRecord
    (allBranches.foldl (fun t p => (t.emptyQueue p).clearBranch p) s)

end Sys2Proof.Machine
end

