-- ==== Sys2Proof/Machine/Lines.lean ====
section
/-! DEFINITION. Port states and their changes (section 6.2), teardown, the reset as an event, and the output pins. -/

namespace Sys2Proof.Machine

/-! ### Reset -/

/-- The reset that samples the given strap levels (R140, R172, R173). The queue of waiting commands
and the count of order choices are the model's own and stay. -/
def State.resetAt (s : State) (straps : Straps) : State :=
  { State.resetWith straps with choices := s.choices, pending := s.pending }

/-- The reset that follows the end of a RESTART's response (R155, R172): the unit is IDLE with its restart
flag set, and the straps are sampled again. -/
def State.settleRestart (s : State) (straps : Straps) : State :=
  if s.mgmt.restart = true ∧ s.mgmt.phase = .idle then s.resetAt straps else s

/-! ### Teardown at the line (R121) -/

/-- What a transmitter that is stopped leaves on the line: in SEND the character in progress, at whose end
the driver is released; in the other states what an earlier stop left, `old`, which may not have ended
yet. -/
def Tx.tailAt (t : Tx) (now ct : Nat) (rate : BitVec 3) (old : Option Tail) : Option Tail :=
  match t with
  | .send _ since frame =>
    let sent := (now - since) / ct
    if since + sent * ct = now then none
    else some { since := since, frame := frame, rate := rate, stop := since + (sent + 1) * ct }
  | .idle => old
  | .defer _ => old
  | .backoff _ => old

/-- A port leaves ACTIVE for the given line state: the frame being received and the current item are
dropped, and their references released (R121). -/
def State.stopPort (s : State) (p : PortId) (line : Line) : State :=
  match s.live? p with
  | none => s
  | some l =>
    ((s.setPort p { s.port p with
        line := line
        tail := l.tx.tailAt s.now (s.charTime p) (s.port p).rate (s.port p).tail }).releaseOpt l.rx.buf?).releaseOpt l.tx.buf?

/-- Teardown of a branch (R121, R45, R70, R103). -/
def State.tearDownBranch (s : State) (b : BranchId) (line : Line) : State :=
  (s.stopPort (branchPort b) line).branchDown b

/-- The owner of a trunk item is told that the item has been dropped (R110, R46, R71, R155, R181). -/
def State.dropItem (s : State) : TrunkItem → State
  | .frameReturn x _ => s.returnLost x
  | .refusalReturn x _ => s.returnLost x
  | .response => { s with mgmt := { s.mgmt with phase := .idle } }
  | .alert _ => s.alertLost
  | .busy _ => s
  | .immediate _ => s
  | .passUp _ => s

/-- The owner of a stopped current item is told (R121). -/
def State.dropCurrent (s : State) (t : Tx) : State :=
  match t.current? with
  | none => s
  | some c => match c.item with
    | .trunk i => s.dropItem i
    | .branch _ => s

/-- Teardown of the trunk (R110, R121, R46, R71). -/
def State.tearDownTrunk (s : State) (line : Line) : State :=
  match s.live? .p0 with
  | none => s
  | some l =>
    s.trunkQueue.foldl (fun t i => (t.releaseOpt i.buf?).dropItem i)
      { (s.stopPort .p0 line).dropCurrent l.tx with trunkQueue := [] }

/-! ### Changes of the port state -/

/-- Stuck-line detection on an ACTIVE port whose line returns to high at the instant `high` (R118, R119,
R121). The strap levels are sampled where the teardown ends the response of a RESTART (R155, R172). -/
def State.stuck (s : State) (p : PortId) (high : Nat) (straps : Straps) : State :=
  match portBranch p with
  | none =>
    (((s.countPort p .faults).tearDownTrunk (.fault high)).raise .portFault (portNumber p)).settleRestart straps
  | some b =>
    (s.countPort p .faults).bothOrders (fun t => t.tearDownBranch b (.fault high))
      (fun t => t.raise .portFault (portNumber p))

/-- Recovery of a port (R119). On the trunk the oldest listed alert is offered at the same instant as
PORT-RECOVERED is raised, in an order that R179 leaves open (log 11). -/
def State.recover (s : State) (p : PortId) : State :=
  (s.setLive p (.fresh s.now)).bothOrders State.offerAlert (fun t => t.raise .portRecovered (portNumber p))

/-- PORT-CONTROL enable (R117). -/
def State.enable (s : State) (p : PortId) : State :=
  match (s.port p).line with
  | .disabled => s.setLive p (.fresh s.now)
  | .active _ => s
  | .fault _ => s

/-- PORT-CONTROL disable of a branch (R120). -/
def State.disable (s : State) (b : BranchId) : State :=
  match (s.port (branchPort b)).line with
  | .disabled => s
  | .active _ => s.tearDownBranch b .disabled
  | .fault _ => s.setLine (branchPort b) .disabled

/-! ### Output pins (log 16) -/

/-- The levels of a character's 11 bits: start, data from bit 0, marker, stop (R113). -/
def characterBits (marker : Bool) (o : Octet) : List Bool :=
  [false, o.getLsbD 0, o.getLsbD 1, o.getLsbD 2, o.getLsbD 3, o.getLsbD 4, o.getLsbD 5, o.getLsbD 6,
    o.getLsbD 7, marker, true]

/-- The level of a frame on the line, `bits` bit times after its start (R113, R133): the characters
follow each other directly, and the first alone carries marker 1. -/
def frameLevel (frame : List Octet) (bits : Nat) : Bool :=
  match frame[bits / 11]? with
  | none => true
  | some o => (characterBits (decide (bits / 11 = 0)) o).getD (bits % 11) true

/-- The frame that a transmitter in SEND has on the line, with the instant of its start (R133). -/
def Tx.sending? : Tx → Option (Nat × List Octet)
  | .send _ since frame => some (since, frame)
  | .idle => none
  | .defer _ => none
  | .backoff _ => none

/-- What a transmit pin carries: a frame, the instant of its start, and the rate it goes at. -/
structure OnPin where
  since : Nat
  frame : List Octet
  rate  : BitVec 3
  deriving DecidableEq, Repr

/-- The rest of a character that a teardown lets finish, while it lasts (R121). -/
def Tail.at? (now : Nat) (t : Tail) : Option OnPin :=
  if now < t.stop then some { since := t.since, frame := t.frame, rate := t.rate } else none

/-- What is on a port's transmit pin (R116, R121, R133). A frame that a re-enabled port sends stands before
what an earlier teardown left to finish, which shows again if the frame ends first (DESIGN CHOICE,
log 25). -/
def State.driving (s : State) (p : PortId) : Option OnPin :=
  match (s.live? p).bind (fun l => l.tx.sending?) with
  | some (since, frame) => some { since := since, frame := frame, rate := (s.port p).rate }
  | none => (s.port p).tail.bind (Tail.at? s.now)

/-- The driver-enable pin of a port is asserted (R116, R133). -/
def State.driverEnabled (s : State) (p : PortId) : Bool := (s.driving p).isSome

/-- The level of a port's transmit-data pin: high unless a frame is on it (R116). -/
def State.transmitPin (s : State) (p : PortId) : Bool :=
  match s.driving p with
  | none => true
  | some f => frameLevel f.frame ((s.now - f.since) / bitTime f.rate)

/-- FAULT_N is asserted, driven low (R185). -/
def State.faultAsserted (s : State) : Bool :=
  s.inFault .p0 || s.inFault .p1 || s.inFault .p2 || s.inFault .p3 || decide (0 < s.table.conflictCount)

end Sys2Proof.Machine
end

