-- ==== Sys2Proof/Machine/Management.lean ====
section
/-! DEFINITION. The management unit (chapter 8) and the meanings of the twenty management rows. -/

namespace Sys2Proof.Machine

/-! ### The unit -/

/-- The octets of a management response, DEST to the last payload octet (R141, R148, R154). -/
def responseFrame (own : Octet) (h : Header) (code : Octet) (status : Status) (data : List Octet) : List Octet :=
  [h.src, own, ctlOctet .response h.urgent h.tag, natOctet (data.length + 2), code, status.code] ++ data

/-- The response is built and offered (R154). Where it is not admitted it is dropped, and the unit is
IDLE. A RESTART's response is offered while the trunk is ACTIVE and its place free, so no run resets
here (log 17). -/
def State.respond (s : State) (h : Header) (code : Octet) (status : Status) (data : List Octet) : State :=
  if s.admits .response then
    { s.enqueue .response with mgmt :=
      { s.mgmt with phase := .answering, response := responseFrame s.ownAddress h code status data } }
  else
    State.settleRestart { s with mgmt :=
      { s.mgmt with phase := .idle, response := responseFrame s.ownAddress h code status data } } s.strapPins

/-- The checks of a request's form for an operation code of R147 (R153): LEN 0 is BAD-OPERATION with 0x00
echoed, another LEN than the one of the code is BAD-LENGTH, and otherwise the operation goes on. -/
def State.withLen (s : State) (h : Header) (code : Octet) (op : State → State) : State :=
  if h.len = 0 then s.respond h 0 .badOperation []
  else if h.len = requestLen code then op s
  else s.respond h code .badLength []

/-- The BUSY refusal of a management request that finds the unit busy (R78, R79). -/
def State.refuseBusy (s : State) (h : Header) : State :=
  let r : RefusalItem :=
    { requester := h.src, station := s.ownAddress, tag := h.tag, urgent := h.urgent, reason := .busy }
  if s.admits (.busy r) then (s.enqueue (.busy r)).count (.refusals .busy) else s.count .managementDiscards

/-- Dispatch hands a request to the unit, or refuses it (R78, R153). -/
def State.deliver (s : State) (h : Header) (op : State → State) : State :=
  if s.mgmt.phase = .idle then op s else s.refuseBusy h

/-- The receiver of a port assembles frames: the port is ACTIVE and not in SEND (R116, R129). -/
def State.hears (s : State) (p : PortId) : Bool :=
  match s.live? p with
  | some l => l.tx.sending?.isNone
  | none => false

/-- A request with this header is well formed at this part (R76). -/
def State.validSource (s : State) (h : Header) : Bool :=
  !decide (h.src = 0x00#8) && !decide (h.src = 0xFF#8) && !decide (h.src = s.ownAddress)

/-- A management request ends on the trunk and dispatch hands it over (log 5). -/
def State.requestArrives (s : State) (h : Header) (op : State → State) : State :=
  if s.hears .p0 && s.validSource h then s.deliver h op else s

/-! ### Reporting operations (section 8.3) -/

/-- IDENTIFY (R157). -/
def State.identify (s : State) (h : Header) : State :=
  s.withLen h 0x01 (fun s => s.respond h 0x01 .ok
    ([0x07, 0x1B, 0x30, 0x04, 2, s.ownAddress, 48, 62, 16, 64, 32, 8, 28, 8] ++ wordOctets s.table.generation))

/-- How many records are in the state of a code (R150). -/
def State.stateCount (s : State) (code : Octet) : Nat :=
  (s.records.filter (fun r => decide (exchangeStateCode r = code))).length

/-- The data of a READ-STATUS response (R150, R158). -/
def State.statusData (s : State) : List Octet :=
  [(s.port .p0).line.code, (s.port .p1).line.code, (s.port .p2).line.code, (s.port .p3).line.code,
   natOctet s.pool.free.length,
   natOctet (s.stateCount 0), natOctet (s.stateCount 1), natOctet (s.stateCount 2), natOctet (s.stateCount 3),
   natOctet (s.stateCount 4), natOctet (s.stateCount 5), natOctet (s.stateCount 6),
   natOctet s.table.learnedCount, natOctet s.table.conflictCount,
   natOctet s.alerts.list.length, boolOctet s.alerts.overflow] ++
  wordOctets s.table.generation ++ [s.table.policy.code]

/-- READ-STATUS (R158). -/
def State.readStatus (s : State) (h : Header) : State :=
  s.withLen h 0x02 (fun s => s.respond h 0x02 .ok s.statusData)

/-- The settings octets of a port: unsolicited policy, broadcast pass, probe member; 0 for P0 (R150). -/
def State.settingOctets (s : State) (p : PortId) : List Octet :=
  match portBranch p with
  | none => [0, 0, 0]
  | some b => [(s.branch b).unsolicited.code, boolOctet (s.branch b).broadcastPass, boolOctet (s.branch b).probeMember]

/-- The data of a READ-PORT response (R150, R159). -/
def State.portData (s : State) (p : PortId) : List Octet :=
  [portNumber p, (s.port p).line.code, (s.port p).rate.setWidth 8, (s.port p).guard.setWidth 8] ++
  s.settingOctets p ++ portCounterOrder.flatMap (fun c => wordOctets (s.portCounter p c))

/-- The clear of a port's twelve counters (R184). -/
def State.clearPortCounters (s : State) (p : PortId) : State := s.setPort p { s.port p with counters := .zero }

/-- READ-PORT (R159, R184). -/
def State.readPort (s : State) (h : Header) (port clear : Octet) : State :=
  s.withLen h 0x03 (fun s => match portOfOctet port with
    | none => s.respond h 0x03 .badIndex []
    | some p =>
      if clear = 0 then s.respond h 0x03 .ok (s.portData p)
      else if clear = 1 then (s.clearPortCounters p).respond h 0x03 .ok (s.portData p)
      else s.respond h 0x03 .badValue [])

/-- The data of a READ-BRIDGE response (R150, R160). -/
def State.bridgeData (s : State) : List Octet :=
  bridgeCounterOrder.flatMap (fun c => wordOctets (s.bridgeCounter c))

/-- READ-BRIDGE (R160, R184). -/
def State.readBridge (s : State) (h : Header) (clear : Octet) : State :=
  s.withLen h 0x04 (fun s =>
    if clear = 0 then s.respond h 0x04 .ok s.bridgeData
    else if clear = 1 then State.respond { s with counters := .zero } h 0x04 .ok s.bridgeData
    else s.respond h 0x04 .badValue [])

/-- READ-EXCHANGES (R161). -/
def State.readExchanges (s : State) (h : Header) (first count : Octet) : State :=
  s.withLen h 0x0B (fun s =>
    if 15 < first.toNat then s.respond h 0x0B .badIndex []
    else if count.toNat = 0 ∨ 6 < count.toNat then s.respond h 0x0B .badValue []
    else if 16 < first.toNat + count.toNat then s.respond h 0x0B .badIndex []
    else s.respond h 0x0B .ok
      ([first, count] ++ ((s.records.drop first.toNat).take count.toNat).flatMap exchangeOctets))

/-! ### Station table operations (section 8.4) -/

/-- READ-ENTRY (R21, R162). -/
def State.readEntry (s : State) (h : Header) (bank index : Octet) : State :=
  s.withLen h 0x05 (fun s =>
    if 1 < bank.toNat then s.respond h 0x05 .badValue []
    else if 63 < index.toNat then s.respond h 0x05 .badIndex []
    else s.respond h 0x05 .ok ([bank, index] ++
      entryOctets ((if bank = 0 then s.table.active else s.table.shadow).getD index.toNat none)))

/-- A SHADOW entry is replaced (R2). -/
def State.writeShadow (s : State) (index : Octet) (e : Option Entry) : State :=
  { s with table := { s.table with shadow := s.table.shadow.set index.toNat e } }

/-- WRITE-ENTRY (R2, R163). -/
def State.writeEntry (s : State) (h : Header) (index valid base mask action port window retries : Octet) : State :=
  s.withLen h 0x06 (fun s =>
    if 63 < index.toNat then s.respond h 0x06 .badIndex []
    else if 1 < valid.toNat then s.respond h 0x06 .badValue []
    else if valid = 0 then (s.writeShadow index none).respond h 0x06 .ok [index]
    else match entryOf base mask action port window retries with
      | none => s.respond h 0x06 .badValue []
      | some e => (s.writeShadow index (some e)).respond h 0x06 .ok [index])

/-- PREPARE-SHADOW in clear mode (R3, R164). -/
def State.prepareClear (s : State) (h : Header) : State :=
  s.withLen h 0x07 (fun s =>
    State.respond { s with table := { s.table with shadow := List.replicate 64 none } } h 0x07 .ok [])

/-- The unit becomes WORKING on a shadow copy (R3, R18, R152). -/
def State.startCopy (s : State) (h : Header) (job : CopyJob) : State :=
  { s with mgmt := { s.mgmt with phase := .working h job s.now } }

/-- PREPARE-SHADOW in copy mode (R3, R164). -/
def State.prepareCopy (s : State) (h : Header) : State :=
  s.withLen h 0x07 (fun s => s.startCopy h .prepare)

/-- COMMIT (R17, R165). -/
def State.commit (s : State) (h : Header) (expected : Word) : State :=
  s.withLen h 0x08 (fun s =>
    if expected = s.table.generation then State.startCopy { s with table := s.table.swap } h .commit
    else s.respond h 0x08 .stale (wordOctets s.table.generation))

/-- The completion event of a shadow copy (R3, R18, R156, R164, R165). -/
def State.copyDone (s : State) (h : Header) (job : CopyJob) : State :=
  let s1 : State := { s with table := { s.table with shadow := s.table.active } }
  match job with
  | .commit => s1.respond h 0x08 .ok (wordOctets s.table.generation)
  | .prepare => s1.respond h 0x07 .ok []

/-- READ-LEARNED (R21, R166). -/
def State.readLearned (s : State) (h : Header) (first count : Octet) : State :=
  s.withLen h 0x09 (fun s =>
    if 31 < first.toNat then s.respond h 0x09 .badIndex []
    else if count.toNat = 0 ∨ 8 < count.toNat then s.respond h 0x09 .badValue []
    else if 32 < first.toNat + count.toNat then s.respond h 0x09 .badIndex []
    else s.respond h 0x09 .ok
      ([first, count] ++ ((s.table.learned.drop first.toNat).take count.toNat).flatMap learnedOctets))

/-- FORGET in the one-address form (R19, R167). -/
def State.forgetAddress (s : State) (h : Header) (a : Octet) : State :=
  s.withLen h 0x0A (fun s =>
    (s.setLearned (s.table.learned.map (forgetPlace a))).respond h 0x0A .ok [natOctet (s.table.forgetCount a)])

/-- FORGET in the all form (R19, R167). -/
def State.forgetAll (s : State) (h : Header) : State :=
  s.withLen h 0x0A (fun s =>
    (s.setLearned (s.table.learned.map (fun _ => none))).respond h 0x0A .ok [natOctet s.table.learnedCount])

/-! ### Port and policy operations (section 8.5) -/

/-- The code of an unsolicited policy, read from an octet already checked (R149). -/
def unsolicitedOfOctet (o : Octet) : UnsolicitedPolicy := if o = 0 then .drop else .passUp

/-- The five settings of a branch are replaced (R115, R168). -/
def State.configure (s : State) (b : BranchId) (rate guard unsolicited broadcast probe : Octet) : State :=
  (s.setPort (branchPort b) { s.port (branchPort b) with rate := rate.setWidth 3, guard := guard.setWidth 4 }).setBranch b
    { s.branch b with unsolicited := unsolicitedOfOctet unsolicited,
                      broadcastPass := decide (broadcast = 1), probeMember := decide (probe = 1) }

/-- SET-PORT (R168). -/
def State.setPortSettings (s : State) (h : Header) (port rate guard unsolicited broadcast probe : Octet) : State :=
  s.withLen h 0x0C (fun s => match portOfOctet port with
    | none => s.respond h 0x0C .badIndex []
    | some p => match portBranch p with
      | none => s.respond h 0x0C .notPermitted []
      | some b =>
        if (s.port p).line ≠ .disabled then s.respond h 0x0C .portActive []
        else if 7 < rate.toNat ∨ guard.toNat = 0 ∨ 15 < guard.toNat ∨ 1 < unsolicited.toNat ∨
            1 < broadcast.toNat ∨ 1 < probe.toNat then s.respond h 0x0C .badValue []
        else (s.configure b rate guard unsolicited broadcast probe).respond h 0x0C .ok [port])

/-- PORT-CONTROL with action enable (R117, R169). -/
def State.controlEnable (s : State) (h : Header) (port : Octet) : State :=
  s.withLen h 0x0D (fun s => match portOfOctet port with
    | none => s.respond h 0x0D .badIndex []
    | some p => (s.enable p).respond h 0x0D .ok [port, ((s.enable p).port p).line.code])

/-- PORT-CONTROL with action disable (R120, R169). -/
def State.controlDisable (s : State) (h : Header) (port : Octet) : State :=
  s.withLen h 0x0D (fun s => match portOfOctet port with
    | none => s.respond h 0x0D .badIndex []
    | some p => match portBranch p with
      | none => s.respond h 0x0D .notPermitted []
      | some b => (s.disable b).respond h 0x0D .ok [port, ((s.disable b).port p).line.code])

/-- PORT-CONTROL with any other action code (R153, R169). -/
def State.controlOther (s : State) (h : Header) (port : Octet) : State :=
  s.withLen h 0x0D (fun s => match portOfOctet port with
    | none => s.respond h 0x0D .badIndex []
    | some _ => s.respond h 0x0D .badValue [])

/-- The five values of a SET-BRIDGE are taken; a changed ageing interval restarts the ageing timer (R16,
R20, R170). -/
def State.configureBridge (s : State) (policy window retries ageing dest : Octet) : State :=
  { s with
    table := { s.table with
      policy := if policy = 0 then .ignore else .probe
      probeWindow := window
      learnedRetries := Fin.ofNat 4 retries.toNat
      ageing := ageing
      ageingFrom := if ageing = s.table.ageing then s.table.ageingFrom else s.now }
    alerts := { s.alerts with dest := dest } }

/-- SET-BRIDGE (R170, R178, R187). The response is offered before the alert. -/
def State.setBridge (s : State) (h : Header) (policy window retries ageing dest : Octet) : State :=
  s.withLen h 0x0E (fun s =>
    if 1 < policy.toNat ∨ window.toNat = 0 ∨ 3 < retries.toNat ∨ dest = s.ownAddress then
      s.respond h 0x0E .badValue []
    else ((s.configureBridge policy window retries ageing dest).respond h 0x0E .ok []).offerAlert)

/-! ### FLUSH, RESTART and failing requests (section 8.6, R153) -/

/-- FLUSH (R171). -/
def State.flush (s : State) (h : Header) : State :=
  s.withLen h 0x0F (fun s => s.flushed.respond h 0x0F .ok [])

/-- RESTART (R172). -/
def State.restart (s : State) (h : Header) : State :=
  s.withLen h 0x10 (fun s => State.respond { s with mgmt := { s.mgmt with restart := true } } h 0x10 .ok [])

/-- A request with LEN 0, which echoes 0x00, or an operation code outside R147 (R148, R153). -/
def State.badOperation (s : State) (h : Header) (code : Octet) : State :=
  s.respond h (if h.len = 0 then 0 else code) .badOperation []

/-- A request whose choice octet has no meaning for its operation (R149, R153). -/
def State.badChoice (s : State) (h : Header) (code : Octet) : State :=
  s.withLen h code (fun s => s.respond h code .badValue [])

/-- The operation that a request's payload names (R147, R153), `q` giving the payload octets. -/
def State.operate (s : State) (h : Header) (q : Nat → Octet) : State :=
  if h.len = 0 then s.badOperation h 0
  else match (q 0).toNat with
    | 0x01 => s.identify h
    | 0x02 => s.readStatus h
    | 0x03 => s.readPort h (q 1) (q 2)
    | 0x04 => s.readBridge h (q 1)
    | 0x05 => s.readEntry h (q 1) (q 2)
    | 0x06 => s.writeEntry h (q 1) (q 2) (q 3) (q 4) (q 5) (q 6) (q 7) (q 8)
    | 0x07 => if q 1 = 0 then s.prepareClear h else if q 1 = 1 then s.prepareCopy h else s.badChoice h 0x07
    | 0x08 => s.commit h (q 2 ++ q 1)
    | 0x09 => s.readLearned h (q 1) (q 2)
    | 0x0A => if q 1 = 0 then s.forgetAddress h (q 2) else if q 1 = 1 then s.forgetAll h else s.badChoice h 0x0A
    | 0x0B => s.readExchanges h (q 1) (q 2)
    | 0x0C => s.setPortSettings h (q 1) (q 2) (q 3) (q 4) (q 5) (q 6)
    | 0x0D => if q 2 = 0 then s.controlDisable h (q 1) else if q 2 = 1 then s.controlEnable h (q 1)
              else s.controlOther h (q 1)
    | 0x0E => s.setBridge h (q 1) (q 2) (q 3) (q 4) (q 5)
    | 0x0F => s.flush h
    | 0x10 => s.restart h
    | _ => s.badOperation h (q 0)

/-! ### The rows -/

/-- A command's outcome: the part goes on. -/
abbrev Result := Host.Outcome State Fault Refusal

def execIdentify (dt : Nat) (h : Header) (s : State) : Result :=
  .next ((s.advance dt).requestArrives h (fun t => t.identify h))

def execReadStatus (dt : Nat) (h : Header) (s : State) : Result :=
  .next ((s.advance dt).requestArrives h (fun t => t.readStatus h))

def execReadPort (dt : Nat) (h : Header) (port clear : Octet) (s : State) : Result :=
  .next ((s.advance dt).requestArrives h (fun t => t.readPort h port clear))

def execReadBridge (dt : Nat) (h : Header) (clear : Octet) (s : State) : Result :=
  .next ((s.advance dt).requestArrives h (fun t => t.readBridge h clear))

def execReadEntry (dt : Nat) (h : Header) (bank index : Octet) (s : State) : Result :=
  .next ((s.advance dt).requestArrives h (fun t => t.readEntry h bank index))

def execWriteEntry (dt : Nat) (h : Header) (index valid base mask action port window retries : Octet)
    (s : State) : Result :=
  .next ((s.advance dt).requestArrives h (fun t => t.writeEntry h index valid base mask action port window retries))

def execPrepareShadowClear (dt : Nat) (h : Header) (s : State) : Result :=
  .next ((s.advance dt).requestArrives h (fun t => t.prepareClear h))

def execPrepareShadowCopy (dt : Nat) (h : Header) (s : State) : Result :=
  .next ((s.advance dt).requestArrives h (fun t => t.prepareCopy h))

def execCommit (dt : Nat) (h : Header) (expected : Word) (s : State) : Result :=
  .next ((s.advance dt).requestArrives h (fun t => t.commit h expected))

def execReadLearned (dt : Nat) (h : Header) (first count : Octet) (s : State) : Result :=
  .next ((s.advance dt).requestArrives h (fun t => t.readLearned h first count))

def execForgetAddress (dt : Nat) (h : Header) (a : Octet) (s : State) : Result :=
  .next ((s.advance dt).requestArrives h (fun t => t.forgetAddress h a))

def execForgetAll (dt : Nat) (h : Header) (s : State) : Result :=
  .next ((s.advance dt).requestArrives h (fun t => t.forgetAll h))

def execReadExchanges (dt : Nat) (h : Header) (first count : Octet) (s : State) : Result :=
  .next ((s.advance dt).requestArrives h (fun t => t.readExchanges h first count))

def execSetPort (dt : Nat) (h : Header) (port rate guard unsolicited broadcast probe : Octet)
    (s : State) : Result :=
  .next ((s.advance dt).requestArrives h
    (fun t => t.setPortSettings h port rate guard unsolicited broadcast probe))

def execPortControlEnable (dt : Nat) (h : Header) (port : Octet) (s : State) : Result :=
  .next ((s.advance dt).requestArrives h (fun t => t.controlEnable h port))

def execPortControlDisable (dt : Nat) (h : Header) (port : Octet) (s : State) : Result :=
  .next ((s.advance dt).requestArrives h (fun t => t.controlDisable h port))

def execSetBridge (dt : Nat) (h : Header) (policy window retries ageing dest : Octet) (s : State) : Result :=
  .next ((s.advance dt).requestArrives h (fun t => t.setBridge h policy window retries ageing dest))

def execFlush (dt : Nat) (h : Header) (s : State) : Result :=
  .next ((s.advance dt).requestArrives h (fun t => t.flush h))

def execRestart (dt : Nat) (h : Header) (s : State) : Result :=
  .next ((s.advance dt).requestArrives h (fun t => t.restart h))

/-- A BAD_OPERATION that names an operation of R147 with a LEN above 0 is no such request (log 24): it
has no effect. -/
def execBadOperation (dt : Nat) (h : Header) (code : Octet) (s : State) : Result :=
  .next (if h.len = 0 ∨ isOperationCode code = false then
      (s.advance dt).requestArrives h (fun t => t.badOperation h code)
    else s.advance dt)

/-- SHADOW_COPY_COMPLETION (R3, R18): the copy of a WORKING unit ends no later than 100 µs after its
start. -/
def execShadowCopyCompletion (dt : Nat) (s : State) : Result :=
  .next (match s.mgmt.phase with
    | .working h job since =>
      if s.now + dt ≤ since + timeUnit then (s.advance dt).copyDone h job else s.advance dt
    | .idle => s.advance dt
    | .answering => s.advance dt)

/-- AGEING_EXPIRY (R15, R16): the timer runs, and its interval is over. -/
def execAgeingExpiry (dt : Nat) (s : State) : Result :=
  .next (if s.table.ageing ≠ 0 ∧ s.table.ageingFrom + s.table.ageing.toNat * second ≤ s.now + dt then
      State.age { s.advance dt with table := { s.table with ageingFrom := s.now + dt } }
    else s.advance dt)

/-- HARDWARE_RESET (R173). -/
def execHardwareReset (dt : Nat) (straps : Straps) (s : State) : Result :=
  .next ((s.advance dt).resetAt straps)

end Sys2Proof.Machine
end

