-- ==== Sys2Proof/Machine/FrameDispatch.lean ====
section
/-! DEFINITION. Frame dispatch (chapter 4): the fate of each good frame. -/

namespace Sys2Proof.Machine

/-! ### Notices (R81, R83, R84) -/

/-- A copy of the notice in buffer `b` is offered to the queue of branch `q`; where it is not placed,
QUEUE-DROPS is counted (R84). -/
def State.placeNotice (f : Frame) (b : BufId) (s : State) (q : BranchId) : State :=
  if s.branchHasRoom q then s.appendItem q { kind := .notice, urgent := f.urgent, buf := b }
  else s.countPort (branchPort q) .queueDrops

/-- Copies are placed branch by branch through the target set; the receiver's reference ends (R84). Each
item placed takes a reference of its own before that, so the count ends at the number of items. -/
def State.placeNotices (s : State) (f : Frame) (b : BufId) (targets : List BranchId) : State :=
  (targets.foldl (State.placeNotice f b) s).release b

/-- The targets of a broadcast (R81). -/
def State.broadcastTargets (s : State) : List BranchId :=
  allBranches.filter (fun q => s.isActive (branchPort q) && (s.branch q).broadcastPass)

/-- The targets of a notice under a PROBE outcome (R83). -/
def State.probeTargets (s : State) : List BranchId :=
  allBranches.filter (fun q => s.isActive (branchPort q) && (s.branch q).probeMember)

/-- A directed notice and the outcome of its resolution (R83). -/
def State.directedNotice (s : State) (f : Frame) (b : BufId) : Resolved → State
  | .forward p _ _ _ => s.placeNotices f b [p]
  | .probe => s.placeNotices f b s.probeTargets
  | .onTrunk => s.release b
  | .block => s.release b
  | .conflict => s.release b
  | .ignore => s.release b

/-! ### Requests (R85, R86) -/

/-- A trunk REQUEST and the outcome of its resolution (R85, R86). -/
def State.trunkRequest (s : State) (f : Frame) (b : BufId) : Resolved → State
  | .forward p window retries viaLearned => s.openDirect f b p window retries viaLearned
  | .probe => s.openProbe f b
  | .block => s.refuseAtOnce b (f.refusal .blocked)
  | .conflict => s.refuseAtOnce b (f.refusal .conflict)
  | .onTrunk => s.release b
  | .ignore => s.release b

/-! ### Frames on the trunk (R77) -/

/-- The header that the management unit copies of a request (R153). -/
def Frame.header (f : Frame) : Header := { src := f.src, tag := f.tag, urgent := f.urgent, len := f.len }

/-- A frame to the part's own address (R78, R80). The request's reference is released, and the unit or
dispatch goes on with what was copied. -/
def State.toOwn (s : State) (f : Frame) (b : BufId) : State :=
  match f.kind with
  | .request => (s.release b).deliver f.header (fun t => t.operate f.header (fun i => f.payload.getD i 0))
  | .notice => s.release b
  | .response => s.release b
  | .refusal => s.release b
  | .reserved => s.release b

/-- A well-formed frame that ends on the trunk (R77). -/
def State.trunkFrame (s : State) (f : Frame) (b : BufId) : State :=
  if f.dest = s.ownAddress then s.toOwn f b
  else if f.dest = 0xFF#8 then s.placeNotices f b s.broadcastTargets
  else if isRequesterAddress f.dest then s.release b
  else match f.kind with
    | .notice => s.directedNotice f b (s.resolve f.dest)
    | .request => s.trunkRequest f b (s.resolve f.dest)
    | .response => s.release b
    | .refusal => s.release b
    | .reserved => s.release b

/-! ### Frames on the branches (R88 to R90) -/

/-- An unsolicited frame on branch `p` (R89, R90). -/
def State.unsolicitedFrame (s : State) (p : BranchId) (b : BufId) : State :=
  match (s.branch p).unsolicited with
  | .drop => (s.countPort (branchPort p) .unsolicited).release b
  | .passUp =>
    if (s.countPort (branchPort p) .unsolicited).admits (.passUp b) then
      (s.countPort (branchPort p) .unsolicited).enqueue (.passUp b)
    else ((s.countPort (branchPort p) .unsolicited).release b).countPort (branchPort p) .queueDrops

/-- A well-formed frame that ends on branch `p` (R88, with R37). -/
def State.branchFrame (s : State) (p : BranchId) (f : Frame) (b : BufId) : State :=
  match s.answerCase p f with
  | .matched x e d => s.matched p x e d f b
  | .first x e q => s.firstAnswer p x e q b
  | .further x e q => s.furtherAnswer p x e q b
  | .lateAccepted x e d => s.lateAccepted p x e d f b
  | .lateUnsolicited => (s.countPort (branchPort p) .late).unsolicitedFrame p b
  | .lateDiscarded => (s.countPort (branchPort p) .late).release b
  | .unsolicited => s.unsolicitedFrame p b

/-- Dispatch decides the fate of a good frame in buffer `b` on port `p` (R75, R76, R77, R88). -/
def State.dispatch (s : State) (p : PortId) (b : BufId) : State :=
  if (frameOf (s.octets b)).malformed then (s.countPort p .malformed).release b
  else match portBranch p with
    | none => s.trunkFrame (frameOf (s.octets b)) b
    | some q => s.branchFrame q (frameOf (s.octets b)) b

end Sys2Proof.Machine
end

