-- ==== Sys2Proof/Machine/Receiver.lean ====
section
/-! DEFINITION. The receivers and the line events of the ports (sections 6.1 to 6.3), and the meanings of their rows. -/

namespace Sys2Proof.Machine

/-! ### The receiver of an ACTIVE port -/

/-- What works in a port is replaced in one of its parts. -/
def State.setRx (s : State) (p : PortId) (l : Live) (rx : Rx) : State := s.setLive p { l with rx := rx }

/-- The frame in progress ends early: TRUNCATED in COLLECT, nothing in DISCARD (R124, R125, R126, R129).
The receiver is then in HUNT. -/
def State.endEarly (s : State) (p : PortId) (l : Live) : State :=
  match l.rx with
  | .hunt => s
  | .collect b => ((s.setRx p l .hunt).countPort p .truncated).release b
  | .discard _ _ => s.setRx p l .hunt

/-- The line timers at the end of a good character: the busy period ends, and the line is high (R113,
R118). -/
def Live.heard (l : Live) (now : Nat) : Live :=
  { l with idleFrom := now, highFrom := now, stuckFrom := now, busy := false }

/-- The line timers where the line stays low until the instant `back`, after it was high at `high`: the busy
period ends when the line returns high (R113, R118). -/
def Live.heldLow (l : Live) (back high : Nat) : Live :=
  { l with idleFrom := back, highFrom := back, stuckFrom := high, busy := false }

/-- The line timers at a character with a framing error that began `ago` before, the line staying low for
`low` more: the busy period ends when the line returns high, and the line was high before the character
(R113, R118). -/
def Live.heardError (l : Live) (now ago low : Nat) : Live :=
  l.heldLow (now + low) (max l.stuckFrom (now - ago))

/-- A marked character starts a frame (R122): the receiver claims a buffer. -/
def State.startFrame (s : State) (p : PortId) (l : Live) (o : Octet) : State :=
  match s.claim p with
  | (some b, t) => { t.setRx p l (.collect b) with pool := (t.pool.store b o) }
  | (none, t) => (t.setRx p l (.discard 1 none)).countPort p .nobufDrops

/-- A marked character (R122, R126). -/
def State.marked (s : State) (p : PortId) (o : Octet) (l : Live) : State :=
  ((s.setLive p l).endEarly p l).startFrame p { l with rx := .hunt } o

/-- The whole frame is in buffer `b`: its check is compared (R128). -/
def State.frameDone (s : State) (p : PortId) (l : Live) (b : BufId) : State :=
  if goodCheck (s.octets b) then ((s.setRx p l .hunt).countPort p .framesIn).dispatch p b
  else ((s.setRx p l .hunt).countPort p .checkErrors).release b

/-- A character with marker 0 in COLLECT (R123, R128). -/
def State.collectOctet (s : State) (p : PortId) (l : Live) (b : BufId) (o : Octet) : State :=
  let t : State := { s with pool := s.pool.store b o }
  let os := t.octets b
  if os.length = 4 ∧ 56 < o.toNat then ((t.setRx p l .hunt).countPort p .malformed).release b
  else if 4 < os.length ∧ os.length = (os.getD 3 0).toNat + 6 then t.frameDone p l b
  else t.setLive p l

/-- A character with marker 0 in DISCARD (R127). -/
def State.discardOctet (s : State) (p : PortId) (l : Live) (count : Nat) (len : Option Octet) (o : Octet) : State :=
  if count + 1 = 4 then
    if 56 < o.toNat then s.setRx p l .hunt else s.setRx p l (.discard 4 (some o))
  else match len with
    | none => s.setRx p l (.discard (count + 1) none)
    | some n =>
      if count + 1 = n.toNat + 6 then s.setRx p l .hunt else s.setRx p l (.discard (count + 1) (some n))

/-- A character with marker 0 and a good stop bit (R122, R123, R127). -/
def State.unmarked (s : State) (p : PortId) (o : Octet) (l : Live) : State :=
  match l.rx with
  | .hunt => s.setLive p l
  | .collect b => s.collectOctet p l b o
  | .discard count len => s.discardOctet p l count len o

/-- An event at the receiver of a port that assembles frames: an ACTIVE port that is not in SEND (R116,
R129). -/
def State.listening (s : State) (p : PortId) (act : Live → State → State) : State :=
  match s.live? p with
  | some l => if l.tx.sending?.isNone then act l s else s
  | none => s

/-- A character ends on the line of a port that listens. It began between characters, and after a framing
error not before the line was high again: its stop-bit sample lies a whole character after the end of
the last busy period (R113). -/
def State.character (s : State) (p : PortId) (act : Live → State → State) : State :=
  s.listening p (fun l t => if l.idleFrom + t.sampleTime p ≤ t.now then act l t else t)

/-- A good character with marker 0, whatever the receiver makes of it. -/
def State.unmarkedCharacter (s : State) (p : PortId) (o : Octet) : State :=
  s.character p (fun l t => t.unmarked p o (l.heard t.now))

/-- A character with a framing error (R113, R122, R125). -/
def State.errorCharacter (s : State) (p : PortId) (low : Nat) : State :=
  s.character p (fun l t =>
    (t.setLive p (l.heardError t.now (t.sampleTime p) low)).endEarly p (l.heardError t.now (t.sampleTime p) low))

/-- The gap timer has passed 2 character times, and no start bit has been qualified before (R124). -/
def State.gap (s : State) (p : PortId) : State :=
  s.listening p (fun l t => if l.idleFor (2 * t.charTime p + 1) t.now then t.endEarly p l else t)

/-! ### The rows -/

/-- MARKED_CHARACTER (R122, R126). -/
def execMarkedCharacter (dt : Nat) (p : PortId) (o : Octet) (s : State) : Result :=
  .next ((s.advance dt).character p (fun l t => t.marked p o (l.heard t.now)))

/-- OVERSIZE_LEN (R123, R127). Like every character with marker 0, it is what the receiver makes of it
(log 7). -/
def execOversizeLen (dt : Nat) (p : PortId) (o : Octet) (s : State) : Result :=
  .next ((s.advance dt).unmarkedCharacter p o)

/-- FRAME_END (R123, R128; log 7). -/
def execFrameEnd (dt : Nat) (p : PortId) (o : Octet) (s : State) : Result :=
  .next ((s.advance dt).unmarkedCharacter p o)

/-- DISCARDED_FRAME_END (R127; log 7). -/
def execDiscardedFrameEnd (dt : Nat) (p : PortId) (o : Octet) (s : State) : Result :=
  .next ((s.advance dt).unmarkedCharacter p o)

/-- MARKER_0_CHARACTER (R122, R123, R127). -/
def execMarker0Character (dt : Nat) (p : PortId) (o : Octet) (s : State) : Result :=
  .next ((s.advance dt).unmarkedCharacter p o)

/-- FRAMING_ERROR (R122, R125). -/
def execFramingError (dt : Nat) (p : PortId) (low : Nat) (s : State) : Result :=
  .next ((s.advance dt).errorCharacter p low)

/-- GAP_EXPIRY (R124). -/
def execGapExpiry (t : LineTime) (p : PortId) (s : State) : Result :=
  .next (((s.advance t.dt).lineSeen p t.busy).gap p)

/-- STUCK_LINE (R118): an ACTIVE port whose line can have been low for 4 character times (log 9). -/
def execStuckLine (t : StrapTime) (p : PortId) (low : Nat) (s : State) : Result :=
  .next (match s.live? p with
    | some l =>
      if l.highAt (s.now + t.dt) (s.port p).rate + 4 * s.charTime p ≤ s.now + t.dt then
        (s.advance t.dt).stuck p (max l.highFrom (s.now + t.dt + low)) t.straps
      else s.advance t.dt
    | none => s.advance t.dt)

/-- RECOVERY (R119): a port in FAULT whose recovery timer has reached 32 character times. -/
def execRecovery (dt : Nat) (p : PortId) (s : State) : Result :=
  .next (match (s.port p).line with
    | .fault since =>
      if since + 32 * s.charTime p ≤ s.now + dt then (s.advance dt).recover p else s.advance dt
    | .active _ => s.advance dt
    | .disabled => s.advance dt)

/-- RECOVERY_TIMER_RESTART (R119): the recovery timer counts from the line's next return to high. The
transition to low that is sampled now began half a bit time ago, on a line that had returned to high. -/
def execRecoveryTimerRestart (dt : Nat) (p : PortId) (low : Nat) (s : State) : Result :=
  .next (match (s.port p).line with
    | .fault since =>
      if since + s.startSampleTime p ≤ s.now + dt then (s.advance dt).setLine p (.fault (s.now + dt + low))
      else s.advance dt
    | .active _ => s.advance dt
    | .disabled => s.advance dt)

end Sys2Proof.Machine
end

