-- ==== Sys2Proof/Machine/Transmitter.lean ====
section
/-! DEFINITION. The transmitters (section 6.4) and the response windows, and the meanings of their rows. -/

namespace Sys2Proof.Machine

/-! ### Sending -/

/-- The transmitter enters SEND with a current item: a frame being received ends early, and the item's
frame starts (R129, R133). -/
def State.startSend (s : State) (p : PortId) (l : Live) (c : Current) : State :=
  (s.endEarly p l).setLive p { l with rx := .hunt, tx := .send c s.now (s.itemFrame c.item) }

/-- The guard of a port in time (R132). -/
def State.guardTime (s : State) (p : PortId) : Nat := (s.port p).guard.toNat * s.charTime p

/-- The wait of BACKOFF: guard + k character times, k being 1 plus the ADDR value (R135). -/
def State.backoffTime (s : State) (p : PortId) : Nat :=
  ((s.port p).guard.toNat + 1 + s.addr.toNat) * s.charTime p

/-- A taken item becomes the current item: SEND at once where the line has already been idle for the
guard, and DEFER otherwise, as while a character is in progress (R131, R132). -/
def State.take (s : State) (p : PortId) (l : Live) (i : TxItem) : State :=
  if l.idleFor (s.guardTime p) s.now then s.startSend p l { item := i, contentions := 0 }
  else s.setLive p { l with tx := .defer { item := i, contentions := 0 } }

/-- The P0 transmitter takes the head of the trunk queue (R108). -/
def State.takeTrunk (s : State) (l : Live) : State :=
  match s.trunkQueue with
  | [] => s
  | i :: rest => State.take { s with trunkQueue := rest } .p0 l (.trunk i)

/-- The branch transmitter takes the exchange in its repeat holder (R33). -/
def State.takeHolder (s : State) (b : BranchId) (x : SlotNo) (l : Live) : State :=
  match s.record x with
  | none => s
  | some e => match e.mode, e.request with
    | .direct d, some buf =>
      ((((s.setRecord x (some { e with mode := .direct { d with phase := .queued } })).setHolder b none).setSlot b
        (some { exch := x, kind := .request, deadline := none })).retain buf).take (branchPort b) l
        (.branch { kind := .request x, urgent := e.urgent, buf := buf })
    | .direct _, none => s
    | .probe _, _ => s

/-- The slot that a taken item claims (R32, R58, R101). -/
def BranchItem.claims (i : BranchItem) : Option Slot :=
  match i.kind with
  | .request x => some { exch := x, kind := .request, deadline := none }
  | .probe x => some { exch := x, kind := .probe, deadline := none }
  | .notice => none

/-- The branch transmitter takes the head of its queue (R32, R58, R101). -/
def State.takeBranch (s : State) (b : BranchId) (l : Live) : State :=
  match (s.branch b).queue with
  | [] => s
  | i :: rest =>
    ((s.setQueue b rest).setSlot b i.claims).take (branchPort b) l (.branch i)

/-- An IDLE transmitter of an ACTIVE port takes what its source offers (R131). -/
def State.takeItem (s : State) (p : PortId) : State :=
  match s.live? p with
  | none => s
  | some l => match l.tx with
    | .idle => match portBranch p with
      | none => s.takeTrunk l
      | some b => match (s.branch b).slot, (s.branch b).holder with
        | some _, _ => s
        | none, some x => s.takeHolder b x l
        | none, none => s.takeBranch b l
    | .defer _ => s
    | .send _ _ _ => s
    | .backoff _ => s

/-! ### What the owner of an item does at its end -/

/-- Slot `p` is held by exchange `x` for an item of the given kind (R35, R59, R60). -/
def State.slotHeldBy (s : State) (p : BranchId) (x : SlotNo) (k : SlotKind) : Bool :=
  match (s.branch p).slot with
  | some sl => decide (sl.exch = x) && decide (sl.kind = k)
  | none => false

/-- The deadline of slot `p` starts for exchange `x` (R34, R59). -/
def State.startDeadline (s : State) (p : BranchId) (x : SlotNo) (k : SlotKind) : State :=
  s.setSlot p (some { exch := x, kind := k, deadline := some s.now })

/-- A DIRECT exchange whose request has been sent once more (R34). -/
def Exchange.sent (e : Exchange) (d : Direct) : Exchange :=
  { e with mode := .direct { d with phase := .awaiting, attempts := d.attempts + 1 } }

/-- The completion of a branch item (R34, R35, R59, R101). -/
def State.branchSent (s : State) (p : BranchId) (i : BranchItem) : State :=
  match i.kind with
  | .notice => s
  | .probe x => if s.slotHeldBy p x .probe then s.startDeadline p x .probe else s
  | .request x =>
    if s.slotHeldBy p x .request then
      match s.record x with
      | none => s
      | some e => match e.mode with
        | .direct d =>
          if d.phase = .queued then
            (s.setRecord x (some (e.sent d))).startDeadline p x .request
          else s
        | .probe _ => s
    else s

/-- The abandonment of a branch item (R35, R36, R60, R101). -/
def State.branchAbandoned (s : State) (p : BranchId) (i : BranchItem) : State :=
  match i.kind with
  | .notice => s
  | .probe x =>
    if s.slotHeldBy p x .probe then
      match s.record x with
      | none => s
      | some e => match e.mode with
        | .probe q => (s.setSlot p none).loseBranch x e q p
        | .direct _ => s
    else s
  | .request x =>
    if s.slotHeldBy p x .request then
      match s.record x with
      | none => s
      | some e => match e.mode with
        | .direct d => if d.phase = .queued then (s.setSlot p none).refuse x e d .contention else s
        | .probe _ => s
    else s

/-- The completion of a trunk item (R43, R109, R155, R180). -/
def State.trunkSent (s : State) (straps : Straps) : TrunkItem → State
  | .frameReturn x _ => s.returnDone x
  | .refusalReturn x _ => s.returnDone x
  | .response => State.settleRestart { s with mgmt := { s.mgmt with phase := .idle } } straps
  | .alert a => s.alertSent a
  | .busy _ => s
  | .immediate _ => s
  | .passUp _ => s

/-- The abandonment of a trunk item (R44, R109, R155, R181). -/
def State.trunkAbandoned (s : State) (straps : Straps) : TrunkItem → State
  | .frameReturn x _ => s.returnLost x
  | .refusalReturn x _ => s.returnLost x
  | .response => State.settleRestart { s with mgmt := { s.mgmt with phase := .idle } } straps
  | .alert _ => s.alertLost
  | .busy _ => s
  | .immediate _ => s
  | .passUp _ => s

/-- A completion event is delivered to the item's owner (R137). -/
def State.ownerSent (s : State) (p : PortId) (straps : Straps) : TxItem → State
  | .trunk i => s.trunkSent straps i
  | .branch i => match portBranch p with
    | some b => s.branchSent b i
    | none => s

/-- An abandonment event is delivered to the item's owner (R136). -/
def State.ownerAbandoned (s : State) (p : PortId) (straps : Straps) : TxItem → State
  | .trunk i => s.trunkAbandoned straps i
  | .branch i => match portBranch p with
    | some b => s.branchAbandoned b i
    | none => s

/-! ### Contention and completion -/

/-- The character of a frame sent since `since` that ends at this instant, with its marker: the characters
go out back to back (R113, R133). -/
def State.sentNow (s : State) (p : PortId) (since : Nat) (frame : List Octet) : Option (Octet × Bool) :=
  if (s.now - since) % s.charTime p = 0 then
    match (s.now - since) / s.charTime p with
    | 0 => none
    | k + 1 => frame[k]?.map (fun o => (o, decide (k = 0)))
  else none

/-- The comparison of R134: what is read back differs from the character sent. -/
def isContention (back : ReadBack) (sent : Octet × Bool) : Bool := decide (back ≠ .good sent.1 sent.2)

/-- The line timers at the end of the port's own character, the line having been high at `high`, when its
stop bit was read back (R113, R118, R137). -/
def Live.spoken (l : Live) (now high : Nat) : Live :=
  { l with idleFrom := now, highFrom := high, stuckFrom := high, busy := false }

/-- The last bit of a character that was read back high, counted from the start bit as 0 (R113). -/
def lastHigh? : ReadBack → Option Nat
  | .good _ _ => some 10
  | .lowStop o marker _ => ((List.range 10).filter (fun n => (characterBits marker o).getD n false)).getLast?
  | .unqualified _ => none

/-- The latest known high at the end of a contended character: its last bit that was read high, and otherwise
the latest known high before it (R118, R134). A low that began before the character has lasted since. -/
def Live.highInContention (l : Live) (now : Nat) (rate : BitVec 3) (back : ReadBack) (first : Bool) : Nat :=
  let start := now - charTime rate
  match lastHigh? back with
  | some n => start + n * bitTime rate + startSampleTime rate
  | none => l.highBefore now rate start first

/-- The line timers at the end of the character a contention was found on: the line is high where its stop
bit was read high, and otherwise when it returns high (R113, R118, R135). -/
def Live.afterContention (l : Live) (now : Nat) (rate : BitVec 3) (back : ReadBack) (first : Bool) : Live :=
  let high := l.highInContention now rate back first
  match back with
  | .good _ _ => l.spoken now high
  | .lowStop _ _ low => l.heldLow (now + low) high
  | .unqualified low => l.heldLow (now + low) high

/-- A contention of the current item (R134, R136). -/
def State.contended (s : State) (p : PortId) (l : Live) (c : Current) (back : ReadBack)
    (first : Bool) (straps : Straps) : State :=
  let l1 := { l.afterContention s.now (s.port p).rate back first with rx := .hunt }
  if c.contentions + 1 < 8 then
    (s.setLive p { l1 with tx := .backoff { c with contentions := c.contentions + 1 } }).countPort p .contentions
  else
    ((((s.setLive p { l1 with tx := .idle }).countPort p .contentions).countPort p .abandoned).releaseOpt
      c.item.buf?).ownerAbandoned p straps c.item

/-- The completion of the current item, whose last stop bit was read back high at the instant `high` (R137). -/
def State.completed (s : State) (p : PortId) (l : Live) (c : Current) (high : Nat) (straps : Straps) : State :=
  (((s.setLive p { l.spoken s.now high with rx := .hunt, tx := .idle }).countPort p .framesOut).releaseOpt
    c.item.buf?).ownerSent p straps c.item

/-! ### The rows -/

/-- TAKE_ITEM (R131). -/
def execTakeItem (t : LineTime) (p : PortId) (s : State) : Result :=
  .next (((s.advance t.dt).lineSeen p t.busy).takeItem p)

/-- The end of a wait: the transmitter in the state that `waits` picks enters SEND with its current item where
the line has been idle for the time `t` (R132, R135). -/
def State.endWait (s : State) (p : PortId) (t : Nat) (waits : Tx → Option Current) : State :=
  match s.live? p with
  | none => s
  | some l => match waits l.tx with
    | some c => if l.idleFor t s.now then s.startSend p l c else s
    | none => s

/-- The current item of a transmitter in DEFER. -/
def Tx.deferred? : Tx → Option Current
  | .defer c => some c
  | .idle => none
  | .send _ _ _ => none
  | .backoff _ => none

/-- The current item of a transmitter in BACKOFF. -/
def Tx.backedOff? : Tx → Option Current
  | .backoff c => some c
  | .idle => none
  | .defer _ => none
  | .send _ _ _ => none

/-- DEFER_WAIT_END (R132): the line has been idle for the guard. -/
def execDeferWaitEnd (t : LineTime) (p : PortId) (s : State) : Result :=
  .next (((s.advance t.dt).lineSeen p t.busy).endWait p (s.guardTime p) Tx.deferred?)

/-- BACKOFF_WAIT_END (R135): the line has been idle for guard + k. -/
def execBackoffWaitEnd (t : LineTime) (p : PortId) (s : State) : Result :=
  .next (((s.advance t.dt).lineSeen p t.busy).endWait p (s.backoffTime p) Tx.backedOff?)

/-- CONTENTION (R134, R136): at the end of a character of the frame being sent, which was read back as
another. -/
def execContention (t : StrapTime) (p : PortId) (back : ReadBack) (s : State) : Result :=
  .next (match s.live? p with
    | none => s.advance t.dt
    | some l => match l.tx with
      | .send c since frame => match (s.advance t.dt).sentNow p since frame with
        | some sent =>
          if isContention back sent then (s.advance t.dt).contended p l c back sent.2 t.straps else s.advance t.dt
        | none => s.advance t.dt
      | .idle => s.advance t.dt
      | .defer _ => s.advance t.dt
      | .backoff _ => s.advance t.dt)

/-- TRANSMISSION_COMPLETE (R137): every character of the frame has been sent. -/
def execTransmissionComplete (t : StrapTime) (p : PortId) (s : State) : Result :=
  .next (match s.live? p with
    | none => s.advance t.dt
    | some l => match l.tx with
      | .send c since frame =>
        if since + frame.length * s.charTime p ≤ s.now + t.dt then
          (s.advance t.dt).completed p l c (since + frame.length * s.charTime p - s.startSampleTime p) t.straps
        else s.advance t.dt
      | .idle => s.advance t.dt
      | .defer _ => s.advance t.dt
      | .backoff _ => s.advance t.dt)

/-- WINDOW_EXPIRY (R39): the slot is held by a DIRECT exchange, and its deadline runs and is due. -/
def execWindowExpiry (dt : Nat) (b : BranchId) (s : State) : Result :=
  .next (match (s.branch b).slot with
    | none => s.advance dt
    | some sl => match s.record sl.exch, sl.deadline with
      | some e, some start => match e.mode with
        | .direct d =>
          if (s.advance dt).due start e.window then (s.advance dt).windowExpired b sl.exch e d else s.advance dt
        | .probe _ => s.advance dt
      | some _, none => s.advance dt
      | none, _ => s.advance dt)

/-- PROBE_WINDOW_EXPIRY (R66): the slot is held by a PROBE exchange, and its deadline runs and is due. -/
def execProbeWindowExpiry (dt : Nat) (b : BranchId) (s : State) : Result :=
  .next (match (s.branch b).slot with
    | none => s.advance dt
    | some sl => match s.record sl.exch, sl.deadline with
      | some e, some start => match e.mode with
        | .probe q =>
          if (s.advance dt).due start e.window then ((s.advance dt).setSlot b none).loseBranch sl.exch e q b
          else s.advance dt
        | .direct _ => s.advance dt
      | some _, none => s.advance dt
      | none, _ => s.advance dt)

end Sys2Proof.Machine
end

