-- ==== Sys2Proof/Machine/Dispatch.lean ====
section
/-! DEFINITION. The meaning of every command: one arm per constructor, one direct call. -/

namespace Sys2Proof.Machine

def exec (i : Instr) (s : State) : Host.Outcome State Fault Refusal :=
  match i with
  | .identify dt h => Sys2Proof.Machine.execIdentify dt h s
  | .readStatus dt h => Sys2Proof.Machine.execReadStatus dt h s
  | .readPort dt h port clear => Sys2Proof.Machine.execReadPort dt h port clear s
  | .readBridge dt h clear => Sys2Proof.Machine.execReadBridge dt h clear s
  | .readEntry dt h bank index => Sys2Proof.Machine.execReadEntry dt h bank index s
  | .writeEntry dt h index valid base mask action port window retries => Sys2Proof.Machine.execWriteEntry dt h index valid base mask action port window retries s
  | .prepareShadowClear dt h => Sys2Proof.Machine.execPrepareShadowClear dt h s
  | .prepareShadowCopy dt h => Sys2Proof.Machine.execPrepareShadowCopy dt h s
  | .commit dt h expected => Sys2Proof.Machine.execCommit dt h expected s
  | .readLearned dt h first count => Sys2Proof.Machine.execReadLearned dt h first count s
  | .forgetAddress dt h addr => Sys2Proof.Machine.execForgetAddress dt h addr s
  | .forgetAll dt h => Sys2Proof.Machine.execForgetAll dt h s
  | .readExchanges dt h first count => Sys2Proof.Machine.execReadExchanges dt h first count s
  | .setPort dt h port rate guard unsolicited broadcast probe => Sys2Proof.Machine.execSetPort dt h port rate guard unsolicited broadcast probe s
  | .portControlEnable dt h port => Sys2Proof.Machine.execPortControlEnable dt h port s
  | .portControlDisable dt h port => Sys2Proof.Machine.execPortControlDisable dt h port s
  | .setBridge dt h policy window retries ageing dest => Sys2Proof.Machine.execSetBridge dt h policy window retries ageing dest s
  | .flush dt h => Sys2Proof.Machine.execFlush dt h s
  | .restart dt h => Sys2Proof.Machine.execRestart dt h s
  | .badOperation dt h code => Sys2Proof.Machine.execBadOperation dt h code s
  | .markedCharacter dt p o => Sys2Proof.Machine.execMarkedCharacter dt p o s
  | .oversizeLen dt p o => Sys2Proof.Machine.execOversizeLen dt p o s
  | .frameEnd dt p o => Sys2Proof.Machine.execFrameEnd dt p o s
  | .discardedFrameEnd dt p o => Sys2Proof.Machine.execDiscardedFrameEnd dt p o s
  | .framingError dt p low => Sys2Proof.Machine.execFramingError dt p low s
  | .gapExpiry t p => Sys2Proof.Machine.execGapExpiry t p s
  | .stuckLine t p low => Sys2Proof.Machine.execStuckLine t p low s
  | .recovery dt p => Sys2Proof.Machine.execRecovery dt p s
  | .windowExpiry dt b => Sys2Proof.Machine.execWindowExpiry dt b s
  | .probeWindowExpiry dt b => Sys2Proof.Machine.execProbeWindowExpiry dt b s
  | .ageingExpiry dt => Sys2Proof.Machine.execAgeingExpiry dt s
  | .shadowCopyCompletion dt => Sys2Proof.Machine.execShadowCopyCompletion dt s
  | .takeItem t p => Sys2Proof.Machine.execTakeItem t p s
  | .deferWaitEnd t p => Sys2Proof.Machine.execDeferWaitEnd t p s
  | .backoffWaitEnd t p => Sys2Proof.Machine.execBackoffWaitEnd t p s
  | .contention t p back => Sys2Proof.Machine.execContention t p back s
  | .transmissionComplete t p => Sys2Proof.Machine.execTransmissionComplete t p s
  | .hardwareReset dt straps => Sys2Proof.Machine.execHardwareReset dt straps s
  | .marker0Character dt p o => Sys2Proof.Machine.execMarker0Character dt p o s
  | .recoveryTimerRestart dt p low => Sys2Proof.Machine.execRecoveryTimerRestart dt p low s

end Sys2Proof.Machine
end

