-- ==== Sys2Proof/Machine/Step.lean ====
section
/-! DEFINITION. One step: the front command of the queue runs. -/

namespace Sys2Proof.Machine

/-- One step of the part: the command at the front of the queue runs on the state with the queue's
rest; on an empty queue the part idles (log 2). -/
def step (s : State) : Host.Outcome State Fault Refusal :=
  match s.pending with
  | [] => .next s
  | c :: rest => exec c { s with pending := rest }

/-- The state with the command that a table word spells at the front of its queue; unchanged where the
word spells none. -/
def State.withFetchWord (s : State) (nbits w : Nat) : State :=
  match decodeTableWord nbits w with
  | some c => { s with pending := c :: s.pending }
  | none => s

end Sys2Proof.Machine
end

