-- ==== Sys2Proof/Safety.lean ====
section
/-! DEFINITION. What counts as a sound state of the part: the invariants that the spec states, in the terms that the
claims use. -/

namespace Sys2Proof.Machine

/-! ### Station table -/

/-- What R2 asks of a valid entry. -/
def Entry.sound (e : Entry) : Bool :=
  decide (e.base &&& ~~~e.mask = 0) && decide (1 ≤ e.base.toNat) && decide ((e.base ||| ~~~e.mask).toNat ≤ 0xF7) &&
  (match e.action with
    | .forward _ w _ => decide (w ≠ 0)
    | .onTrunk => true
    | .block => true)

/-- Every valid entry of a bank is one that R2 lets a manager write, and the bank has 64 places (R1). -/
def BankSound (bank : List (Option Entry)) : Prop :=
  bank.length = 64 ∧ ∀ e, some e ∈ bank → e.sound = true

def State.BanksSound (s : State) : Prop := BankSound s.table.active ∧ BankSound s.table.shadow

/-- What R10 says of one learned entry under an ACTIVE bank: it is not covered, an observed age is at
most 3, and the other port of a CONFLICT entry differs from its port. -/
def Learned.sound (bank : List (Option Entry)) (e : Learned) : Bool :=
  !covers bank e.addr &&
  (match e.mark with
    | .valid age => decide (age ≤ 3)
    | .conflict other => decide (other ≠ e.port))

/-- Two places do not hold the same address (R10). -/
def differentAddress (a b : Option Learned) : Prop :=
  ∀ x y, a = some x → b = some y → x.addr ≠ y.addr

/-- The learned entries (R10): 32 places, one entry for an address at most, each one sound. -/
def State.LearnedSound (s : State) : Prop :=
  s.table.learned.length = 32 ∧ s.table.learned.Pairwise differentAddress ∧
  ∀ e, some e ∈ s.table.learned → e.sound s.table.active = true

/-! ### Exchange records -/

/-- Two records that are not FREE have different keys (R27). -/
def differentKey (a b : Option Exchange) : Prop :=
  ∀ x y, a = some x → b = some y → x.key ≠ y.key

/-- There are 16 records, and no two that are not FREE have the same key (R22, R27). -/
def State.KeysDistinct (s : State) : Prop :=
  s.records.length = 16 ∧ s.records.Pairwise differentKey

/-! ### Queues -/

/-- A branch queue holds at most 8 items, and every urgent item stands ahead of every normal one (R100). -/
def QueueSound (q : List BranchItem) : Prop :=
  q.length ≤ 8 ∧ q.Pairwise (fun a b => b.urgent = true → a.urgent = true)

/-- Every branch queue is sound, and the queue of a port that is not ACTIVE holds no item (R100). -/
def State.BranchQueuesSound (s : State) : Prop :=
  ∀ b, QueueSound (s.branch b).queue ∧ (s.isActive (branchPort b) = false → (s.branch b).queue = [])

/-- The trunk queue (R105, R106, R107): at most 28 items, no class above its limit, at most one
management response and one BUSY refusal, and no item while P0 is not ACTIVE. -/
def State.TrunkQueueSound (s : State) : Prop :=
  s.trunkQueue.length ≤ 28 ∧ (∀ c, classCount s.trunkQueue c ≤ c.limit) ∧
  (s.trunkQueue.filter TrunkItem.isResponse).length ≤ 1 ∧ (s.trunkQueue.filter TrunkItem.isBusy).length ≤ 1 ∧
  (s.isActive .p0 = false → s.trunkQueue = [])

/-! ### Alerts -/

/-- Two entries differ in kind or subject (R175). -/
def differentAlert (a b : AlertEntry) : Prop := a.kind ≠ b.kind ∨ a.subject ≠ b.subject

/-- The alert list holds at most 8 entries, no two of the same kind and subject (R175). -/
def State.AlertsSound (s : State) : Prop :=
  s.alerts.list.length ≤ 8 ∧ s.alerts.list.Pairwise differentAlert

/-! ### Buffers -/

/-- The buffer is the one of an optional reference, as a count. -/
def holds (b : BufId) (r : Option BufId) : Nat := if r = some b then 1 else 0

/-- The references of a port to a buffer: its receiver's and its transmitter's. -/
def Line.holders (b : BufId) : Line → Nat
  | .active l => holds b l.rx.buf? + holds b l.tx.buf?
  | .disabled => 0
  | .fault _ => 0

def sumOver {α : Type} (f : α → Nat) (l : List α) : Nat := (l.map f).sum

def itemHolds (b : BufId) (i : BranchItem) : Nat := holds b (some i.buf)

def trunkItemHolds (b : BufId) (i : TrunkItem) : Nat := holds b i.buf?

def recordHolds (b : BufId) (r : Option Exchange) : Nat := holds b (r.bind (·.request))

/-- How many receivers, queue items, exchange request references and transmitter current items refer to
a buffer (R94). -/
def State.holders (s : State) (b : BufId) : Nat :=
  (s.port .p0).line.holders b + (s.port .p1).line.holders b + (s.port .p2).line.holders b +
  (s.port .p3).line.holders b +
  sumOver (itemHolds b) (s.branch .b1).queue + sumOver (itemHolds b) (s.branch .b2).queue +
  sumOver (itemHolds b) (s.branch .b3).queue + sumOver (trunkItemHolds b) s.trunkQueue +
  sumOver (recordHolds b) s.records

/-- A transmitter in SEND has a receiver in HUNT (R129). -/
def State.SendersHunt (s : State) : Prop :=
  ∀ p l, s.live? p = some l → l.tx.sending?.isSome = true → l.rx = .hunt

/-- The pool (R94): 48 buffers; the free list holds each buffer whose count is 0 once, and no other; each
reference count is the number of holders; and a port in SEND is collecting no frame (R129). -/
def State.PoolSound (s : State) : Prop :=
  s.SendersHunt ∧
  s.pool.buffers.length = 48 ∧ s.records.length = 16 ∧ s.pool.free.Nodup ∧
  (∀ b, b ∈ s.pool.free ↔ (s.pool.buffer b).refs = 0) ∧
  (∀ b, (s.pool.buffer b).refs = s.holders b)

/-! ### The trunk port, the management unit and the offered alert -/

/-- The trunk is never DISABLED, and its guard is 4 (R115, R120). -/
def State.TrunkPortSound (s : State) : Prop :=
  (s.port .p0).line ≠ .disabled ∧ (s.port .p0).guard = 4#4

/-- The transmitter holds the current item `i`, an item of the trunk. -/
def Tx.sendsTrunk (f : TrunkItem → Bool) (t : Tx) : Nat :=
  match t.current? with
  | some c => match c.item with
    | .trunk i => if f i then 1 else 0
    | .branch _ => 0
  | none => 0

def Line.sendsTrunk (f : TrunkItem → Bool) : Line → Nat
  | .active l => l.tx.sendsTrunk f
  | .disabled => 0
  | .fault _ => 0

/-- How many trunk items of a kind stand in the trunk queue or are the P0 transmitter's current item. -/
def State.standing (s : State) (f : TrunkItem → Bool) : Nat :=
  (s.trunkQueue.filter f).length + (s.port .p0).line.sendsTrunk f

/-- No branch transmitter holds a trunk item: its source is the branch's holder and queue (R131). -/
def State.BranchesSendBranch (s : State) : Prop :=
  ∀ b, (s.port (branchPort b)).line.sendsTrunk (fun _ => true) = 0

/-- The management unit (R152): one response item stands in the trunk queue or is being sent while the
unit is ANSWERING, and none otherwise; a set restart flag means ANSWERING. -/
def State.UnitSound (s : State) : Prop :=
  s.BranchesSendBranch ∧
  s.standing TrunkItem.isResponse = (if s.mgmt.phase = .answering then 1 else 0) ∧
  (s.mgmt.restart = true → s.mgmt.phase = .answering)

def TrunkItem.isAlert : TrunkItem → Bool
  | .alert _ => true
  | .frameReturn _ _ => false
  | .refusalReturn _ _ => false
  | .response => false
  | .busy _ => false
  | .immediate _ => false
  | .passUp _ => false

/-- The offered entry (R175): an alert item stands in the trunk queue or is being sent exactly while the
unit has an offered entry, which is the oldest entry of the list. -/
def State.OfferSound (s : State) : Prop :=
  s.BranchesSendBranch ∧
  s.standing TrunkItem.isAlert = (if s.alerts.offered then 1 else 0) ∧
  (s.alerts.offered = true → s.alerts.list ≠ [])

/-- The offer is never late (R179): while an entry is listed, a destination is set and P0 is ACTIVE, there
is an offered entry. -/
def State.OfferDue (s : State) : Prop :=
  s.alerts.list ≠ [] → s.alerts.dest ≠ 0 → s.isActive .p0 = true → s.alerts.offered = true

/-! ### Engine consistency (R23, R24, R25, R54) -/

/-- The item is a return of the exchange in record `x` (R105). -/
def TrunkItem.isReturnOf (x : SlotNo) : TrunkItem → Bool
  | .frameReturn y _ => decide (y = x)
  | .refusalReturn y _ => decide (y = x)
  | .response => false
  | .busy _ => false
  | .alert _ => false
  | .immediate _ => false
  | .passUp _ => false

/-- How many items of a kind wait in a branch queue. -/
def State.waiting (s : State) (b : BranchId) (k : BranchItemKind) : Nat :=
  ((s.branch b).queue.filter (fun i => decide (i.kind = k))).length

/-- Nothing on branch `b` belongs to record `x` under the kind given. -/
def State.Absent (s : State) (b : BranchId) (x : SlotNo) (k : SlotKind) : Prop :=
  s.slotHeldBy b x k = false ∧
  s.waiting b (match k with
    | .request => .request x
    | .probe => .probe x) = 0

/-- The deadline of the slot of branch `b` runs. -/
def State.running (s : State) (b : BranchId) : Bool :=
  match (s.branch b).slot with
  | some sl => sl.deadline.isSome
  | none => false

/-- The row of R23 for a DIRECT exchange in record `x`. -/
def State.DirectSound (s : State) (x : SlotNo) (e : Exchange) (d : Direct) : Prop :=
  (∀ b, s.Absent b x .probe) ∧
  (∀ b, b ≠ d.port → s.Absent b x .request ∧ (s.branch b).holder ≠ some x) ∧
  (match d.phase with
    | .queued =>
      e.request.isSome = true ∧ s.standing (TrunkItem.isReturnOf x) = 0 ∧ (s.branch d.port).holder ≠ some x ∧
      ((s.waiting d.port (.request x) = 1 ∧ s.slotHeldBy d.port x .request = false) ∨
       (s.waiting d.port (.request x) = 0 ∧ s.slotHeldBy d.port x .request = true ∧ s.running d.port = false))
    | .awaiting =>
      e.request.isSome = true ∧ s.standing (TrunkItem.isReturnOf x) = 0 ∧ (s.branch d.port).holder ≠ some x ∧
      s.waiting d.port (.request x) = 0 ∧ s.slotHeldBy d.port x .request = true ∧ s.running d.port = true
    | .repeating =>
      e.request.isSome = true ∧ s.standing (TrunkItem.isReturnOf x) = 0 ∧ (s.branch d.port).holder = some x ∧
      s.Absent d.port x .request
    | .returning =>
      e.request = none ∧ s.standing (TrunkItem.isReturnOf x) = 1 ∧ (s.branch d.port).holder ≠ some x ∧
      s.Absent d.port x .request)

/-- The row of R54 for a PROBE exchange in record `x`. -/
def State.ProbeSound (s : State) (x : SlotNo) (e : Exchange) (q : Probe) : Prop :=
  (∀ b, s.Absent b x .request ∧ (s.branch b).holder ≠ some x) ∧
  (match q.phase with
    | .probing =>
      e.request.isSome = true ∧ s.standing (TrunkItem.isReturnOf x) = 0 ∧ q.pending = false ∧
      setEmpty q.set = false ∧
      ∀ b, if branchGet q.set b = true then
          (s.waiting b (.probe x) = 1 ∧ s.slotHeldBy b x .probe = false) ∨
          (s.waiting b (.probe x) = 0 ∧ s.slotHeldBy b x .probe = true)
        else s.Absent b x .probe
    | .settling =>
      e.request = none ∧ s.standing (TrunkItem.isReturnOf x) = (if q.pending then 1 else 0) ∧
      (setEmpty q.set = false ∨ q.pending = true) ∧
      ∀ b, s.waiting b (.probe x) = 0 ∧ s.slotHeldBy b x .probe = branchGet q.set b)

/-- Record `x` agrees with the slots, holders, queues and the trunk (R23, R24, R25, R54). -/
def State.RecordSound (s : State) (x : SlotNo) : Prop :=
  match s.record x with
  | none => (∀ b k, s.Absent b x k) ∧ (∀ b, (s.branch b).holder ≠ some x) ∧
      s.standing (TrunkItem.isReturnOf x) = 0
  | some e => match e.mode with
    | .direct d => s.DirectSound x e d
    | .probe q => s.ProbeSound x e q

/-- The item that a slot was claimed for. -/
def Slot.itemKind (sl : Slot) : BranchItemKind :=
  match sl.kind with
  | .request => .request sl.exch
  | .probe => .probe sl.exch

/-- The kind of the branch item that a line's transmitter holds. -/
def Line.sending (l : Line) : Option BranchItemKind :=
  match l.live?.bind (fun v => v.tx.current?) with
  | some c => match c.item with
    | .branch i => some i.kind
    | .trunk _ => none
  | none => none

/-- The slot of branch `b` (R24): a stopped deadline belongs to the item being sent, a running one to an
idle transmitter; the holder is empty while the slot is held (R33, R39); a port that is not ACTIVE has
neither slot, holder nor last-timed-out record (R45). -/
def State.SlotSound (s : State) (b : BranchId) : Prop :=
  (match (s.branch b).slot with
    | none => True
    | some sl => match sl.deadline with
      | none => (s.port (branchPort b)).line.sending = some sl.itemKind
      | some _ => (s.port (branchPort b)).line.live?.bind (fun v => v.tx.current?) = none) ∧
  ((s.branch b).slot.isSome = true → (s.branch b).holder = none) ∧
  (s.isActive (branchPort b) = false →
    (s.branch b).slot = none ∧ (s.branch b).holder = none ∧ (s.branch b).lastTimedOut = none)

/-- The exchange engine, the branches and the trunk agree (R23, R24, R25, R54). -/
def State.EngineSound (s : State) : Prop :=
  s.records.length = 16 ∧ s.BranchesSendBranch ∧ (∀ x, s.RecordSound x) ∧ (∀ b, s.SlotSound b)

/-! ### What the claims name -/

/-- A management request with this header is accepted when it arrives (R78, R153, R154): P0 hears it, its
SRC makes it well formed, the unit is IDLE and the response place is free. -/
def State.UnitFree (s : State) (h : Header) : Prop :=
  s.hears .p0 = true ∧ s.validSource h = true ∧ s.mgmt.phase = .idle ∧ s.admits .response = true

/-- The state after a management request whose one effect is its response (R154): `dt` later, with the
response item at the tail of the trunk queue, the unit ANSWERING, and the response frame in its buffer. -/
def State.answered (s : State) (dt : Nat) (h : Header) (code status : Octet) (data : List Octet) : State :=
  { s with
    now := s.now + dt
    trunkQueue := s.trunkQueue ++ [.response]
    mgmt := { s.mgmt with
      phase := .answering
      response := [h.src, s.ownAddress, h.tag ++ (BitVec.ofBool h.urgent ++ 2#3), natOctet (data.length + 2),
        code, status] ++ data } }

/-- The elapsed time, the header and the operation code of a management request that names an operation
(R147). -/
def requestOf : Instr → Option (Nat × Header × Octet)
  | .identify dt h => some (dt, h, 0x01)
  | .readStatus dt h => some (dt, h, 0x02)
  | .readPort dt h _ _ => some (dt, h, 0x03)
  | .readBridge dt h _ => some (dt, h, 0x04)
  | .readEntry dt h _ _ => some (dt, h, 0x05)
  | .writeEntry dt h _ _ _ _ _ _ _ _ => some (dt, h, 0x06)
  | .prepareShadowClear dt h => some (dt, h, 0x07)
  | .prepareShadowCopy dt h => some (dt, h, 0x07)
  | .commit dt h _ => some (dt, h, 0x08)
  | .readLearned dt h _ _ => some (dt, h, 0x09)
  | .forgetAddress dt h _ => some (dt, h, 0x0A)
  | .forgetAll dt h => some (dt, h, 0x0A)
  | .readExchanges dt h _ _ => some (dt, h, 0x0B)
  | .setPort dt h _ _ _ _ _ _ => some (dt, h, 0x0C)
  | .portControlEnable dt h _ => some (dt, h, 0x0D)
  | .portControlDisable dt h _ => some (dt, h, 0x0D)
  | .setBridge dt h _ _ _ _ _ => some (dt, h, 0x0E)
  | .flush dt h => some (dt, h, 0x0F)
  | .restart dt h => some (dt, h, 0x10)
  | _ => none

/-- The request LEN of each operation code, from the table of R147. -/
def lenTable : List (Octet × Octet) :=
  [(0x01, 1), (0x02, 1), (0x03, 3), (0x04, 2), (0x05, 3), (0x06, 9), (0x07, 2), (0x08, 3), (0x09, 3),
   (0x0A, 3), (0x0B, 3), (0x0C, 7), (0x0D, 3), (0x0E, 6), (0x0F, 1), (0x10, 1)]

/-- Port `p` is ACTIVE with `l` at work in it, and its receiver assembles frames: it is not in SEND (R116,
R129). -/
def State.Listens (s : State) (p : PortId) (l : Live) : Prop := s.live? p = some l ∧ l.tx.sending? = none

/-- Port `p` takes a character that ends `dt` later: it listens, and the ten and a half bit times of the
character lie after the line's last busy period (R113). -/
def State.Hears (s : State) (p : PortId) (l : Live) (dt : Nat) : Prop :=
  s.Listens p l ∧ l.idleFrom + s.sampleTime p ≤ s.now + dt

/-- The frame of a port in SEND since `since` has a character that ends `dt` later and is not what is read
back (R134): its octet, its marker and a high stop bit. -/
def State.ReadsOther (s : State) (p : PortId) (since : Nat) (frame : List Octet) (back : ReadBack) (dt : Nat) : Prop :=
  ∃ (k : Nat) (o : Octet), frame[k]? = some o ∧ s.now + dt = since + (k + 1) * s.charTime p ∧
    back ≠ .good o (decide (k = 0))

/-- The latest instant at which the line of port `p` is known to have been high `dt` later, the port's own
characters left aside (R118): the latest known high where that has come, and otherwise one before the low
that is going on. -/
def State.seenHighAt (s : State) (l : Live) (dt : Nat) : Nat :=
  if l.highFrom ≤ s.now + dt then l.highFrom else l.stuckFrom

/-- The line of port `p` can have been low for 4 character times `dt` later (R118): it has not been known high
in that time. In SEND it was high at the stop bit of the last character that has been sent, since that
character was read back as it was sent (R134). -/
def State.LowLongEnough (s : State) (p : PortId) (l : Live) (dt : Nat) : Prop :=
  (match l.tx with
    | .send _ since frame =>
      let sent := min ((s.now + dt - since) / s.charTime p) frame.length
      if sent = 0 then s.seenHighAt l dt else since + sent * s.charTime p - bitTime (s.port p).rate / 2
    | .idle => s.seenHighAt l dt
    | .defer _ => s.seenHighAt l dt
    | .backoff _ => s.seenHighAt l dt) + 4 * s.charTime p ≤ s.now + dt

/-- The line timers of port `p` at the end of a contended character `dt` later, in a frame sent since `since`
(R113, R118, R134, R135): the line is high where a high stop bit was read, and otherwise after `low` more;
and before that low it was high at the last bit read high, and otherwise at the stop bit of the character
before, and otherwise when it was high before the frame. -/
def State.contendedLine (s : State) (p : PortId) (l : Live) (since : Nat) (back : ReadBack) (dt : Nat) (tx : Tx) : Live :=
  let bit := bitTime (s.port p).rate
  let start := s.now + dt - s.charTime p
  let readAt := fun n : Nat => start + n * bit + bit / 2
  let before := if start = since then s.seenHighAt l dt else start - bit / 2
  let still := fun low high : Nat => ({
    idleFrom := s.now + dt + low, highFrom := s.now + dt + low, stuckFrom := high, busy := false
    rx := .hunt, tx := tx } : Live)
  match back with
  | .good _ _ => { still 0 (readAt 10) with highFrom := readAt 10 }
  | .lowStop o marker low => still low
      (if marker then readAt 9
       else match ((List.range 8).filter (fun j => o.getLsbD j)).getLast? with
        | some j => readAt (j + 1)
        | none => before)
  | .unqualified low => still low before

/-- The character `o` that ends on port `p` `dt` later is the last of a frame with a good check, collected in buffer
`b`, and the frame has the fields `f` (R123, R128). -/
def State.GoodFrameEnds (s : State) (dt : Nat) (p : PortId) (l : Live) (b : BufId) (o : Octet) (f : Frame) : Prop :=
  s.Hears p l dt ∧ l.rx = .collect b ∧ s.pool.buffers.length = 48 ∧
  (s.octets b ++ [o]).length = ((s.octets b ++ [o]).getD 3 0).toNat + 6 ∧
  goodCheck (s.octets b ++ [o]) = true ∧ frameOf (s.octets b ++ [o]) = f

/-- The state in which dispatch decides about that frame (R128): the octet is stored, the receiver is in
HUNT, the line timers count from now, FRAMES-IN is counted. -/
def State.atFrameEnd (s : State) (dt : Nat) (p : PortId) (l : Live) (b : BufId) (o : Octet) : State :=
  (State.setLive { s.advance dt with pool := s.pool.store b o } p
    { l with rx := .hunt, idleFrom := s.now + dt, highFrom := s.now + dt, stuckFrom := s.now + dt, busy := false }).countPort p .framesIn

/-- What R2 step 3 refuses in a WRITE-ENTRY with valid flag 1. -/
def entryRefused (base mask action port window retries : Octet) : Prop :=
  base &&& ~~~mask ≠ 0 ∨ base.toNat < 0x01 ∨ 0xF7 < base.toNat ∨ 0xF7 < (base ||| ~~~mask).toNat ∨
  (action ≠ 1 ∧ action ≠ 2 ∧ action ≠ 3) ∨
  (action = 1 ∧ (port.toNat < 1 ∨ 3 < port.toNat ∨ window = 0 ∨ 3 < retries.toNat))

/-- The refusals of one reason for the DIRECT exchanges that a condition picks, as trunk items in record
order (R30, R45, R48). -/
def State.refusalsFor (s : State) (pick : Direct → Bool) (r : Reason) : List TrunkItem :=
  allSlots.filterMap (fun x => (s.record x).bind (fun e =>
    match e.mode with
    | .direct d => if pick d then
        some (.refusalReturn x
          { requester := e.key.requester, station := e.key.station, tag := e.key.tag, urgent := e.urgent, reason := r })
      else none
    | .probe _ => none))

/-- The frame goes to a station or another bridge: it is well formed and its DEST is neither the own
address, a requester's, nor 0xFF (R76, R77). -/
def Frame.ToStation (f : Frame) (own : Octet) : Prop :=
  f.malformed = false ∧ f.dest ≠ own ∧ f.dest.toNat ≤ 0xF7

/-- Record `x` is the FREE record with the lowest index (R29, R56). -/
def State.LowestFree (s : State) (x : SlotNo) : Prop :=
  s.records.length = 16 ∧ s.record x = none ∧ ∀ y, y < x → s.record y ≠ none

/-- No record that is not FREE has the key (R27, R55). -/
def State.KeyFree (s : State) (k : Key) : Prop :=
  s.records.length = 16 ∧ ∀ x e, s.record x = some e → e.key ≠ k

/-- The response slot of branch `q` recognises no frame with the key (R37, R61): where it is held, the key
differs, or the request has not been sent in full, or the probe's deadline is stopped. -/
def State.SlotSilent (s : State) (q : BranchId) (k : Key) : Prop :=
  ∀ sl e, (s.branch q).slot = some sl → s.record sl.exch = some e → e.key ≠ k ∨
    (match sl.kind, e.mode with
      | .request, .direct d => d.phase ≠ .awaiting
      | .probe, .probe _ => sl.deadline = none
      | .request, .probe _ => True
      | .probe, .direct _ => True)

/-- A branch queue with one more item, placed by its urgency (R100). -/
def placed (q : List BranchItem) (i : BranchItem) : List BranchItem :=
  if i.urgent then q.filter (fun j => j.urgent) ++ i :: q.filter (fun j => !j.urgent) else q ++ [i]

/-- How many branches a condition picks. -/
def countBranches (f : BranchId → Bool) : Nat := (f .b1).toNat + (f .b2).toNat + (f .b3).toNat

/-- The pool `Q` is the pool `P` after the release of `n a` references to each buffer `a` (R94, R97): those
that reach count 0 by it join the free list at its tail, in an order that is left open (log 12), and the
arming flag is set where the free count reaches 8. -/
def Pool.Released (P Q : Pool) (n : BufId → Nat) : Prop :=
  (∀ a, (Q.buffer a).octets = (P.buffer a).octets ∧ (Q.buffer a).refs = (P.buffer a).refs - n a) ∧
  (∃ back : List BufId, Q.free = P.free ++ back ∧ back.Nodup ∧
    ∀ a, a ∈ back ↔ 0 < (P.buffer a).refs ∧ (P.buffer a).refs ≤ n a) ∧
  Q.armed = (P.armed || decide (P.free.length < 8 ∧ 8 ≤ Q.free.length))

/-- The probe copies of exchange `x` that wait in a branch queue and refer to buffer `a` (R63). -/
def State.copiesWaiting (s : State) (x : SlotNo) (a : BufId) : Nat :=
  let copies := fun b => ((s.branch b).queue.filter (fun i => decide (i.kind = .probe x ∧ i.buf = a))).length
  copies .b1 + copies .b2 + copies .b3

/-- An exchange whose request reference ends with the teardown of branch `b` (R45, R67): a DIRECT exchange
that lives on it, or a PROBING one with no other branch in its set. -/
def Exchange.endsWith (e : Exchange) (b : BranchId) : Bool :=
  match e.mode with
  | .direct d => decide (d.port = b) && d.onBranch
  | .probe q => decide (q.phase = .probing) && branchGet q.set b && setEmpty (branchSet q.set b false)

/-- How many probes the teardown of branch `b` turns into probe misses (R67, R70). -/
def State.missesWithout (s : State) (b : BranchId) : Nat :=
  (allSlots.filter (fun x => match s.record x with
    | some e => (match e.mode with
      | .probe _ => e.endsWith b
      | .direct _ => false)
    | none => false)).length

/-- The references to buffer `a` that the teardown of branch `b` releases, with `l` at work in its port (R45,
R67, R103, R121): the receiver's, the transmitter's, the queue items' and the ended exchanges'. -/
def State.heldThrough (s : State) (b : BranchId) (l : Live) (a : BufId) : Nat :=
  holds a l.rx.buf? + holds a l.tx.buf? + sumOver (itemHolds a) (s.branch b).queue +
  sumOver (fun x => match s.record x with
    | some e => if e.endsWith b then holds a e.request else 0
    | none => 0) allSlots

/-- What a teardown `dt` later leaves on the line of port `p` (R121): in SEND the character in progress up to
its end, and nothing where one has just ended; otherwise what was left before. -/
def State.tailAfter (s : State) (dt : Nat) (p : PortId) (t : Tx) : Option Tail :=
  match t with
  | .send _ since frame =>
    let sent := (s.now + dt - since) / s.charTime p
    if since + sent * s.charTime p = s.now + dt then none
    else some
      { since := since, frame := frame, rate := (s.port p).rate, stop := since + (sent + 1) * s.charTime p }
  | .idle => (s.port p).tail
  | .defer _ => (s.port p).tail
  | .backoff _ => (s.port p).tail

/-- A counter counted `n` times over (R183). -/
def countedTimes (w : Word) : Nat → Word
  | 0 => w
  | n + 1 => countedTimes (saturate w) n

end Sys2Proof.Machine
end

