-- ==== Sys2Proof/Certificates/Slice0/Obligations.lean ====
section
/-! DEFINITION. The statements for the provers. -/

open Sys2Proof Sys2Proof.Machine

/-! ### Steps and resets -/

/-- A step runs the front command on the state with the queue's rest; with nothing waiting the part
idles (the model's choice, log 2). -/
def Obligations.StepRunsFrontCommand : Prop :=
  (∀ (c : Instr) (rest : List Instr) (s : State),
    step { s with pending := c :: rest } = exec c { s with pending := rest }) ∧
  (∀ s : State, s.pending = [] → step s = .next s)

/-- Every command goes on to a next state from every state, and leaves the waiting commands alone. -/
def Obligations.EveryCommandCompletes : Prop :=
  ∀ (c : Instr) (s : State), ∃ t, exec c s = .next t ∧ t.pending = s.pending

/-- A hardware reset takes the strap levels and puts every block in its reset state (R140, R173, R52, R98,
R111, R182, R183 and section 1.10). The contents of the buffers (log 13) and the model's own fields
are left out of the claim. -/
def Obligations.HardwareResetGivesResetState : Prop :=
  ∀ (dt : Nat) (straps : Straps) (s : State), ∃ t, exec (.hardwareReset dt straps) s = .next t ∧
    t.strapPins = straps ∧ t.ownAddress = 0xF0#8 ||| straps.addr.setWidth 8 ∧
    (∀ p, (t.port p).tail = none ∧ (∀ c, t.portCounter p c = 0) ∧
      (t.port p).rate = (match straps.rate.toNat with
        | 0 => 1#3
        | 1 => 3#3
        | 2 => 4#3
        | _ => 6#3) ∧
      (t.port p).guard = (if p = .p0 then 4#4 else 2#4) ∧
      (t.port p).line = (if p = .p0 ∨ straps.start = true
        then .active { idleFrom := t.now, highFrom := t.now, stuckFrom := t.now, busy := false, rx := .hunt, tx := .idle } else .disabled)) ∧
    (∀ b, t.branch b =
      { unsolicited := .drop, broadcastPass := true, probeMember := true, queue := [], slot := none
        holder := none, lastTimedOut := none }) ∧
    t.table =
      { active := List.replicate 64 none, shadow := List.replicate 64 none, generation := 0
        learned := List.replicate 32 none, policy := if straps.start then .probe else .ignore
        probeWindow := 50, learnedRetries := 1, ageing := 60, ageingFrom := t.now } ∧
    t.records = List.replicate 16 none ∧
    t.pool.free = List.finRange 48 ∧ (∀ b, (t.pool.buffer b).refs = 0) ∧ t.pool.armed = true ∧
    t.trunkQueue = [] ∧ t.mgmt.phase = .idle ∧ t.mgmt.restart = false ∧
    t.alerts = { list := [], overflow := false, dest := 0, offered := false } ∧
    (∀ c, t.bridgeCounter c = 0)

/-! ### Formats -/

/-- The check (R143): its reference value; every frame the part builds, octets followed by their check,
passes the receiver's comparison of R128; and two octet strings that differ in one octet, in however many
of its bits, have different checks. -/
def Obligations.CheckDetectsAlteredOctet : Prop :=
  check [0x31, 0x32, 0x33, 0x34, 0x35, 0x36, 0x37, 0x38, 0x39] = 0x906E#16 ∧
  (∀ os : List Octet, goodCheck (os ++ [(check os).lo, (check os).hi]) = true) ∧
  (∀ (before after : List Octet) (a b : Octet), a ≠ b →
    check (before ++ a :: after) ≠ check (before ++ b :: after))

/-! ### Station table: resolution -/

/-- The loaded step (R6): of the valid ACTIVE entries that match (R1: the address AND the mask equals the
base), the one with the most mask bits, the lowest index among equals, gives the outcome; with none the
step yields nothing. The two words that this and other claims use are spelled out: how many bits of a
mask are set, and when a bank covers an address. -/
def Obligations.LoadedStepChoosesMostSpecific : Prop :=
  (∀ m : Octet, maskBits m = ((List.range 8).filter (fun i => m.getLsbD i)).length) ∧
  (∀ (bank : List (Option Entry)) (a : Octet),
    covers bank a = true ↔ ∃ e, some e ∈ bank ∧ a &&& e.mask = e.base) ∧
  ∀ (t : Table) (d : Octet),
    (t.loadedStep d = none ↔ ∀ e, some e ∈ t.active → e.base ≠ d &&& e.mask) ∧
    (∀ (i : Nat) (e : Entry), t.active[i]? = some (some e) → d &&& e.mask = e.base →
      (∀ (j : Nat) (f : Entry), t.active[j]? = some (some f) → d &&& f.mask = f.base →
        maskBits f.mask < maskBits e.mask ∨ (maskBits f.mask = maskBits e.mask ∧ i ≤ j)) →
      t.loadedStep d = some (match e.action with
        | .forward p w r => .forward p w r false
        | .onTrunk => .onTrunk
        | .block => .block))

/-- The learned step (R7): the learned entry for the address gives FORWARD with the two settings of that
instant and the via-learned flag set, or CONFLICT; with none the step yields nothing. A resolution takes
the loaded, the learned and the unknown step in this order and stops at the first outcome (R5, R8); an
address in 0xF8 to 0xFE is IGNORE before any step. -/
def Obligations.ResolutionTakesThreeSteps : Prop :=
  (∀ (t : Table) (d : Octet),
    ((∀ e, some e ∈ t.learned → e.addr ≠ d) → t.learnedStep d = none) ∧
    (∀ e, some e ∈ t.learned → e.addr = d → (∀ f, some f ∈ t.learned → f.addr = d → f = e) →
      t.learnedStep d = some (match e.mark with
        | .valid _ => .forward e.port t.probeWindow t.learnedRetries true
        | .conflict _ => .conflict))) ∧
  (∀ (s : State) (d : Octet), s.resolve d =
    (if 0xF8 ≤ d.toNat ∧ d.toNat ≤ 0xFE then .ignore
     else match s.table.loadedStep d, s.table.learnedStep d with
      | some r, _ => r
      | none, some r => r
      | none, none =>
        if s.table.policy = .probe ∧ 0x01 ≤ d.toNat ∧ d.toNat ≤ 0xF7 ∧ d ≠ s.ownAddress then .probe
        else .ignore))

/-! ### Management: reporting operations -/

/-- IDENTIFY answers OK with the fixed identity and capacities, the own address and the active generation,
and does nothing else (R157). -/
def Obligations.IdentifyAnswers : Prop :=
  ∀ (dt : Nat) (h : Header) (s : State), s.UnitFree h → h.len = 1 →
    exec (.identify dt h) s = .next (s.answered dt h 0x01 0
      [0x07, 0x1B, 0x30, 0x04, 2, s.ownAddress, 48, 62, 16, 64, 32, 8, 28, 8,
        s.table.generation.lo, s.table.generation.hi])

/-- READ-STATUS answers OK with the states and counts held at acceptance, and does nothing else (R158). Its
seven exchange counts sum to 16, its conflict count does not exceed its learned count, and FAULT_N is
asserted exactly when a port is in FAULT or a learned entry is CONFLICT (R185, R186). -/
def Obligations.ReadStatusAnswers : Prop :=
  (∀ (dt : Nat) (h : Header) (s : State), s.UnitFree h → h.len = 1 →
    exec (.readStatus dt h) s =
      (let line := fun p => match (s.port p).line with
          | .disabled => (0 : Octet)
          | .active _ => 1
          | .fault _ => 2
       let inState := fun k : Octet => natOctet (s.records.filter (fun r => decide (exchangeStateCode r = k))).length
       .next (s.answered dt h 0x02 0
        [line .p0, line .p1, line .p2, line .p3, natOctet s.pool.free.length,
          inState 0, inState 1, inState 2, inState 3, inState 4, inState 5, inState 6,
          natOctet (s.table.learned.filter Option.isSome).length,
          natOctet (s.table.learned.filter isConflict).length,
          natOctet s.alerts.list.length, if s.alerts.overflow then 1 else 0,
          s.table.generation.lo, s.table.generation.hi,
          match s.table.policy with
          | .ignore => 0
          | .probe => 1]))) ∧
  (∀ s : State, s.records.length = 16 →
    s.stateCount 0 + s.stateCount 1 + s.stateCount 2 + s.stateCount 3 + s.stateCount 4 + s.stateCount 5 +
      s.stateCount 6 = 16 ∧
    s.table.conflictCount ≤ s.table.learnedCount ∧
    (s.faultAsserted = true ↔ (∃ p since, (s.port p).line = .fault since) ∨
      ∃ e other, some e ∈ s.table.learned ∧ e.mark = .conflict other))

/-- READ-PORT refuses a port above 3 with BAD-INDEX and a clear flag above 1 with BAD-VALUE; otherwise it
answers OK with the settings, the state and the twelve counters of the port, which clear flag 1 sets
to 0 at the same instant (R159, R184). -/
def Obligations.ReadPortAnswers : Prop :=
  ∀ (dt : Nat) (h : Header) (port clear : Octet) (s : State), s.UnitFree h → h.len = 3 →
    (3 < port.toNat → exec (.readPort dt h port clear) s = .next (s.answered dt h 0x03 3 [])) ∧
    (∀ p, portNumber p = port →
      (1 < clear.toNat → exec (.readPort dt h port clear) s = .next (s.answered dt h 0x03 4 [])) ∧
      (clear.toNat ≤ 1 → exec (.readPort dt h port clear) s =
        (let v := s.port p
         let c := v.counters
         let line := match v.line with
            | .disabled => (0 : Octet)
            | .active _ => 1
            | .fault _ => 2
         let settings := match portBranch p with
            | none => [0, 0, 0]
            | some b =>
              [if (s.branch b).unsolicited = .passUp then (1 : Octet) else 0,
               if (s.branch b).broadcastPass then 1 else 0, if (s.branch b).probeMember then 1 else 0]
         .next { s.answered dt h 0x03 0
            ([port, line, v.rate.setWidth 8, v.guard.setWidth 8] ++ settings ++
              [c.framesIn.lo, c.framesIn.hi, c.framesOut.lo, c.framesOut.hi, c.checkErrors.lo, c.checkErrors.hi,
               c.truncated.lo, c.truncated.hi, c.malformed.lo, c.malformed.hi, c.nobufDrops.lo, c.nobufDrops.hi,
               c.queueDrops.lo, c.queueDrops.hi, c.contentions.lo, c.contentions.hi, c.abandoned.lo, c.abandoned.hi,
               c.faults.lo, c.faults.hi, c.unsolicited.lo, c.unsolicited.hi, c.late.lo, c.late.hi]) with
            ports := if clear = 1 then portSet s.ports p
              { v with counters :=
                { framesIn := 0, framesOut := 0, checkErrors := 0, truncated := 0, malformed := 0, nobufDrops := 0
                  queueDrops := 0, contentions := 0, abandoned := 0, faults := 0, unsolicited := 0, late := 0 } }
              else s.ports })))

/-- READ-BRIDGE refuses a clear flag above 1 with BAD-VALUE; otherwise it answers OK with the 21 bridge
counters, which clear flag 1 sets to 0 at the same instant (R160, R184). -/
def Obligations.ReadBridgeAnswers : Prop :=
  ∀ (dt : Nat) (h : Header) (clear : Octet) (s : State), s.UnitFree h → h.len = 2 →
    (1 < clear.toNat → exec (.readBridge dt h clear) s = .next (s.answered dt h 0x04 4 [])) ∧
    (clear.toNat ≤ 1 → exec (.readBridge dt h clear) s =
      (let c := s.counters
       let r := c.refusals
       .next { s.answered dt h 0x04 0
          [c.exchangesOpened.lo, c.exchangesOpened.hi, c.duplicates.lo, c.duplicates.hi, c.timeouts.lo, c.timeouts.hi,
           r.timeout.lo, r.timeout.hi, r.blocked.lo, r.blocked.hi, r.conflict.lo, r.conflict.hi,
           r.queueFull.lo, r.queueFull.hi, r.noExchange.lo, r.noExchange.hi, r.portDown.lo, r.portDown.hi,
           r.flushed.lo, r.flushed.hi, r.busy.lo, r.busy.hi, r.contention.lo, r.contention.hi,
           c.probesStarted.lo, c.probesStarted.hi, c.probesSkipped.lo, c.probesSkipped.hi,
           c.probeMisses.lo, c.probeMisses.hi, c.learned.lo, c.learned.hi, c.conflicts.lo, c.conflicts.hi,
           c.agedOut.lo, c.agedOut.hi, c.returnsLost.lo, c.returnsLost.hi,
           c.immediateDiscards.lo, c.immediateDiscards.hi, c.managementDiscards.lo, c.managementDiscards.hi] with
          counters := if clear = 1 then
            { exchangesOpened := 0, duplicates := 0, timeouts := 0
              refusals :=
                { timeout := 0, blocked := 0, conflict := 0, queueFull := 0, noExchange := 0
                  portDown := 0, flushed := 0, busy := 0, contention := 0 }
              probesStarted := 0, probesSkipped := 0, probeMisses := 0, learned := 0, conflicts := 0
              agedOut := 0, returnsLost := 0, immediateDiscards := 0, managementDiscards := 0 }
            else c }))

/-- READ-EXCHANGES checks its first slot and its count in the order of R161; otherwise it answers OK with
eight octets for each record named, laid out as R150 says, and does nothing else. -/
def Obligations.ReadExchangesAnswers : Prop :=
  ∀ (dt : Nat) (h : Header) (first count : Octet) (s : State), s.UnitFree h → h.len = 3 →
    exec (.readExchanges dt h first count) s = .next
      (if 15 < first.toNat then s.answered dt h 0x0B 3 []
       else if count.toNat = 0 ∨ 6 < count.toNat then s.answered dt h 0x0B 4 []
       else if 16 < first.toNat + count.toNat then s.answered dt h 0x0B 3 []
       else s.answered dt h 0x0B 0 ([first, count] ++
        ((s.records.drop first.toNat).take count.toNat).flatMap (fun r => match r with
          | none => [0, 0, 0, 0, 0, 0, 0, 0]
          | some e =>
            let base : Octet := e.key.tag.setWidth 8 + (if e.urgent then 16 else 0)
            match e.mode with
            | .direct d =>
              [match d.phase with
                | .queued => 1
                | .awaiting => 2
                | .repeating => 3
                | .returning => 4,
               e.key.requester, e.key.station, base + (if d.viaLearned then 32 else 0),
               branchNumber d.port, e.window, natOctet d.retries.val, natOctet d.attempts]
            | .probe q =>
              [match q.phase with
                | .probing => 5
                | .settling => 6,
               e.key.requester, e.key.station, base + (if q.pending then 64 else 0) + 128,
               (if q.set.b1 then 2 else 0) + (if q.set.b2 then 4 else 0) + (if q.set.b3 then 8 else 0),
               e.window, 0, 0])))

/-! ### Management: station table operations -/

/-- READ-ENTRY refuses a bank above 1 with BAD-VALUE and then an index above 63 with BAD-INDEX; otherwise it
answers OK with the entry, absent fields as 0, and does nothing else (R162, R21). -/
def Obligations.ReadEntryAnswers : Prop :=
  ∀ (dt : Nat) (h : Header) (bank index : Octet) (s : State), s.UnitFree h → h.len = 3 →
    exec (.readEntry dt h bank index) s = .next
      (if 1 < bank.toNat then s.answered dt h 0x05 4 []
       else if 63 < index.toNat then s.answered dt h 0x05 3 []
       else s.answered dt h 0x05 0 ([bank, index] ++
        match (if bank = 0 then s.table.active else s.table.shadow).getD index.toNat none with
        | none => [0, 0, 0, 0, 0, 0, 0]
        | some e => [1, e.base, e.mask] ++ (match e.action with
          | .forward p w r => [1, branchNumber p, w, natOctet r.val]
          | .onTrunk => [2, 0, 0, 0]
          | .block => [3, 0, 0, 0])))

/-- WRITE-ENTRY (R2, R163): BAD-INDEX, BAD-VALUE for the flag, an invalid entry written, BAD-VALUE by the
conditions of R2, or the valid entry written, in that order; SHADOW alone changes. -/
def Obligations.WriteEntryReplacesShadowEntry : Prop :=
  ∀ (dt : Nat) (h : Header) (index valid base mask action port window retries : Octet) (s : State),
    s.UnitFree h → h.len = 9 →
    let run := exec (.writeEntry dt h index valid base mask action port window retries) s
    let written := fun e : Option Entry =>
      ({ s.answered dt h 0x06 0 [index] with
          table := { s.table with shadow := s.table.shadow.set index.toNat e } } : State)
    (63 < index.toNat → run = .next (s.answered dt h 0x06 3 [])) ∧
    (index.toNat ≤ 63 → 1 < valid.toNat → run = .next (s.answered dt h 0x06 4 [])) ∧
    (index.toNat ≤ 63 → valid = 0 → run = .next (written none)) ∧
    (index.toNat ≤ 63 → valid = 1 → entryRefused base mask action port window retries →
      run = .next (s.answered dt h 0x06 4 [])) ∧
    (index.toNat ≤ 63 → valid = 1 → ¬ entryRefused base mask action port window retries →
      (action = 2 → run = .next (written (some { base := base, mask := mask, action := .onTrunk }))) ∧
      (action = 3 → run = .next (written (some { base := base, mask := mask, action := .block }))) ∧
      (∀ (b : BranchId) (r : Fin 4), action = 1 → branchNumber b = port → r.val = retries.toNat →
        run = .next (written (some { base := base, mask := mask, action := .forward b window r }))))

/-- PREPARE-SHADOW (R3, R164): clear mode makes all 64 SHADOW entries invalid and answers OK; copy mode makes
the unit WORKING from this instant and offers no response yet. That SHADOW keeps its entries while the
copy goes on is the model's choice (DESIGN CHOICE, log 15): the spec does not say what it holds then. -/
def Obligations.PrepareShadowClearsOrStartsCopy : Prop :=
  ∀ (dt : Nat) (h : Header) (s : State), s.UnitFree h → h.len = 2 →
    exec (.prepareShadowClear dt h) s = .next { s.answered dt h 0x07 0 [] with
      table := { s.table with shadow := List.replicate 64 none } } ∧
    exec (.prepareShadowCopy dt h) s = .next { s with
      now := s.now + dt, mgmt := { s.mgmt with phase := .working h .prepare (s.now + dt) } }

/-- COMMIT (R17, R165): with another expected generation it answers STALE with the active generation and
changes nothing; with the active generation SHADOW becomes ACTIVE, the generation is incremented, every
learned entry that the new ACTIVE bank covers is removed, and the unit is WORKING on the shadow copy.
What SHADOW holds during the copy is not claimed (log 15). -/
def Obligations.CommitSwapsOrAnswersStale : Prop :=
  ∀ (dt : Nat) (h : Header) (expected : Word) (s : State), s.UnitFree h → h.len = 3 →
    (expected ≠ s.table.generation → exec (.commit dt h expected) s = .next
      (s.answered dt h 0x08 5 [s.table.generation.lo, s.table.generation.hi])) ∧
    (expected = s.table.generation → ∃ meanwhile, exec (.commit dt h expected) s = .next { s with
      now := s.now + dt
      mgmt := { s.mgmt with phase := .working h .commit (s.now + dt) }
      table := { s.table with
        active := s.table.shadow
        shadow := meanwhile
        generation := s.table.generation + 1
        learned := s.table.learned.map (Option.filter (fun e => !covers s.table.shadow e.addr)) } })

/-- The shadow copy ends no later than 100 µs after its start (R164, R165): SHADOW then equals ACTIVE (R3,
R18), and the response is offered, or dropped with the unit IDLE where the trunk is not ACTIVE (R154). -/
def Obligations.ShadowCopyCompletes : Prop :=
  ∀ (dt : Nat) (h : Header) (job : CopyJob) (since : Nat) (s : State),
    s.mgmt.phase = .working h job since → s.mgmt.restart = false → s.now + dt ≤ since + timeUnit →
    (s.admits .response = true → exec (.shadowCopyCompletion dt) s = .next
      { (match job with
          | .commit => s.answered dt h 0x08 0 [s.table.generation.lo, s.table.generation.hi]
          | .prepare => s.answered dt h 0x07 0 []) with
        table := { s.table with shadow := s.table.active } }) ∧
    (s.isActive .p0 = false → ∃ dropped, exec (.shadowCopyCompletion dt) s = .next { s with
      now := s.now + dt
      table := { s.table with shadow := s.table.active }
      mgmt := { s.mgmt with phase := .idle, response := dropped } })

/-- READ-LEARNED checks its first place and its count in the order of R166; otherwise it answers OK with five
octets for each place named, and does nothing else. -/
def Obligations.ReadLearnedAnswers : Prop :=
  ∀ (dt : Nat) (h : Header) (first count : Octet) (s : State), s.UnitFree h → h.len = 3 →
    exec (.readLearned dt h first count) s = .next
      (if 31 < first.toNat then s.answered dt h 0x09 3 []
       else if count.toNat = 0 ∨ 8 < count.toNat then s.answered dt h 0x09 4 []
       else if 32 < first.toNat + count.toNat then s.answered dt h 0x09 3 []
       else s.answered dt h 0x09 0 ([first, count] ++
        ((s.table.learned.drop first.toNat).take count.toNat).flatMap (fun o => match o with
          | none => [0, 0, 0, 0, 0]
          | some e => match e.mark with
            | .valid age => [1, e.addr, branchNumber e.port, 0, natOctet age]
            | .conflict other => [2, e.addr, branchNumber e.port, branchNumber other, 0])))

/-- FORGET (R19, R167): the one-address form removes the learned entry for the address, the all form every
learned entry; both leave the removed places empty and the others as they are, and answer OK with the
number removed. -/
def Obligations.ForgetRemovesLearnedEntries : Prop :=
  ∀ (dt : Nat) (h : Header) (a : Octet) (s : State), s.UnitFree h → h.len = 3 →
    exec (.forgetAddress dt h a) s = .next
      { s.answered dt h 0x0A 0 [natOctet (s.table.learned.filter (fun o => decide (o.map (·.addr) = some a))).length] with
        table := { s.table with learned := s.table.learned.map (Option.filter (fun e => decide (e.addr ≠ a))) } } ∧
    exec (.forgetAll dt h) s = .next
      { s.answered dt h 0x0A 0 [natOctet (s.table.learned.filter Option.isSome).length] with
        table := { s.table with learned := List.replicate s.table.learned.length none } }

/-! ### Management: ports, policy, FLUSH, RESTART, failing requests -/

/-- SET-PORT checks its operands in the order of R168; on a DISABLED branch with good values it replaces the
five settings and answers OK with the port number; nothing else changes. -/
def Obligations.SetPortReplacesSettings : Prop :=
  ∀ (dt : Nat) (h : Header) (port rate guard unsolicited broadcast probe : Octet) (s : State),
    s.UnitFree h → h.len = 7 →
    let run := exec (.setPort dt h port rate guard unsolicited broadcast probe) s
    (3 < port.toNat → run = .next (s.answered dt h 0x0C 3 [])) ∧
    (port = 0 → run = .next (s.answered dt h 0x0C 7 [])) ∧
    (∀ b, branchNumber b = port →
      ((s.port (branchPort b)).line ≠ .disabled → run = .next (s.answered dt h 0x0C 6 [])) ∧
      ((s.port (branchPort b)).line = .disabled → run = .next
        (if 7 < rate.toNat ∨ guard.toNat = 0 ∨ 15 < guard.toNat ∨ 1 < unsolicited.toNat ∨
            1 < broadcast.toNat ∨ 1 < probe.toNat then s.answered dt h 0x0C 4 []
         else { s.answered dt h 0x0C 0 [port] with
          ports := portSet s.ports (branchPort b)
            { s.port (branchPort b) with rate := rate.setWidth 3, guard := guard.setWidth 4 }
          branches := branchSet s.branches b
            { s.branch b with
              unsolicited := if unsolicited = 1 then .passUp else .drop
              broadcastPass := decide (broadcast = 1)
              probeMember := decide (probe = 1) } })))

/-- PORT-CONTROL on a port that needs no teardown (R117, R120, R169): enabling makes a DISABLED port ACTIVE
with receiver in HUNT, transmitter IDLE and line timers started, and changes nothing on an ACTIVE or
FAULT port; disabling is NOT-PERMITTED on P0, changes nothing on a DISABLED branch, and makes a branch in
FAULT DISABLED. A port above 3 is BAD-INDEX. The response carries the port and its state afterwards. -/
def Obligations.PortControlSetsPortState : Prop :=
  ∀ (dt : Nat) (h : Header) (port : Octet) (s : State), s.UnitFree h → h.len = 3 →
    let enable := exec (.portControlEnable dt h port) s
    let disable := exec (.portControlDisable dt h port) s
    (3 < port.toNat → enable = .next (s.answered dt h 0x0D 3 []) ∧ disable = .next (s.answered dt h 0x0D 3 [])) ∧
    (port = 0 → disable = .next (s.answered dt h 0x0D 7 [])) ∧
    (∀ p, portNumber p = port → enable = .next (match (s.port p).line with
      | .disabled => { s.answered dt h 0x0D 0 [port, 1] with
          ports := portSet s.ports p { s.port p with
            line := .active { idleFrom := s.now + dt, highFrom := s.now + dt, stuckFrom := s.now + dt, busy := false, rx := .hunt, tx := .idle } } }
      | .active _ => s.answered dt h 0x0D 0 [port, 1]
      | .fault _ => s.answered dt h 0x0D 0 [port, 2])) ∧
    (∀ b, branchNumber b = port →
      ((s.port (branchPort b)).line = .disabled → disable = .next (s.answered dt h 0x0D 0 [port, 0])) ∧
      (∀ since, (s.port (branchPort b)).line = .fault since → disable = .next
        { s.answered dt h 0x0D 0 [port, 0] with
          ports := portSet s.ports (branchPort b) { s.port (branchPort b) with line := .disabled } }))

/-- Disabling an ACTIVE branch tears it down (R120, R121, R45, R70, R103) and then answers OK with state 0
(R169): the port is DISABLED; its queue, slot, holder and last-timed-out record are empty; each DIRECT
exchange that lived on it is RETURNING with a PORT-DOWN refusal, offered in record order ahead of the
response; each PROBE exchange loses the branch from its set, and ends where R67 or R68 says so, counting
PROBE-MISSES where it was PROBING. One reference is released for each that the queue, the receiver, the
transmitter and the ended exchanges held (R94, R97). A character being sent is left to finish, and an
earlier one stays left to (R121; logs 21 and 25). Premises: 16 records, 48 buffers, and room in the EXCHANGE
class, as there always is (R106). -/
def Obligations.DisablingTearsDownBranch : Prop :=
  ∀ (dt : Nat) (h : Header) (b : BranchId) (l : Live) (s : State), s.UnitFree h → h.len = 3 →
    (s.port (branchPort b)).line = .active l → s.records.length = 16 → s.pool.buffers.length = 48 →
    let onIt := fun d : Direct => decide (d.port = b) && d.onBranch
    classCount s.trunkQueue .exchange + (s.refusalsFor onIt .portDown).length ≤ 16 →
    ∃ t, exec (.portControlDisable dt h (branchNumber b)) s = .next t ∧
      t.trunkQueue = s.trunkQueue ++ s.refusalsFor onIt .portDown ++ [.response] ∧
      (t.port (branchPort b)).line = .disabled ∧ (t.port (branchPort b)).counters = (s.port (branchPort b)).counters ∧
      (∀ p, p ≠ branchPort b → t.port p = s.port p) ∧
      t.branch b = { s.branch b with queue := [], slot := none, holder := none, lastTimedOut := none } ∧
      (∀ c, c ≠ b → t.branch c = s.branch c) ∧
      (∀ x, s.record x = none → t.record x = none) ∧
      (∀ x e d, s.record x = some e → e.mode = .direct d → t.record x =
        (if onIt d = true then some { e with request := none, mode := .direct { d with phase := .returning } }
         else some e)) ∧
      (∀ x e q, s.record x = some e → e.mode = .probe q → t.record x =
        (if branchGet q.set b = false then some e
         else if setEmpty (branchSet q.set b false) = true ∧ (q.phase = .probing ∨ q.pending = false) then none
         else some { e with mode := .probe { q with set := branchSet q.set b false } })) ∧
      t.bridgeCounter (.refusals .portDown) =
        countedTimes (s.bridgeCounter (.refusals .portDown)) (s.refusalsFor onIt .portDown).length ∧
      t.bridgeCounter .probeMisses = countedTimes (s.bridgeCounter .probeMisses) (s.missesWithout b) ∧
      (∀ c, c ≠ .refusals .portDown → c ≠ .probeMisses → t.bridgeCounter c = s.bridgeCounter c) ∧
      Pool.Released s.pool t.pool (s.heldThrough b l) ∧
      (t.port (branchPort b)).tail = s.tailAfter dt (branchPort b) l.tx ∧
      t.table = s.table ∧ t.alerts = s.alerts ∧ t.addr = s.addr ∧ t.now = s.now + dt ∧
      t.mgmt = (s.answered dt h 0x0D 0 [branchNumber b, 0]).mgmt

/-- SET-BRIDGE (R170, R16, R20, R178): refused BAD-VALUE with nothing changed, or all five values taken, the
ageing timer restarted where the interval changes, and the response offered; where the change of
destination makes an alert due, the oldest entry is offered behind the response (R179, R187). -/
def Obligations.SetBridgeTakesAllFiveValues : Prop :=
  ∀ (dt : Nat) (h : Header) (policy window retries ageing dest : Octet) (s : State), s.UnitFree h → h.len = 6 →
    let run := exec (.setBridge dt h policy window retries ageing dest) s
    let bad := 1 < policy.toNat ∨ window = 0 ∨ 3 < retries.toNat ∨ dest = s.ownAddress
    (bad → run = .next (s.answered dt h 0x0E 4 [])) ∧
    (¬ bad → ∀ r : Fin 4, r.val = retries.toNat →
      let taken : State := { s.answered dt h 0x0E 0 [] with
        table := { s.table with
          policy := if policy = 1 then .probe else .ignore
          probeWindow := window
          learnedRetries := r
          ageing := ageing
          ageingFrom := if ageing = s.table.ageing then s.table.ageingFrom else s.now + dt }
        alerts := { s.alerts with dest := dest } }
      ((s.alerts.list = [] ∨ dest = 0 ∨ s.alerts.offered = true) → run = .next taken) ∧
      (∀ e rest, s.alerts.list = e :: rest → dest ≠ 0 → s.alerts.offered = false →
        classCount s.trunkQueue .alert = 0 → run = .next { taken with
          trunkQueue := s.trunkQueue ++ [.response, .alert
            { dest := dest, entry := e, overflow := s.alerts.overflow, generation := s.table.generation }]
          alerts := { s.alerts with dest := dest, offered := true } }))

/-- FLUSH (R48, R71, R104, R171): the branch queues, slots, holders and last-timed-out records are empty; each
DIRECT exchange on a branch is RETURNING with a FLUSHED refusal, offered in record order ahead of the
response; PROBING exchanges are FREE, SETTLING ones keep only a pending return; the ports, the table
and the alert list stay. Premises as for the teardown. -/
def Obligations.FlushSettlesEveryExchange : Prop :=
  ∀ (dt : Nat) (h : Header) (s : State), s.UnitFree h → h.len = 1 → s.records.length = 16 →
    classCount s.trunkQueue .exchange + (s.refusalsFor Direct.onBranch .flushed).length ≤ 16 →
    ∃ t, exec (.flush dt h) s = .next t ∧
      t.trunkQueue = s.trunkQueue ++ s.refusalsFor Direct.onBranch .flushed ++ [.response] ∧
      (∀ b, t.branch b = { s.branch b with queue := [], slot := none, holder := none, lastTimedOut := none }) ∧
      (∀ x, s.record x = none → t.record x = none) ∧
      (∀ x e d, s.record x = some e → e.mode = .direct d → t.record x =
        (if d.phase = .returning then some e
         else some { e with request := none, mode := .direct { d with phase := .returning } })) ∧
      (∀ x e q, s.record x = some e → e.mode = .probe q → t.record x =
        (if q.phase = .settling ∧ q.pending = true then
          some { e with mode := .probe { q with set := { b1 := false, b2 := false, b3 := false } } } else none)) ∧
      t.bridgeCounter (.refusals .flushed) =
        countedTimes (s.bridgeCounter (.refusals .flushed)) (s.refusalsFor Direct.onBranch .flushed).length ∧
      (∀ c, c ≠ .refusals .flushed → t.bridgeCounter c = s.bridgeCounter c) ∧
      (∀ a, (t.pool.buffer a).octets = (s.pool.buffer a).octets) ∧
      t.ports = s.ports ∧ t.table = s.table ∧ t.alerts = s.alerts ∧ t.addr = s.addr ∧ t.now = s.now + dt ∧
      t.mgmt = (s.answered dt h 0x0F 0 []).mgmt

/-- RESTART sets the restart flag and answers OK (R172). At the end of the response item, by completion, by
abandonment or by trunk teardown, the part is reset exactly as a hardware reset with the strap levels of
that instant would reset it (R155, R172, R173; log 10). -/
def Obligations.RestartResetsAtEndOfResponse : Prop :=
  ∀ (dt : Nat) (s : State),
    (∀ h, s.UnitFree h → h.len = 1 → exec (.restart dt h) s = .next
      { s.answered dt h 0x10 0 [] with mgmt := { (s.answered dt h 0x10 0 []).mgmt with restart := true } }) ∧
    (∀ l, s.live? .p0 = some l → s.mgmt.restart = true →
      (∀ n since frame back straps, l.tx = .send { item := .trunk .response, contentions := n } since frame →
        (since + frame.length * s.charTime .p0 ≤ s.now + dt →
          exec (.transmissionComplete { dt := dt, straps := straps } .p0) s = exec (.hardwareReset dt straps) s) ∧
        (7 ≤ n → s.ReadsOther .p0 since frame back dt →
          exec (.contention { dt := dt, straps := straps } .p0 back) s = exec (.hardwareReset dt straps) s)) ∧
      (∀ low straps, (.response ∈ s.trunkQueue ∨ l.tx.current?.map (·.item) = some (.trunk .response)) →
        s.LowLongEnough .p0 l dt →
          exec (.stuckLine { dt := dt, straps := straps } .p0 low) s = exec (.hardwareReset dt straps) s))

/-- The form of a management request is checked before its parameters (R153): LEN 0 is BAD-OPERATION with the
code echoed as 0x00, a code outside R147 is BAD-OPERATION, another LEN than the code's is BAD-LENGTH.
The response is the only effect. That the code of a BAD_OPERATION is outside R147 is this command's own
reading of its operand (log 24). -/
def Obligations.WrongFormIsAnswered : Prop :=
  ∀ (s : State) (h : Header), s.UnitFree h →
    (∀ (c : Instr) (dt : Nat) (code len : Octet), requestOf c = some (dt, h, code) → (code, len) ∈ lenTable →
      (h.len = 0 → exec c s = .next (s.answered dt h 0x00 1 [])) ∧
      (h.len ≠ 0 → h.len ≠ len → exec c s = .next (s.answered dt h code 2 []))) ∧
    (∀ (dt : Nat) (code : Octet),
      (h.len = 0 → exec (.badOperation dt h code) s = .next (s.answered dt h 0x00 1 [])) ∧
      (h.len ≠ 0 → code = 0 ∨ 0x10 < code.toNat →
        exec (.badOperation dt h code) s = .next (s.answered dt h code 1 [])))

/-- A management request that finds the unit busy is refused BUSY where no other BUSY refusal stands in the
trunk queue, and counts MANAGEMENT-DISCARDS otherwise (R78, R79); it has no other effect. A request that
names no operation is no exception. -/
def Obligations.BusyUnitRefusesRequests : Prop :=
  ∀ (c : Instr) (dt : Nat) (h : Header) (code : Octet) (s : State),
    (requestOf c = some (dt, h, code) ∨
      (c = .badOperation dt h code ∧ (h.len = 0 ∨ code = 0 ∨ 0x10 < code.toNat))) →
    s.hears .p0 = true → s.validSource h = true → s.mgmt.phase ≠ .idle →
    ((∃ r, .busy r ∈ s.trunkQueue) → exec c s = .next ((s.advance dt).count .managementDiscards)) ∧
    ((∀ r, .busy r ∉ s.trunkQueue) → classCount s.trunkQueue .management < 2 →
      exec c s = .next (((s.advance dt).enqueue (.busy
        { requester := h.src, station := s.ownAddress, tag := h.tag, urgent := h.urgent, reason := .busy })).count
        (.refusals .busy)))

/-! ### Receivers -/

/-- In HUNT a marked character with a good stop bit starts a frame (R122, R95, R97): a granted claim takes the
head of the free list for COLLECT with the octet as DEST; a refused one counts NOBUF-DROPS and enters
DISCARD; the grant of the last buffer while armed raises POOL-EMPTY(0) and clears the flag. P0 needs 9
free buffers, a branch 1. -/
def Obligations.MarkedCharacterStartsFrame : Prop :=
  ∀ (dt : Nat) (p : PortId) (o : Octet) (l : Live) (s : State), s.Hears p l dt → l.rx = .hunt →
    let enters := fun (rx : Rx) => portSet s.ports p { s.port p with
      line := .active { l with idleFrom := s.now + dt, highFrom := s.now + dt, stuckFrom := s.now + dt, busy := false, rx := rx } }
    let needs := if p = .p0 then 9 else 1
    (∀ b rest, s.pool.free = b :: rest → needs ≤ s.pool.free.length → s.pool.buffers.length = 48 →
      let pool : Pool :=
        { buffers := s.pool.buffers.set b.val { octets := [o], refs := 1 }, free := rest
          armed := if rest = [] then false else s.pool.armed }
      ((rest ≠ [] ∨ s.pool.armed = false) → exec (.markedCharacter dt p o) s = .next
        { s with now := s.now + dt, ports := enters (.collect b), pool := pool }) ∧
      (rest = [] → s.pool.armed = true → exec (.markedCharacter dt p o) s = .next
        { (s.advance dt).raise .poolEmpty 0 with ports := enters (.collect b), pool := pool })) ∧
    (s.pool.free.length < needs → exec (.markedCharacter dt p o) s = .next
      (State.countPort { s with now := s.now + dt, ports := enters (.discard 1 none) } p .nobufDrops))

/-- A marked character in COLLECT or DISCARD ends the frame in progress and starts a new one (R126): in
COLLECT TRUNCATED is counted and the buffer released before the claim, in DISCARD nothing more is counted;
from there it acts as in HUNT. -/
def Obligations.MarkedCharacterEndsFrameInProgress : Prop :=
  ∀ (dt : Nat) (p : PortId) (o : Octet) (l : Live) (s : State), s.Hears p l dt →
    (∀ b, l.rx = .collect b → exec (.markedCharacter dt p o) s =
      exec (.markedCharacter 0 p o) ((((s.advance dt).setRx p l .hunt).countPort p .truncated).release b)) ∧
    (∀ n len, l.rx = .discard n len → exec (.markedCharacter dt p o) s =
      exec (.markedCharacter 0 p o) ((s.advance dt).setRx p l .hunt))

/-- A character with marker 0 (R122, R123, R127): ignored in HUNT, stored as the next octet in COLLECT,
counted in DISCARD, whose LEN octet is read; its end starts the line timers. A LEN octet above 56 ends the
frame at once: MALFORMED is counted and the buffer released in COLLECT, nothing is counted in DISCARD. A
discarded frame ends at its (LEN + 6)th octet, and nothing is counted. The four rows of the table for such
a character are one event (DEDUCED, log 7). -/
def Obligations.Marker0CharacterIsStored : Prop :=
  ∀ (dt : Nat) (p : PortId) (o : Octet) (s : State),
    (exec (.oversizeLen dt p o) s = exec (.marker0Character dt p o) s ∧
     exec (.frameEnd dt p o) s = exec (.marker0Character dt p o) s ∧
     exec (.discardedFrameEnd dt p o) s = exec (.marker0Character dt p o) s) ∧
    (∀ l, s.Hears p l dt →
      let heard := fun (rx : Rx) => ({ s with
        now := s.now + dt
        ports := portSet s.ports p { s.port p with
          line := .active { l with idleFrom := s.now + dt, highFrom := s.now + dt, stuckFrom := s.now + dt, busy := false, rx := rx } } } : State)
      (l.rx = .hunt → exec (.marker0Character dt p o) s = .next (heard .hunt)) ∧
      (∀ b, l.rx = .collect b → s.pool.buffers.length = 48 →
        let os := s.octets b ++ [o]
        ¬ (os.length = 4 ∧ 56 < o.toNat) → ¬ (4 < os.length ∧ os.length = (os.getD 3 0).toNat + 6) →
        exec (.marker0Character dt p o) s = .next { heard (.collect b) with pool := { s.pool with
          buffers := s.pool.buffers.set b.val { octets := os, refs := (s.pool.buffer b).refs } } }) ∧
      (∀ n, l.rx = .discard n none → n < 3 →
        exec (.marker0Character dt p o) s = .next (heard (.discard (n + 1) none))) ∧
      (l.rx = .discard 3 none → o.toNat ≤ 56 →
        exec (.marker0Character dt p o) s = .next (heard (.discard 4 (some o)))) ∧
      (∀ n len, l.rx = .discard n (some len) → 4 ≤ n → n + 1 ≠ len.toNat + 6 →
        exec (.marker0Character dt p o) s = .next (heard (.discard (n + 1) (some len)))) ∧
      (∀ b, l.rx = .collect b → s.pool.buffers.length = 48 → (s.octets b).length = 3 → 56 < o.toNat →
        exec (.oversizeLen dt p o) s = .next
          ((State.countPort { heard .hunt with pool := s.pool.store b o } p .malformed).release b)) ∧
      (l.rx = .discard 3 none → 56 < o.toNat → exec (.oversizeLen dt p o) s = .next (heard .hunt)) ∧
      (∀ n len, l.rx = .discard n (some len) → 4 ≤ n → n + 1 = len.toNat + 6 →
        exec (.discardedFrameEnd dt p o) s = .next (heard .hunt)))

/-- The last octet of a frame in COLLECT (R128, R76): a bad check counts CHECK-ERRORS, a good check counts
FRAMES-IN, and a malformed frame then counts MALFORMED; in these cases the buffer is released and the
receiver is in HUNT. -/
def Obligations.FrameEndChecksTheFrame : Prop :=
  ∀ (dt : Nat) (p : PortId) (l : Live) (b : BufId) (o : Octet) (s : State),
    (s.Hears p l dt → l.rx = .collect b → s.pool.buffers.length = 48 →
      (s.octets b ++ [o]).length = ((s.octets b ++ [o]).getD 3 0).toNat + 6 →
      goodCheck (s.octets b ++ [o]) = false →
      exec (.frameEnd dt p o) s = .next (((State.setLive { s.advance dt with pool := s.pool.store b o } p
        { l with rx := .hunt, idleFrom := s.now + dt, highFrom := s.now + dt, stuckFrom := s.now + dt, busy := false }).countPort p .checkErrors).release b)) ∧
    (∀ f, s.GoodFrameEnds dt p l b o f →
      ((4 ≤ (f.ctl.extractLsb' 0 3).toNat ∨ f.dest = 0x00#8 ∨ f.src = 0x00#8 ∨ f.src = 0xFF#8 ∨ f.src = f.dest ∨
        (f.dest = 0xFF#8 ∧ (f.ctl.extractLsb' 0 3).toNat ≠ 0)) ↔ f.malformed = true) ∧
      (f.malformed = true → exec (.frameEnd dt p o) s = .next
        (((s.atFrameEnd dt p l b o).countPort p .malformed).release b)))

/-- A frame ends early by a framing error (R125) or by a gap above 2 character times (R124): in COLLECT
TRUNCATED is counted and the buffer released, in DISCARD nothing is counted; the receiver is in HUNT. In
HUNT both leave the receiver as it is (R122). After a framing error the line is busy until it returns
high (R113); how long that takes is the operand `low`, and the stuck-line timer keeps an instant before
the character (the model's reading, logs 8 and 9). A start bit qualified before the gap expires, which
the operand `busy` tells, keeps the frame alive, and a character that would have begun before the end of
the last busy period is not taken (R113). -/
def Obligations.GapOrFramingErrorEndsFrameEarly : Prop :=
  ∀ (dt : Nat) (p : PortId) (low : Nat) (busy : Bool) (l : Live) (s : State), s.Listens p l →
    let after : Live := { l with
      idleFrom := s.now + dt + low
      highFrom := s.now + dt + low
      stuckFrom := max l.stuckFrom (s.now + dt - s.sampleTime p)
      busy := false }
    let m : Live := { l with busy := l.busy || busy }
    (l.idleFrom + s.sampleTime p ≤ s.now + dt → exec (.framingError dt p low) s = .next (match l.rx with
      | .hunt => (s.advance dt).setLive p after
      | .collect b => (((s.advance dt).setLive p { after with rx := .hunt }).countPort p .truncated).release b
      | .discard _ _ => (s.advance dt).setLive p { after with rx := .hunt })) ∧
    (s.now + dt < l.idleFrom + s.sampleTime p →
      exec (.framingError dt p low) s = .next (s.advance dt) ∧
      ∀ o, exec (.markedCharacter dt p o) s = .next (s.advance dt) ∧
        exec (.marker0Character dt p o) s = .next (s.advance dt)) ∧
    (m.busy = false → l.idleFrom + 2 * s.charTime p < s.now + dt →
      exec (.gapExpiry { dt := dt, busy := busy } p) s = .next (match l.rx with
      | .hunt => (s.advance dt).setLive p m
      | .collect b => (((s.advance dt).setLive p { m with rx := .hunt }).countPort p .truncated).release b
      | .discard _ _ => (s.advance dt).setLive p { m with rx := .hunt })) ∧
    (m.busy = true ∨ s.now + dt ≤ l.idleFrom + 2 * s.charTime p →
      exec (.gapExpiry { dt := dt, busy := busy } p) s = .next ((s.advance dt).setLive p m))

/-! ### Frames that end on the trunk -/

/-- A management request that ends on the trunk octet by octet has the effect of its command, after the
frame end and the release of its buffer (R77, R78, R147, R153; log 5). A choice octet without a meaning is
BAD-VALUE (R3, R167, R169). -/
def Obligations.ManagementRequestFrameIsItsCommand : Prop :=
  ∀ (dt : Nat) (l : Live) (b : BufId) (o : Octet) (f : Frame) (s : State), s.GoodFrameEnds dt .p0 l b o f →
    f.malformed = false → f.kind = .request → f.dest = s.ownAddress →
    let u := (s.atFrameEnd dt .p0 l b o).release b
    let h : Header := { src := f.src, tag := f.tag, urgent := f.urgent, len := f.len }
    let run := exec (.frameEnd dt .p0 o) s
    let q := fun n => f.payload.getD n 0
    (f.payload = [] → run = exec (.badOperation 0 h 0) u) ∧
    (f.payload ≠ [] →
      ((q 0 = 0 ∨ 0x10 < (q 0).toNat) → run = exec (.badOperation 0 h (q 0)) u) ∧
      (q 0 = 0x01 → run = exec (.identify 0 h) u) ∧
      (q 0 = 0x02 → run = exec (.readStatus 0 h) u) ∧
      (q 0 = 0x03 → run = exec (.readPort 0 h (q 1) (q 2)) u) ∧
      (q 0 = 0x04 → run = exec (.readBridge 0 h (q 1)) u) ∧
      (q 0 = 0x05 → run = exec (.readEntry 0 h (q 1) (q 2)) u) ∧
      (q 0 = 0x06 → run = exec (.writeEntry 0 h (q 1) (q 2) (q 3) (q 4) (q 5) (q 6) (q 7) (q 8)) u) ∧
      (q 0 = 0x07 → q 1 = 0 → run = exec (.prepareShadowClear 0 h) u) ∧
      (q 0 = 0x07 → q 1 = 1 → run = exec (.prepareShadowCopy 0 h) u) ∧
      (q 0 = 0x08 → run = exec (.commit 0 h (q 2 ++ q 1)) u) ∧
      (q 0 = 0x09 → run = exec (.readLearned 0 h (q 1) (q 2)) u) ∧
      (q 0 = 0x0A → q 1 = 0 → run = exec (.forgetAddress 0 h (q 2)) u) ∧
      (q 0 = 0x0A → q 1 = 1 → run = exec (.forgetAll 0 h) u) ∧
      (q 0 = 0x0B → run = exec (.readExchanges 0 h (q 1) (q 2)) u) ∧
      (q 0 = 0x0C → run = exec (.setPort 0 h (q 1) (q 2) (q 3) (q 4) (q 5) (q 6)) u) ∧
      (q 0 = 0x0D → q 2 = 0 → run = exec (.portControlDisable 0 h (q 1)) u) ∧
      (q 0 = 0x0D → q 2 = 1 → run = exec (.portControlEnable 0 h (q 1)) u) ∧
      (q 0 = 0x0E → run = exec (.setBridge 0 h (q 1) (q 2) (q 3) (q 4) (q 5)) u) ∧
      (q 0 = 0x0F → run = exec (.flush 0 h) u) ∧
      (q 0 = 0x10 → run = exec (.restart 0 h) u)) ∧
    (u.UnitFree h →
      (∀ m, f.payload = [0x07, m] → 1 < m.toNat → run = .next (u.answered 0 h 0x07 4 [])) ∧
      (∀ m a, f.payload = [0x0A, m, a] → 1 < m.toNat → run = .next (u.answered 0 h 0x0A 4 [])) ∧
      (∀ p m, f.payload = [0x0D, p, m] → 1 < m.toNat →
        run = .next (u.answered 0 h 0x0D (if 3 < p.toNat then 3 else 4) [])))

/-- A trunk frame that the part leaves alone (R77, R80, R82, R83, R85, R87): any frame to a requester's
address; a NOTICE, RESPONSE or REFUSAL to the own address; a RESPONSE or REFUSAL to a station; a REQUEST
that resolves to LOCAL or IGNORE; a NOTICE that resolves to LOCAL, BLOCK, CONFLICT or IGNORE. Its buffer
is released, and nothing is counted beyond FRAMES-IN. -/
def Obligations.IgnoredTrunkFramesAreReleased : Prop :=
  ∀ (dt : Nat) (l : Live) (b : BufId) (o : Octet) (f : Frame) (s : State), s.GoodFrameEnds dt .p0 l b o f →
    f.malformed = false →
    ((0xF8 ≤ f.dest.toNat ∧ f.dest.toNat ≤ 0xFE) ∨
     (f.dest = s.ownAddress ∧ f.kind ≠ .request) ∨
     (f.ToStation s.ownAddress ∧ (f.kind = .response ∨ f.kind = .refusal)) ∨
     (f.ToStation s.ownAddress ∧ f.kind = .request ∧ (s.resolve f.dest = .onTrunk ∨ s.resolve f.dest = .ignore)) ∨
     (f.ToStation s.ownAddress ∧ f.kind = .notice ∧ (s.resolve f.dest = .onTrunk ∨ s.resolve f.dest = .block ∨
       s.resolve f.dest = .conflict ∨ s.resolve f.dest = .ignore))) →
    exec (.frameEnd dt .p0 o) s = .next ((s.atFrameEnd dt .p0 l b o).release b)

/-- Notice copies (R81, R83, R84): a broadcast goes to every ACTIVE branch with broadcast pass on, a directed
notice to the branch of a FORWARD outcome, or to every ACTIVE probe member under PROBE; each target that
is ACTIVE with room in its queue gets one copy, each other target counts QUEUE-DROPS; the buffer's count
ends at the number of copies, and it is free where there is none. Premises: the queues are sound (R100),
and the receiver holds the buffer's one reference (R75). -/
def Obligations.NoticeCopiesArePlaced : Prop :=
  ∀ (dt : Nat) (l : Live) (b : BufId) (o : Octet) (f : Frame) (target : BranchId → Bool) (s : State),
    s.GoodFrameEnds dt .p0 l b o f → f.malformed = false → f.kind = .notice →
    s.BranchQueuesSound → (s.pool.buffer b).refs = 1 →
    ((f.dest = 0xFF ∧ ∀ q, target q = (s.isActive (branchPort q) && (s.branch q).broadcastPass)) ∨
     (f.ToStation s.ownAddress ∧ ∃ p w r v, s.resolve f.dest = .forward p w r v ∧ ∀ q, target q = decide (q = p)) ∨
     (f.ToStation s.ownAddress ∧ s.resolve f.dest = .probe ∧
       ∀ q, target q = (s.isActive (branchPort q) && (s.branch q).probeMember))) →
    let u := s.atFrameEnd dt .p0 l b o
    let room := fun q => s.isActive (branchPort q) && decide ((s.branch q).queue.length < 8)
    ∃ t, exec (.frameEnd dt .p0 o) s = .next t ∧
      (∀ q, t.branch q = if target q && room q then
          { s.branch q with queue := placed (s.branch q).queue { kind := .notice, urgent := f.urgent, buf := b } }
        else s.branch q) ∧
      (∀ q c, t.portCounter (branchPort q) c =
        if c = .queueDrops ∧ (target q && !room q) = true then saturate (u.portCounter (branchPort q) c)
        else u.portCounter (branchPort q) c) ∧
      (∀ q, (t.port (branchPort q)).line = (s.port (branchPort q)).line) ∧ t.port .p0 = u.port .p0 ∧
      (if countBranches (fun q => target q && room q) = 0 then t.pool = u.pool.release b
       else (t.pool.buffer b).refs = countBranches (fun q => target q && room q) ∧ t.pool.free = s.pool.free ∧
         (∀ a, a ≠ b → t.pool.buffer a = s.pool.buffer a)) ∧
      t.records = s.records ∧ t.trunkQueue = s.trunkQueue ∧ t.table = s.table ∧ t.alerts = s.alerts ∧
      t.mgmt = s.mgmt ∧ t.counters = s.counters

/-- The opening of a DIRECT exchange (R27 case 5, R29): the lowest FREE record takes the request's key and the
FORWARD outcome's parameters, QUEUED with attempts 0; a request item joins the branch queue by its
urgency with a second reference; EXCHANGES-OPENED is counted. Nothing else changes. -/
def Obligations.ForwardedRequestOpensDirectExchange : Prop :=
  ∀ (dt : Nat) (l : Live) (b : BufId) (o : Octet) (f : Frame) (q : BranchId) (window : Octet) (retries : Fin 4)
    (viaLearned : Bool) (x : SlotNo) (s : State),
    s.GoodFrameEnds dt .p0 l b o f → f.ToStation s.ownAddress → f.kind = .request →
    s.resolve f.dest = .forward q window retries viaLearned →
    s.KeyFree { requester := f.src, station := f.dest, tag := f.tag } → s.isActive (branchPort q) = true →
    s.LowestFree x → QueueSound (s.branch q).queue → (s.branch q).queue.length < 8 →
    exec (.frameEnd dt .p0 o) s = .next (((((s.atFrameEnd dt .p0 l b o).setRecord x (some
      { key := { requester := f.src, station := f.dest, tag := f.tag }, urgent := f.urgent, window := window
        request := some b
        mode := .direct
          { phase := .queued, port := q, viaLearned := viaLearned, retries := retries, attempts := 0 } })).retain b).setBranch q
      { s.branch q with queue := placed (s.branch q).queue { kind := .request x, urgent := f.urgent, buf := b } }).count
        .exchangesOpened)

/-- A request that opens no exchange. With a FORWARD or PROBE outcome and a record that is not FREE with its
key, it is a duplicate, whatever that record's mode and state (R27, R55, R69): DUPLICATES is counted and
nothing else changes. Otherwise it is refused at once (R27, R28, R73, R86): BLOCKED or CONFLICT by its
outcome, or PORT-DOWN, NO-EXCHANGE or QUEUE-FULL, in that order; with room in the IMMEDIATE class the item
is admitted and REFUSALS counted, and otherwise IMMEDIATE-DISCARDS. The buffer is released. -/
def Obligations.RequestWithoutExchangeIsRefusedOrDiscarded : Prop :=
  ∀ (dt : Nat) (l : Live) (b : BufId) (o : Octet) (f : Frame) (s : State),
    s.GoodFrameEnds dt .p0 l b o f → f.ToStation s.ownAddress → f.kind = .request →
    let key : Key := { requester := f.src, station := f.dest, tag := f.tag }
    let run := exec (.frameEnd dt .p0 o) s
    let u := (s.atFrameEnd dt .p0 l b o).release b
    (∀ x e, ((∃ q w r v, s.resolve f.dest = .forward q w r v) ∨ s.resolve f.dest = .probe) →
      s.record x = some e → e.key = key → run = .next (u.count .duplicates)) ∧
    (∀ reason : Reason,
      ((reason = .blocked ∧ s.resolve f.dest = .block) ∨ (reason = .conflict ∧ s.resolve f.dest = .conflict) ∨
       (∃ q w r v, s.resolve f.dest = .forward q w r v ∧ s.KeyFree key ∧
         ((reason = .portDown ∧ s.isActive (branchPort q) = false) ∨
          (reason = .noExchange ∧ s.isActive (branchPort q) = true ∧ ∀ x, s.record x ≠ none) ∨
          (reason = .queueFull ∧ s.isActive (branchPort q) = true ∧ (∃ x, s.record x = none) ∧
            8 ≤ (s.branch q).queue.length)))) →
      (classCount s.trunkQueue .immediate < 4 → run = .next ((u.enqueue (.immediate
        { requester := f.src, station := f.dest, tag := f.tag, urgent := f.urgent, reason := reason })).count
          (.refusals reason))) ∧
      (4 ≤ classCount s.trunkQueue .immediate → run = .next (u.count .immediateDiscards)))

/-- The opening of a PROBE exchange (R55, R56): with a FREE record and a qualifying branch, the lowest FREE
record becomes PROBING with the qualifying branches as its set and the probe window of that instant, each
of them gets a probe item with a reference of its own, and PROBES-STARTED is counted once; otherwise
PROBES-SKIPPED is counted and the buffer released. -/
def Obligations.ProbeRequestOpensProbeExchange : Prop :=
  ∀ (dt : Nat) (l : Live) (b : BufId) (o : Octet) (f : Frame) (s : State),
    s.GoodFrameEnds dt .p0 l b o f → f.ToStation s.ownAddress → f.kind = .request → s.resolve f.dest = .probe →
    s.KeyFree { requester := f.src, station := f.dest, tag := f.tag } → s.BranchQueuesSound →
    let u := s.atFrameEnd dt .p0 l b o
    let member := fun q => s.isActive (branchPort q) && (s.branch q).probeMember &&
      decide ((s.branch q).queue.length < 8)
    (((∀ x, s.record x ≠ none) ∨ countBranches member = 0) →
      exec (.frameEnd dt .p0 o) s = .next ((u.release b).count .probesSkipped)) ∧
    (∀ x, s.LowestFree x → countBranches member ≠ 0 → ∃ t, exec (.frameEnd dt .p0 o) s = .next t ∧
      t.record x = some
        { key := { requester := f.src, station := f.dest, tag := f.tag }, urgent := f.urgent
          window := s.table.probeWindow, request := some b
          mode := .probe
            { phase := .probing, pending := false
              set := { b1 := member .b1, b2 := member .b2, b3 := member .b3 } } } ∧
      (∀ y, y ≠ x → t.record y = s.record y) ∧
      (∀ q, t.branch q = if member q then
          { s.branch q with queue := placed (s.branch q).queue { kind := .probe x, urgent := f.urgent, buf := b } }
        else s.branch q) ∧
      (t.pool.buffer b).refs = (s.pool.buffer b).refs + countBranches member ∧
      (∀ a, a ≠ b → t.pool.buffer a = s.pool.buffer a) ∧ t.pool.free = s.pool.free ∧ t.pool.armed = s.pool.armed ∧
      t.counters = { s.counters with probesStarted := saturate s.counters.probesStarted } ∧
      t.ports = u.ports ∧ t.trunkQueue = s.trunkQueue ∧ t.table = s.table ∧ t.alerts = s.alerts ∧ t.mgmt = s.mgmt)

/-! ### Frames that end on a branch -/

/-- A frame with the key of the exchange that branch `q` waits on, AWAITING in its slot or REPEAT in its
holder, is accepted (R38, R41): the slot or the holder is emptied, the request's buffer released, the age
refreshed for a RESPONSE of a via-learned exchange (R14), and the frame becomes the return, admitted to
the trunk queue with the exchange RETURNING, or dropped with RETURNS-LOST and the exchange FREE where the
trunk is not ACTIVE (R31). -/
def Obligations.AnswerIsReturned : Prop :=
  ∀ (dt : Nat) (q : BranchId) (l : Live) (b : BufId) (o : Octet) (f : Frame) (x : SlotNo) (e : Exchange)
    (d : Direct) (left : Branch) (s : State),
    s.GoodFrameEnds dt (branchPort q) l b o f → f.malformed = false → (f.kind = .response ∨ f.kind = .refusal) →
    s.record x = some e → e.mode = .direct d → e.key = { requester := f.dest, station := f.src, tag := f.tag } →
    ((d.phase = .awaiting ∧ (∃ dl, (s.branch q).slot = some { exch := x, kind := .request, deadline := dl }) ∧
       left = { s.branch q with slot := none }) ∨
     (d.phase = .repeating ∧ (s.branch q).slot = none ∧ (s.branch q).holder = some x ∧
       (s.branch q).lastTimedOut = some (e.key, x) ∧ left = { s.branch q with holder := none })) →
    let u := s.atFrameEnd dt (branchPort q) l b o
    let freed := (State.setBranch { u with
      table := if d.viaLearned = true ∧ f.kind = .response then
          { s.table with learned := s.table.refresh e.key.station d.port } else s.table } q left).releaseOpt e.request
    (s.admits (.frameReturn x b) = true → exec (.frameEnd dt (branchPort q) o) s = .next
      ((freed.enqueue (.frameReturn x b)).setRecord x
        (some { e with request := none, mode := .direct { d with phase := .returning } }))) ∧
    (s.isActive .p0 = false → exec (.frameEnd dt (branchPort q) o) s = .next
      (((freed.release b).count .returnsLost).setRecord x none))

/-- A branch frame that is not returned. One that answers nothing is unsolicited (R37, R89): UNSOLICITED is
counted, and under DROP its buffer is released, while under PASS-UP it joins the trunk queue where P0 is
ACTIVE and the class has room, and otherwise counts QUEUE-DROPS on its branch (R90). One with the key of the
last-timed-out record counts LATE (R42): where its exchange holds the key and is QUEUED on the branch again
it is unsolicited as well, and in every other case but acceptance it is discarded. -/
def Obligations.UnansweringBranchFrameIsCounted : Prop :=
  ∀ (dt : Nat) (p : BranchId) (l : Live) (b : BufId) (o : Octet) (f : Frame) (s : State),
    s.GoodFrameEnds dt (branchPort p) l b o f → f.malformed = false →
    let key : Key := { requester := f.dest, station := f.src, tag := f.tag }
    let run := exec (.frameEnd dt (branchPort p) o) s
    let u := s.atFrameEnd dt (branchPort p) l b o
    let unsolicited := fun v : State =>
      let w := v.countPort (branchPort p) .unsolicited
      if (s.branch p).unsolicited = .drop then w.release b
      else if s.isActive .p0 = true ∧ classCount s.trunkQueue .passUp < 5 then w.enqueue (.passUp b)
      else (w.release b).countPort (branchPort p) .queueDrops
    ((f.kind = .notice ∨ f.kind = .request ∨
        (s.SlotSilent p key ∧ ∀ k x, (s.branch p).lastTimedOut = some (k, x) → k ≠ key)) →
      run = .next (unsolicited u)) ∧
    (∀ x, (f.kind = .response ∨ f.kind = .refusal) → s.SlotSilent p key →
      (s.branch p).lastTimedOut = some (key, x) →
      let late := u.countPort (branchPort p) .late
      (∀ e d, s.record x = some e → e.key = key → e.mode = .direct d → d.phase = .queued → d.port = p →
        run = .next (unsolicited late)) ∧
      ((∀ e d, s.record x = some e → e.key = key → e.mode = .direct d →
          ¬ (d.phase = .queued ∧ d.port = p) ∧ ¬ (d.phase = .repeating ∧ (s.branch p).holder = some x)) →
        run = .next (late.release b)))

/-- The first answer to a PROBING exchange (R62, R63, R64, R68): slot released, waiting copies of the exchange
removed from every queue, its set reduced to the copies already taken on the other branches, the station
handed to the table, the request's buffer released, the answer returned; the exchange is SETTLING, or FREE
where nothing is left of it. One reference is released for each removed copy, for the request, and for the
answer where it is dropped at its offer; in which order is open (log 12). An alert of R13 may be admitted
before or after the return (the order is free, log 11), so the claim names the other items of the trunk
queue. -/
def Obligations.FirstProbeAnswerIsReturned : Prop :=
  ∀ (dt : Nat) (p : BranchId) (l : Live) (b : BufId) (o : Octet) (f : Frame) (x : SlotNo) (start : Nat)
    (e : Exchange) (q : Probe) (s : State),
    s.GoodFrameEnds dt (branchPort p) l b o f → f.malformed = false → (f.kind = .response ∨ f.kind = .refusal) →
    (s.branch p).slot = some { exch := x, kind := .probe, deadline := some start } → s.record x = some e →
    e.mode = .probe q → q.phase = .probing → e.key = { requester := f.dest, station := f.src, tag := f.tag } →
    let set := fun c => decide (c ≠ p) && branchGet q.set c && decide (s.waiting c (.probe x) = 0)
    let left : PerBranch Bool := { b1 := set .b1, b2 := set .b2, b3 := set .b3 }
    let learnt := s.table.learn e.key.station p
    ∃ t, exec (.frameEnd dt (branchPort p) o) s = .next t ∧
      (∀ c, (t.branch c).queue = (s.branch c).queue.filter (fun i => decide (i.kind ≠ .probe x)) ∧
        (t.branch c).slot = (if c = p then none else (s.branch c).slot) ∧
        (t.branch c).holder = (s.branch c).holder ∧ (t.branch c).lastTimedOut = (s.branch c).lastTimedOut) ∧
      (∀ y, y ≠ x → t.record y = s.record y) ∧
      t.table = { s.table with learned := learnt.1 } ∧
      t.alerts.list = (if learnt.2 = .conflicted then (s.alerts.add .addressConflict e.key.station).list
        else s.alerts.list) ∧
      t.bridgeCounter .learned = (if learnt.2 = .created then saturate (s.bridgeCounter .learned)
        else s.bridgeCounter .learned) ∧
      t.bridgeCounter .conflicts = (if learnt.2 = .conflicted then saturate (s.bridgeCounter .conflicts)
        else s.bridgeCounter .conflicts) ∧
      (s.admits (.frameReturn x b) = true →
        t.record x = some { e with request := none, mode := .probe { phase := .settling, set := left, pending := true } } ∧
        t.trunkQueue.filter (fun i => !i.isAlert) = s.trunkQueue.filter (fun i => !i.isAlert) ++ [.frameReturn x b] ∧
        t.bridgeCounter .returnsLost = s.bridgeCounter .returnsLost) ∧
      (s.isActive .p0 = false →
        t.record x = (if setEmpty left then none
          else some { e with request := none, mode := .probe { phase := .settling, set := left, pending := false } }) ∧
        t.trunkQueue = s.trunkQueue ∧
        t.bridgeCounter .returnsLost = saturate (s.bridgeCounter .returnsLost)) ∧
      (s.admits (.frameReturn x b) = true →
        Pool.Released (s.atFrameEnd dt (branchPort p) l b o).pool t.pool
          (fun a => s.copiesWaiting x a + holds a e.request)) ∧
      (s.isActive .p0 = false →
        Pool.Released (s.atFrameEnd dt (branchPort p) l b o).pool t.pool
          (fun a => s.copiesWaiting x a + holds a e.request + holds a (some b))) ∧
      (∀ c, c ≠ .learned → c ≠ .conflicts → c ≠ .returnsLost → t.bridgeCounter c = s.bridgeCounter c) ∧
      t.alerts.overflow = (if learnt.2 = .conflicted then (s.alerts.add .addressConflict e.key.station).overflow
        else s.alerts.overflow) ∧
      t.alerts.dest = s.alerts.dest ∧ t.addr = s.addr ∧ t.now = s.now + dt ∧
      t.ports = (s.atFrameEnd dt (branchPort p) l b o).ports ∧ t.mgmt = s.mgmt

/-- A further answer to a SETTLING exchange (R62, R65, R68): slot released, the branch leaves the set, the
station is handed to the table, the frame is discarded, and the exchange is FREE where its set is empty
and its return no longer pending. Nothing is counted for the discard. -/
def Obligations.FurtherProbeAnswerIsLearnedAndDiscarded : Prop :=
  ∀ (dt : Nat) (p : BranchId) (l : Live) (b : BufId) (o : Octet) (f : Frame) (x : SlotNo) (start : Nat)
    (e : Exchange) (q : Probe) (s : State),
    s.GoodFrameEnds dt (branchPort p) l b o f → f.malformed = false → (f.kind = .response ∨ f.kind = .refusal) →
    (s.branch p).slot = some { exch := x, kind := .probe, deadline := some start } → s.record x = some e →
    e.mode = .probe q → q.phase = .settling → e.key = { requester := f.dest, station := f.src, tag := f.tag } →
    let u := s.atFrameEnd dt (branchPort p) l b o
    let learnt := s.table.learn e.key.station p
    ∃ t, exec (.frameEnd dt (branchPort p) o) s = .next t ∧
      t.record x = (if setEmpty (branchSet q.set p false) = true ∧ q.pending = false then none
        else some { e with mode := .probe { q with set := branchSet q.set p false } }) ∧
      (∀ y, y ≠ x → t.record y = s.record y) ∧
      t.branches = branchSet s.branches p { s.branch p with slot := none } ∧
      t.table = { s.table with learned := learnt.1 } ∧
      t.alerts.list = (if learnt.2 = .conflicted then (s.alerts.add .addressConflict e.key.station).list
        else s.alerts.list) ∧
      t.counters = (match learnt.2 with
        | .created => { s.counters with learned := saturate s.counters.learned }
        | .conflicted => { s.counters with conflicts := saturate s.counters.conflicts }
        | .nothing => s.counters
        | .refreshed => s.counters) ∧
      t.trunkQueue.filter (fun i => !i.isAlert) = s.trunkQueue.filter (fun i => !i.isAlert) ∧
      t.pool = u.pool.release b ∧ t.ports = u.ports ∧ t.mgmt = s.mgmt

/-- What a probe answer for address `a` on branch `b` does to the learned entries (R11, R12, R13), and what a
matched RESPONSE does (R14), on a table whose places hold each address once. -/
def Obligations.AnswersTeachTheTable : Prop :=
  ∀ (t : Table) (a : Octet) (b : BranchId), t.learned.Pairwise differentAddress →
    let fresh : Option Learned := some { addr := a, port := b, mark := .valid 0 }
    (covers t.active a = true → t.learn a b = (t.learned, .nothing)) ∧
    (covers t.active a = false →
      ((∀ e, some e ∈ t.learned → e.addr ≠ a) →
        (∀ i : Nat, t.learned[i]? = some none → (∀ j : Nat, j < i → t.learned[j]? ≠ some none) →
          t.learn a b = (t.learned.set i fresh, .created)) ∧
        (none ∉ t.learned →
          (∀ (i : Nat) (age : Nat), (t.learned[i]?).bind ageAt = some age →
            (∀ (j best : Nat), (t.learned[j]?).bind ageAt = some best → best < age ∨ (best = age ∧ i ≤ j)) →
            t.learn a b = (t.learned.set i fresh, .created)) ∧
          ((∀ o, o ∈ t.learned → ageAt o = none) → t.learn a b = (t.learned, .nothing)))) ∧
      (∀ (i : Nat) (e : Learned), t.learned[i]? = some (some e) → e.addr = a →
        t.learn a b = (match e.mark with
          | .conflict _ => (t.learned, .nothing)
          | .valid _ => if e.port = b then (t.learned.set i (some { e with mark := .valid 0 }), .refreshed)
            else (t.learned.set i (some { e with mark := .conflict b }), .conflicted)))) ∧
    (∀ (i : Nat) (e : Learned), t.learned[i]? = some (some e) → e.addr = a →
      t.refresh a b = (match e.mark with
        | .valid _ => if e.port = b then t.learned.set i (some { e with mark := .valid 0 }) else t.learned
        | .conflict _ => t.learned)) ∧
    ((∀ e, some e ∈ t.learned → e.addr ≠ a) → t.refresh a b = t.learned)

/-! ### Lines -/

/-- A line of an ACTIVE branch held low for 4 character times (R118, R121, R45): the port is in FAULT, its
recovery timer counting from the line's return to high, FAULTS is counted, PORT-FAULT is raised, and the
teardown settles the branch as on disabling. With the trunk ACTIVE its DIRECT exchanges are RETURNING
with PORT-DOWN refusals in record order; with the trunk in FAULT they are FREE and RETURNS-LOST is
counted for each (R31, R47). Probes that lose their last branch count PROBE-MISSES (R67), and one
reference is released for each that was held (R94, R97). FAULT_N is asserted (R185). An alert may be
admitted before or after the refusals (the order is free, log 11), so the claim names the other items of
the trunk queue. In SEND, which can only be in the first character of a frame on a line low since before
it, the character is left to finish (R121; logs 21 and 25). Where the line was known to be high less than
4 character times ago nothing happens (log 3). When a line has been low long enough is log 9's reading,
and the operand `low` log 8's. Premises as for the disabling. -/
def Obligations.StuckBranchFaultsAndTearsDown : Prop :=
  ∀ (dt low : Nat) (straps : Straps) (b : BranchId) (l : Live) (s : State), s.live? (branchPort b) = some l →
    (¬ s.LowLongEnough (branchPort b) l dt →
      exec (.stuckLine { dt := dt, straps := straps } (branchPort b) low) s = .next (s.advance dt)) ∧
    (s.LowLongEnough (branchPort b) l dt → s.records.length = 16 → s.pool.buffers.length = 48 →
    let onIt := fun d : Direct => decide (d.port = b) && d.onBranch
    let refusals := s.refusalsFor onIt .portDown
    (s.isActive .p0 = true → classCount s.trunkQueue .exchange + refusals.length ≤ 16) →
    ∃ t, exec (.stuckLine { dt := dt, straps := straps } (branchPort b) low) s = .next t ∧
      (t.port (branchPort b)).line = .fault (max l.highFrom (s.now + dt + low)) ∧ t.faultAsserted = true ∧
      (t.port (branchPort b)).counters = portCounterBump (s.port (branchPort b)).counters .faults ∧
      (t.port (branchPort b)).tail = s.tailAfter dt (branchPort b) l.tx ∧
      (∀ p, p ≠ branchPort b → t.port p = s.port p) ∧
      t.branch b = { s.branch b with queue := [], slot := none, holder := none, lastTimedOut := none } ∧
      (∀ c, c ≠ b → t.branch c = s.branch c) ∧
      (∀ x, s.record x = none → t.record x = none) ∧
      (∀ x e d, s.record x = some e → e.mode = .direct d → t.record x =
        (if onIt d = false then some e
         else if s.isActive .p0 = true then
           some { e with request := none, mode := .direct { d with phase := .returning } }
         else none)) ∧
      (∀ x e q, s.record x = some e → e.mode = .probe q → t.record x =
        (if branchGet q.set b = false then some e
         else if setEmpty (branchSet q.set b false) = true ∧ (q.phase = .probing ∨ q.pending = false) then none
         else some { e with mode := .probe { q with set := branchSet q.set b false } })) ∧
      (s.isActive .p0 = true →
        t.trunkQueue.filter (fun i => !i.isAlert) = s.trunkQueue.filter (fun i => !i.isAlert) ++ refusals ∧
        t.bridgeCounter (.refusals .portDown) = countedTimes (s.bridgeCounter (.refusals .portDown)) refusals.length ∧
        t.bridgeCounter .returnsLost = s.bridgeCounter .returnsLost) ∧
      (s.isActive .p0 = false →
        t.trunkQueue = s.trunkQueue ∧
        t.bridgeCounter (.refusals .portDown) = s.bridgeCounter (.refusals .portDown) ∧
        t.bridgeCounter .returnsLost = countedTimes (s.bridgeCounter .returnsLost) refusals.length) ∧
      t.bridgeCounter .probeMisses = countedTimes (s.bridgeCounter .probeMisses) (s.missesWithout b) ∧
      (∀ c, c ≠ .refusals .portDown → c ≠ .returnsLost → c ≠ .probeMisses → t.bridgeCounter c = s.bridgeCounter c) ∧
      Pool.Released s.pool t.pool (s.heldThrough b l) ∧
      t.alerts.list = (s.alerts.add .portFault (branchNumber b)).list ∧
      t.alerts.overflow = (s.alerts.add .portFault (branchNumber b)).overflow ∧
      t.table = s.table ∧ t.mgmt = s.mgmt ∧ t.addr = s.addr ∧ t.now = s.now + dt)

/-- A line of an ACTIVE trunk held low for 4 character times (R118, R110, R46, R71, R155, R181), in a state
that keeps the invariants and with no restart pending: P0 is in FAULT and the trunk queue empty; every
exchange whose return was queued or being sent is FREE, or has its return-pending flag cleared, with
RETURNS-LOST counted for each; a unit that was ANSWERING is IDLE; PORT-FAULT(0) is listed and no entry is
offered. A character being sent is left to finish (R121; logs 21 and 25). The branches and the exchanges
on them stay as they were. Where the line was known to be high less than 4 character times ago nothing
happens (log 3). When a line has been low long enough is log 9's reading, and the operand `low`
log 8's. -/
def Obligations.StuckTrunkFaultsAndTearsDown : Prop :=
  ∀ (dt low : Nat) (straps : Straps) (l : Live) (s : State), s.live? .p0 = some l →
    (¬ s.LowLongEnough .p0 l dt → exec (.stuckLine { dt := dt, straps := straps } .p0 low) s = .next (s.advance dt)) ∧
    (s.LowLongEnough .p0 l dt → s.mgmt.restart = false →
    s.EngineSound → s.UnitSound → s.OfferSound →
    ∃ t, exec (.stuckLine { dt := dt, straps := straps } .p0 low) s = .next t ∧
      (t.port .p0).line = .fault (max l.highFrom (s.now + dt + low)) ∧ t.faultAsserted = true ∧
      (t.port .p0).counters = portCounterBump (s.port .p0).counters .faults ∧
      (t.port .p0).tail = s.tailAfter dt .p0 l.tx ∧
      (∀ b, t.port (branchPort b) = s.port (branchPort b)) ∧ t.branches = s.branches ∧ t.trunkQueue = [] ∧
      (∀ x, s.record x = none → t.record x = none) ∧
      (∀ x e d, s.record x = some e → e.mode = .direct d →
        t.record x = if d.phase = .returning then none else some e) ∧
      (∀ x e q, s.record x = some e → e.mode = .probe q →
        t.record x = if q.pending = true ∧ setEmpty q.set = true then none
          else some { e with mode := .probe { q with pending := false } }) ∧
      t.bridgeCounter .returnsLost = countedTimes (s.bridgeCounter .returnsLost)
        (allSlots.filter (fun x => decide (s.standing (TrunkItem.isReturnOf x) = 1))).length ∧
      t.mgmt.phase = (if s.mgmt.phase = .answering then .idle else s.mgmt.phase) ∧
      t.alerts.list = (s.alerts.add .portFault 0).list ∧ t.alerts.offered = false ∧
      t.table = s.table ∧ t.now = s.now + dt)

/-- A port in FAULT (R119): a low level at the middle of its first bit, half a bit time after the line went
low, restarts the recovery timer from the line's next return to high; where the line's known return to
high is not so long ago, or lies ahead, there is no such low, and the event has no effect (log 3). Before
32 character times recovery has no effect, and from then on it makes the port ACTIVE with receiver in
HUNT, transmitter IDLE and line timers started, and raises PORT-RECOVERED. With no offer due, as with no destination, an entry offered, or a branch that recovers during a trunk
fault, nothing else changes; on the recovery of the trunk with no entry offered, the oldest entry is
offered at the same instant, and on the recovery of a branch with no entry listed, PORT-RECOVERED is
offered at once (R179). -/
def Obligations.RecoveryMakesPortActive : Prop :=
  ∀ (dt low since : Nat) (p : PortId) (s : State), (s.port p).line = .fault since →
    let fresh := portSet s.ports p { s.port p with
      line := .active { idleFrom := s.now + dt, highFrom := s.now + dt, stuckFrom := s.now + dt, busy := false, rx := .hunt, tx := .idle } }
    let raised := s.alerts.add .portRecovered (portNumber p)
    (s.now + dt < since + bitTime (s.port p).rate / 2 →
      exec (.recoveryTimerRestart dt p low) s = .next (s.advance dt)) ∧
    (since + bitTime (s.port p).rate / 2 ≤ s.now + dt → exec (.recoveryTimerRestart dt p low) s = .next { s with
      now := s.now + dt, ports := portSet s.ports p { s.port p with line := .fault (s.now + dt + low) } }) ∧
    (s.now + dt < since + 32 * s.charTime p → exec (.recovery dt p) s = .next (s.advance dt)) ∧
    (since + 32 * s.charTime p ≤ s.now + dt →
      ((s.alerts.dest = 0 ∨ s.alerts.offered = true ∨ (p ≠ .p0 ∧ s.isActive .p0 = false)) →
        exec (.recovery dt p) s = .next { s with now := s.now + dt, ports := fresh, alerts := raised }) ∧
      (p ≠ .p0 → s.isActive .p0 = true → s.alerts.dest ≠ 0 → s.alerts.offered = false → s.alerts.list = [] →
        classCount s.trunkQueue .alert = 0 →
        let entry : AlertEntry := { kind := .portRecovered, subject := portNumber p, repeats := 1 }
        exec (.recovery dt p) s = .next { s with
          now := s.now + dt
          ports := fresh
          trunkQueue := s.trunkQueue ++ [.alert
            { dest := s.alerts.dest, entry := entry, overflow := s.alerts.overflow, generation := s.table.generation }]
          alerts := { s.alerts with list := [entry], offered := true } }) ∧
      (p = .p0 → s.alerts.dest ≠ 0 → s.alerts.offered = false → s.trunkQueue = [] →
        ∃ t item e, exec (.recovery dt p) s = .next t ∧ t.ports = fresh ∧ t.trunkQueue = [.alert item] ∧
          raised.list.head? = some e ∧ item.entry.kind = e.kind ∧ item.entry.subject = e.subject ∧
          item.dest = s.alerts.dest ∧ item.generation = s.table.generation ∧
          t.alerts = { raised with offered := true } ∧ t.branches = s.branches ∧ t.records = s.records ∧
          t.pool = s.pool ∧ t.table = s.table ∧ t.mgmt = s.mgmt ∧ t.counters = s.counters ∧ t.now = s.now + dt))

/-- Raising an alert (R176): a listed entry of the kind and subject counts once more, up to 255; otherwise a
new entry is appended while the list holds fewer than 8; otherwise the overflow marker is set. -/
def Obligations.RaisedAlertIsListed : Prop :=
  ∀ (u : AlertUnit) (k : AlertKind) (subject : Octet), u.list.Pairwise differentAlert →
    (∀ (i : Nat) (e : AlertEntry), u.list[i]? = some e → e.kind = k → e.subject = subject →
      u.add k subject =
        { u with list := u.list.set i ({ e with repeats := if e.repeats = 255 then 255 else e.repeats + 1 }) }) ∧
    ((∀ e, e ∈ u.list → ¬ (e.kind = k ∧ e.subject = subject)) →
      (u.list.length < 8 → u.add k subject =
        { u with list := u.list ++ [{ kind := k, subject := subject, repeats := 1 }] }) ∧
      (8 ≤ u.list.length → u.add k subject = { u with overflow := true }))

/-! ### Transmitters -/

/-- The frames a transmitter sends (R133): the octets of the buffer, unchanged, or a frame built from the
item's fields with its check (R30, R145, R146, R154); and the pins of a port (R113, R116, R121, R133):
in SEND the driver is enabled and the frame goes out back to back, each character a low start bit, the
data bits from bit 0, the marker, 1 on the first character alone, and a high stop bit, each for one bit
time; a character that a teardown lets finish goes on at its own rate until its end; at any other time
the driver is released and the transmit pin is high. That a frame in SEND stands before such a character
is the model's choice (DESIGN CHOICE, log 25). -/
def Obligations.SentFramesFollowTheLayouts : Prop :=
  ∀ (s : State),
    let own := s.ownAddress
    (∀ i, s.itemFrame (.branch i) = (s.pool.buffer i.buf).octets) ∧
    (∀ x b, s.itemFrame (.trunk (.frameReturn x b)) = (s.pool.buffer b).octets) ∧
    (∀ b, s.itemFrame (.trunk (.passUp b)) = (s.pool.buffer b).octets) ∧
    s.itemFrame (.trunk .response) = s.mgmt.response ++ [(check s.mgmt.response).lo, (check s.mgmt.response).hi] ∧
    (∀ (r : RefusalItem) (i : TrunkItem), ((∃ x, i = .refusalReturn x r) ∨ i = .busy r ∨ i = .immediate r) →
      let code : Octet := match r.reason with
        | .timeout => 1
        | .blocked => 2
        | .conflict => 3
        | .queueFull => 4
        | .noExchange => 5
        | .portDown => 6
        | .flushed => 7
        | .busy => 8
        | .contention => 9
      let os := [r.requester, if r.reason = .busy then own else r.station,
        3 + (if r.urgent then 8 else 0) + 16 * r.tag.setWidth 8, 2, code, own]
      s.itemFrame (.trunk i) = os ++ [(check os).lo, (check os).hi]) ∧
    (∀ a : AlertItem,
      let code : Octet := match a.entry.kind with
        | .portFault => 1
        | .portRecovered => 2
        | .addressConflict => 3
        | .poolEmpty => 4
      let os := [a.dest, own, 0, 6, code, a.entry.subject, a.entry.repeats, if a.overflow then 1 else 0,
        a.generation.lo, a.generation.hi]
      s.itemFrame (.trunk (.alert a)) = os ++ [(check os).lo, (check os).hi]) ∧
    (∀ (p : PortId),
      let bitAt := fun (since bit : Nat) (frame : List Octet) => ∀ (k : Nat) (o : Octet) (n : Nat),
        frame[k]? = some o → n < 11 → since + (11 * k + n) * bit ≤ s.now → s.now < since + (11 * k + n + 1) * bit →
        s.transmitPin p = (if n = 0 then false else if n ≤ 8 then o.getLsbD (n - 1) else if n = 9 then decide (k = 0)
          else true)
      (∀ l c since frame, s.live? p = some l → l.tx = .send c since frame →
        s.driverEnabled p = true ∧ bitAt since (bitTime (s.port p).rate) frame) ∧
      ((∀ l, s.live? p = some l → l.tx.sending? = none) →
        (∀ t, (s.port p).tail = some t → s.now < t.stop →
          s.driverEnabled p = true ∧ bitAt t.since (bitTime t.rate) t.frame) ∧
        ((∀ t, (s.port p).tail = some t → t.stop ≤ s.now) →
          s.driverEnabled p = false ∧ s.transmitPin p = true)))

/-- The taking of an item (R131, R32, R33, R58, R101, R108, R132): from the head of the trunk queue; on a
branch with a free slot from the repeat holder, else from the head of its queue, a request or probe
claiming the slot with its deadline stopped. A line already idle for the guard lets SEND begin at once, and
a frame being received then ends early (R129); otherwise, as while a character is in progress on the line
(R113; the operand `busy` tells), the transmitter is in DEFER. A held slot, or a transmitter that is not
IDLE, takes nothing. -/
def Obligations.TransmitterTakesItem : Prop :=
  ∀ (dt : Nat) (p : PortId) (busy : Bool) (l : Live) (s : State), s.live? p = some l →
    let m : Live := { l with busy := l.busy || busy }
    let waits : Prop := m.busy = true ∨ s.now + dt < l.idleFrom + (s.port p).guard.toNat * s.charTime p
    let goes := fun (u : State) (i : TxItem) =>
      let sends := u.setLive p
        { m with rx := .hunt, tx := .send { item := i, contentions := 0 } (s.now + dt) (s.itemFrame i) }
      if waits then u.setLive p { m with tx := .defer { item := i, contentions := 0 } }
      else match l.rx with
        | .collect buf => (sends.countPort p .truncated).release buf
        | .hunt => sends
        | .discard _ _ => sends
    (l.tx ≠ .idle → exec (.takeItem { dt := dt, busy := busy } p) s = .next ((s.advance dt).setLive p m)) ∧
    (l.tx = .idle →
      (∀ i rest, p = .p0 → s.trunkQueue = i :: rest → exec (.takeItem { dt := dt, busy := busy } p) s =
        .next (goes { s.advance dt with trunkQueue := rest } (.trunk i))) ∧
      (∀ b, p = branchPort b →
        ((s.branch b).slot ≠ none → exec (.takeItem { dt := dt, busy := busy } p) s = .next ((s.advance dt).setLive p m)) ∧
        ((s.branch b).slot = none → (s.branch b).holder = none →
          ∀ i rest, (s.branch b).queue = i :: rest → exec (.takeItem { dt := dt, busy := busy } p) s =
            .next (goes ((s.advance dt).setBranch b { s.branch b with
              queue := rest
              slot := match i.kind with
                | .request x => some { exch := x, kind := .request, deadline := none }
                | .probe x => some { exch := x, kind := .probe, deadline := none }
                | .notice => none }) (.branch i))) ∧
        ((s.branch b).slot = none → ∀ x e d buf, (s.branch b).holder = some x → s.record x = some e →
          e.mode = .direct d → e.request = some buf → exec (.takeItem { dt := dt, busy := busy } p) s =
            .next (goes ((((s.advance dt).setRecord x (some { e with mode := .direct { d with phase := .queued } })).setBranch b
              { s.branch b with holder := none, slot := some { exch := x, kind := .request, deadline := none } }).retain buf)
              (.branch { kind := .request x, urgent := e.urgent, buf := buf })))))

/-- The end of a wait (R132, R133, R135, R129): in DEFER once the line has been idle for the guard, in BACKOFF
for guard + 1 + the ADDR value, the transmitter enters SEND with the item's frame, and a frame being
received ends early; the driver is enabled. Before that, and while a character is in progress on the line
(R113; the operand `busy` tells), nothing happens. -/
def Obligations.WaitEndStartsSending : Prop :=
  ∀ (dt : Nat) (p : PortId) (busy : Bool) (l : Live) (c : Current) (run : Host.Outcome State Fault Refusal) (wait : Nat)
    (s : State), s.live? p = some l →
    ((l.tx = .defer c ∧ wait = (s.port p).guard.toNat ∧ run = exec (.deferWaitEnd { dt := dt, busy := busy } p) s) ∨
     (l.tx = .backoff c ∧ wait = (s.port p).guard.toNat + 1 + s.addr.toNat ∧
       run = exec (.backoffWaitEnd { dt := dt, busy := busy } p) s)) →
    let m : Live := { l with busy := l.busy || busy }
    let sends := (s.advance dt).setLive p { m with rx := .hunt, tx := .send c (s.now + dt) (s.itemFrame c.item) }
    (m.busy = true ∨ s.now + dt < l.idleFrom + wait * s.charTime p → run = .next ((s.advance dt).setLive p m)) ∧
    (m.busy = false → l.idleFrom + wait * s.charTime p ≤ s.now + dt →
      (∀ b, l.rx = .collect b → run = .next ((sends.countPort p .truncated).release b)) ∧
      ((∀ b, l.rx ≠ .collect b) → run = .next sends)) ∧
    sends.driverEnabled p = true

/-- A contention before the 8th (R134, R135): at the end of a character that is read back as another, or with
a low stop bit, or not at all, CONTENTIONS is counted, the transmitter is in BACKOFF with one contention
more, the receiver in HUNT, and the line timers count from the end of the character, or from the line's
return to high where no high stop bit was read; the owner hears nothing. At any other instant, and for a
character read back as it was sent, there is no contention. The stuck-line timer goes on where the line was
low since before the character (R118): it keeps the latest instant at which the line is known to have been
high, which with the operand `low` is the model's reading (logs 8 and 9). -/
def Obligations.ContentionBacksOff : Prop :=
  ∀ (dt : Nat) (p : PortId) (back : ReadBack) (straps : Straps) (l : Live) (c : Current) (since : Nat)
    (frame : List Octet) (s : State), s.live? p = some l → l.tx = .send c since frame →
    (¬ s.ReadsOther p since frame back dt → exec (.contention { dt := dt, straps := straps } p back) s = .next (s.advance dt)) ∧
    (s.ReadsOther p since frame back dt → c.contentions < 7 →
      exec (.contention { dt := dt, straps := straps } p back) s = .next (((s.advance dt).setLive p
        (s.contendedLine p l since back dt (.backoff { item := c.item, contentions := c.contentions + 1 }))).countPort p
          .contentions))

/-- The 8th contention of an item abandons it (R136): CONTENTIONS and ABANDONED are counted, its buffer is
released, the transmitter is IDLE, and the owner is told: a request that holds the slot is refused
CONTENTION (R36, R31), a probe leaves its set (R60, R67, R68), a request or probe that no longer holds the
slot ends without effect (R35), a return is lost with RETURNS-LOST (R44), the unit is IDLE (R155), and
the other items end without effect. An alert entry stays, and is offered again (R181). The line timers, a
low since before the frame included, and their operand `low` are the model's reading (logs 8 and 9). -/
def Obligations.EighthContentionAbandonsItem : Prop :=
  ∀ (dt : Nat) (p : PortId) (back : ReadBack) (straps : Straps) (l : Live) (item : TxItem) (since : Nat)
    (frame : List Octet) (s : State),
    s.live? p = some l → l.tx = .send { item := item, contentions := 7 } since frame →
    s.ReadsOther p since frame back dt →
    let u := ((((s.advance dt).setLive p (s.contendedLine p l since back dt .idle)).countPort p .contentions).countPort p
      .abandoned).releaseOpt item.buf?
    let run := exec (.contention { dt := dt, straps := straps } p back) s
    ((∃ b i, item = .branch i ∧ p = branchPort b ∧ i.kind = .notice) → run = .next u) ∧
    ((∃ r, item = .trunk (.busy r) ∨ item = .trunk (.immediate r)) → run = .next u) ∧
    ((∃ b, item = .trunk (.passUp b)) → run = .next u) ∧
    (∀ b i x, item = .branch i → p = branchPort b →
      ((i.kind = .request x ∧ s.slotHeldBy b x .request = false) ∨
       (i.kind = .probe x ∧ s.slotHeldBy b x .probe = false)) → run = .next u) ∧
    (∀ b i x e d, item = .branch i → p = branchPort b → i.kind = .request x → s.slotHeldBy b x .request = true →
      s.record x = some e → e.mode = .direct d → d.phase = .queued →
      let v := (u.setBranch b { s.branch b with slot := none }).releaseOpt e.request
      let r : TrunkItem := .refusalReturn x
        { requester := e.key.requester, station := e.key.station, tag := e.key.tag, urgent := e.urgent
          reason := .contention }
      (s.admits r = true → run = .next (((v.enqueue r).count (.refusals .contention)).setRecord x
        (some { e with request := none, mode := .direct { d with phase := .returning } }))) ∧
      (s.isActive .p0 = false → run = .next ((v.count .returnsLost).setRecord x none))) ∧
    (∀ b i x e q, item = .branch i → p = branchPort b → i.kind = .probe x → s.slotHeldBy b x .probe = true →
      s.record x = some e → e.mode = .probe q →
      let v := u.setBranch b { s.branch b with slot := none }
      run = .next
        (if setEmpty (branchSet q.set b false) = true then
          match q.phase, q.pending with
          | .probing, _ => ((v.releaseOpt e.request).setRecord x none).count .probeMisses
          | .settling, false => v.setRecord x none
          | .settling, true => v.setRecord x (some { e with mode := .probe { q with set := branchSet q.set b false } })
         else v.setRecord x (some { e with mode := .probe { q with set := branchSet q.set b false } }))) ∧
    (∀ x e, ((∃ r, item = .trunk (.refusalReturn x r)) ∨ ∃ b, item = .trunk (.frameReturn x b)) → p = .p0 →
      s.record x = some e → run = .next ((u.setRecord x (match e.mode with
        | .direct _ => none
        | .probe q => if setEmpty q.set then none
            else some { e with mode := .probe { q with pending := false } })).count .returnsLost)) ∧
    (item = .trunk .response → s.mgmt.restart = false →
      run = .next { u with mgmt := { s.mgmt with phase := .idle } }) ∧
    (∀ a e rest, item = .trunk (.alert a) → p = .p0 → s.alerts.list = e :: rest →
      run = .next (if s.alerts.dest ≠ 0 ∧ classCount s.trunkQueue .alert = 0 then
          { u with
            trunkQueue := s.trunkQueue ++ [.alert
              { dest := s.alerts.dest, entry := e, overflow := s.alerts.overflow, generation := s.table.generation }]
            alerts := { s.alerts with offered := true } }
        else { u with alerts := { s.alerts with offered := false } }))

/-- The completion of a transmission (R137): FRAMES-OUT is counted, the buffer released, the transmitter IDLE
with the line timers started, and the owner told: a request that holds the slot is AWAITING with one
attempt more and its deadline running (R34), a probe's deadline runs (R59), a request or probe that no
longer holds the slot ends without effect (R35), a return frees its exchange or clears return-pending
(R43, R68), the unit is IDLE (R155), and the other items end without effect. Before the frame's length
has passed nothing happens. A completed alert leaves the list, clears the overflow marker it carried, and
the next entry is offered (R180). The line was high at the sample of the last stop bit (log 9). That a
completion named too early has no effect is the model's choice (logs 3 and 22). -/
def Obligations.CompletionTellsTheOwner : Prop :=
  ∀ (dt : Nat) (p : PortId) (straps : Straps) (l : Live) (c : Current) (since : Nat) (frame : List Octet) (s : State),
    s.live? p = some l → l.tx = .send c since frame →
    let run := exec (.transmissionComplete { dt := dt, straps := straps } p) s
    let high := since + frame.length * s.charTime p - bitTime (s.port p).rate / 2
    let u := (((s.advance dt).setLive p
      { idleFrom := s.now + dt, highFrom := high, stuckFrom := high, busy := false, rx := .hunt, tx := .idle }).countPort p
        .framesOut).releaseOpt c.item.buf?
    (s.now + dt < since + frame.length * s.charTime p → run = .next (s.advance dt)) ∧
    (since + frame.length * s.charTime p ≤ s.now + dt →
      ((∃ b i, c.item = .branch i ∧ p = branchPort b ∧ i.kind = .notice) → run = .next u) ∧
      ((∃ r, c.item = .trunk (.busy r) ∨ c.item = .trunk (.immediate r)) → run = .next u) ∧
      ((∃ b, c.item = .trunk (.passUp b)) → run = .next u) ∧
      (∀ b i x, c.item = .branch i → p = branchPort b →
        ((i.kind = .request x ∧ s.slotHeldBy b x .request = false) ∨
         (i.kind = .probe x ∧ s.slotHeldBy b x .probe = false)) → run = .next u) ∧
      (∀ b i x e d, c.item = .branch i → p = branchPort b → i.kind = .request x →
        s.slotHeldBy b x .request = true → s.record x = some e → e.mode = .direct d → d.phase = .queued →
        run = .next ((u.setRecord x
          (some { e with mode := .direct { d with phase := .awaiting, attempts := d.attempts + 1 } })).setBranch b
          { s.branch b with slot := some { exch := x, kind := .request, deadline := some (s.now + dt) } })) ∧
      (∀ b i x, c.item = .branch i → p = branchPort b → i.kind = .probe x → s.slotHeldBy b x .probe = true →
        run = .next (u.setBranch b
          { s.branch b with slot := some { exch := x, kind := .probe, deadline := some (s.now + dt) } })) ∧
      (∀ x e, ((∃ r, c.item = .trunk (.refusalReturn x r)) ∨ ∃ b, c.item = .trunk (.frameReturn x b)) → p = .p0 →
        s.record x = some e → run = .next (u.setRecord x (match e.mode with
          | .direct _ => none
          | .probe q => if setEmpty q.set then none
              else some { e with mode := .probe { q with pending := false } }))) ∧
      (c.item = .trunk .response → s.mgmt.restart = false →
        run = .next { u with mgmt := { s.mgmt with phase := .idle } }) ∧
      (∀ a e rest, c.item = .trunk (.alert a) → p = .p0 → s.alerts.list = e :: rest →
        let marker := s.alerts.overflow && !a.overflow
        run = .next (match rest with
          | next :: _ => if s.alerts.dest ≠ 0 ∧ classCount s.trunkQueue .alert = 0 then
              { u with
                trunkQueue := s.trunkQueue ++ [.alert
                  { dest := s.alerts.dest, entry := next, overflow := marker, generation := s.table.generation }]
                alerts := { s.alerts with list := rest, overflow := marker, offered := true } }
            else { u with alerts := { s.alerts with list := rest, overflow := marker, offered := false } }
          | [] => { u with alerts := { s.alerts with list := [], overflow := marker, offered := false } })))

/-! ### Timed events -/

/-- The expiry of a DIRECT exchange's deadline (R34, R39, R40): from window × 100 µs after its start and before
(window + 1) × 100 µs; TIMEOUTS is counted, the slot released, the last-timed-out record set; the exchange
enters the repeat holder where its attempts are not above its retries, and otherwise returns TIMEOUT, or is
lost where the trunk is not ACTIVE (R31). At any other time there is no expiry (log 3). -/
def Obligations.WindowExpiryRepeatsOrReturnsTimeout : Prop :=
  ∀ (dt : Nat) (b : BranchId) (x : SlotNo) (k : SlotKind) (start : Nat) (e : Exchange) (d : Direct) (s : State),
    (s.branch b).slot = some { exch := x, kind := k, deadline := some start } → s.record x = some e →
    e.mode = .direct d →
    let run := exec (.windowExpiry dt b) s
    let isDue : Prop := start + e.window.toNat * timeUnit ≤ s.now + dt ∧ s.now + dt < start + (e.window.toNat + 1) * timeUnit
    let u := (s.advance dt).count .timeouts
    let left : Branch := { s.branch b with slot := none, lastTimedOut := some (e.key, x) }
    let r : TrunkItem := .refusalReturn x
      { requester := e.key.requester, station := e.key.station, tag := e.key.tag, urgent := e.urgent, reason := .timeout }
    (¬ isDue → run = .next (s.advance dt)) ∧
    (isDue → d.attempts ≤ d.retries.val → run = .next ((u.setBranch b { left with holder := some x }).setRecord x
      (some { e with mode := .direct { d with phase := .repeating } }))) ∧
    (isDue → d.retries.val < d.attempts →
      let v := (u.setBranch b left).releaseOpt e.request
      (s.admits r = true → run = .next (((v.enqueue r).count (.refusals .timeout)).setRecord x
        (some { e with request := none, mode := .direct { d with phase := .returning } }))) ∧
      (s.isActive .p0 = false → run = .next ((v.count .returnsLost).setRecord x none)))

/-- The expiry of a PROBE exchange's deadline (R59, R66, R67, R68): within the same bounds; the slot is
released and the branch leaves the set; a PROBING exchange with an empty set is a probe miss, a SETTLING
one with an empty set and no pending return becomes FREE. No other counter and no record of the branch
changes. -/
def Obligations.ProbeWindowExpiryLosesBranch : Prop :=
  ∀ (dt : Nat) (b : BranchId) (x : SlotNo) (k : SlotKind) (start : Nat) (e : Exchange) (q : Probe) (s : State),
    (s.branch b).slot = some { exch := x, kind := k, deadline := some start } → s.record x = some e →
    e.mode = .probe q →
    let run := exec (.probeWindowExpiry dt b) s
    let isDue : Prop := start + e.window.toNat * timeUnit ≤ s.now + dt ∧ s.now + dt < start + (e.window.toNat + 1) * timeUnit
    let v := (s.advance dt).setBranch b { s.branch b with slot := none }
    let fewer : Option Exchange := some { e with mode := .probe { q with set := branchSet q.set b false } }
    (¬ isDue → run = .next (s.advance dt)) ∧
    (isDue → run = .next
      (if setEmpty (branchSet q.set b false) = true then
        match q.phase, q.pending with
        | .probing, _ => ((v.releaseOpt e.request).setRecord x none).count .probeMisses
        | .settling, false => v.setRecord x none
        | .settling, true => v.setRecord x fewer
       else v.setRecord x fewer))

/-- The ageing expiry (R15, R16): once the interval has passed since the timer's last start or expiry, every
VALID learned entry is one older, those that reach 4 are removed and counted in AGED-OUT, and CONFLICT
entries stay; with interval 0, or before, nothing happens (log 3). A late expiry counts the next interval
from itself (log 19). -/
def Obligations.AgeingExpiryAgesLearnedEntries : Prop :=
  ∀ (dt : Nat) (s : State),
    ((s.table.ageing = 0 ∨ s.now + dt < s.table.ageingFrom + s.table.ageing.toNat * second) →
      exec (.ageingExpiry dt) s = .next (s.advance dt)) ∧
    (s.table.ageing ≠ 0 → s.table.ageingFrom + s.table.ageing.toNat * second ≤ s.now + dt →
      let old := fun o : Option Learned => match o.map (·.mark) with
        | some (.valid age) => decide (4 ≤ age + 1)
        | some (.conflict _) => false
        | none => false
      exec (.ageingExpiry dt) s = .next { s with
        now := s.now + dt
        table := { s.table with
          ageingFrom := s.now + dt
          learned := s.table.learned.map (fun o => if old o then none else o.map (fun e => match e.mark with
            | .valid age => { e with mark := .valid (age + 1) }
            | .conflict _ => e)) }
        counters := { s.counters with agedOut := countedTimes s.counters.agedOut (s.table.learned.filter old).length } })

/-! ### Invariants -/

/-- Every step keeps the station table sound: both banks hold entries that R2 admits, and the learned entries
are at most one for an address, none of them covered by the ACTIVE bank, with ages up to 3 (R1, R2, R10).
Every step keeps the keys of the exchanges distinct (R27). -/
def Obligations.StepsKeepTableAndKeysSound : Prop :=
  ∀ s t : State, step s = .next t →
    (s.BanksSound → t.BanksSound) ∧ (s.LearnedSound → t.LearnedSound) ∧
    (s.KeysDistinct → t.KeysDistinct)

/-- Every step keeps the branch queues sound (R100) and the trunk queue within its limits (R105, R106, R107). -/
def Obligations.StepsKeepQueuesSound : Prop :=
  ∀ s t : State, s.BranchQueuesSound → s.TrunkQueueSound → step s = .next t →
    t.BranchQueuesSound ∧ t.TrunkQueueSound

/-- Every step keeps the management unit and the alert unit sound (R152, R155, R175, R179): one response item
exactly while the unit is ANSWERING, one alert item exactly while an entry is offered, at most 8 entries
of different kind or subject, no due offer left unmade; and the trunk is never DISABLED (R115, R120). -/
def Obligations.StepsKeepTheUnitsSound : Prop :=
  ∀ s t : State, s.TrunkPortSound → s.UnitSound → s.OfferSound → s.AlertsSound → s.OfferDue → step s = .next t →
    t.TrunkPortSound ∧ t.UnitSound ∧ t.OfferSound ∧ t.AlertsSound ∧ t.OfferDue

/-- Every step keeps the exchanges in agreement with slots, holders, queues and returns, and the buffer pool
with its holders (R23, R24, R25, R54, R94): the free list holds each buffer with count 0 once, and every
count is the number of receivers, queue items, request references and current items that refer to it. -/
def Obligations.StepsKeepEngineAndPoolSound : Prop :=
  ∀ s t : State, s.TrunkPortSound → s.BranchQueuesSound → s.TrunkQueueSound → s.KeysDistinct → s.EngineSound →
    s.PoolSound → step s = .next t → t.EngineSound ∧ t.PoolSound

/-- The state after reset keeps every invariant, whatever the straps. -/
def Obligations.ResetStateIsSound : Prop :=
  ∀ straps : Straps,
    let s := State.resetWith straps
    s.BanksSound ∧ s.LearnedSound ∧ s.KeysDistinct ∧ s.BranchQueuesSound ∧ s.TrunkQueueSound ∧ s.TrunkPortSound ∧
    s.UnitSound ∧ s.OfferSound ∧ s.AlertsSound ∧ s.OfferDue ∧ s.EngineSound ∧ s.PoolSound
end

