-- ==== Sys2Proof/Laws/State.lean ====
section
/-! SUPPORT. What each named update of the state does to each field, one lemma per field per update, and the
get and set laws of ports, branches and records. -/

namespace Sys2Proof.Machine

/-! ### Ports, branches, records: what is read back -/

@[simp] theorem portGet_portSet {α : Type} (m : PerPort α) (p q : PortId) (x : α) :
    portGet (portSet m p x) q = if q = p then x else portGet m q := by
  cases p <;> cases q <;> rfl

@[simp] theorem branchGet_branchSet {α : Type} (m : PerBranch α) (b c : BranchId) (x : α) :
    branchGet (branchSet m b x) c = if c = b then x else branchGet m c := by
  cases b <;> cases c <;> rfl

@[simp] theorem portSet_portSet {α : Type} (m : PerPort α) (p : PortId) (x y : α) :
    portSet (portSet m p x) p y = portSet m p y := by
  cases p <;> rfl

@[simp] theorem branchSet_branchSet {α : Type} (m : PerBranch α) (b : BranchId) (x y : α) :
    branchSet (branchSet m b x) b y = branchSet m b y := by
  cases b <;> rfl

@[simp] theorem portSet_portGet {α : Type} (m : PerPort α) (p : PortId) : portSet m p (portGet m p) = m := by
  cases p <;> rfl

@[simp] theorem branchSet_branchGet {α : Type} (m : PerBranch α) (b : BranchId) : branchSet m b (branchGet m b) = m := by
  cases b <;> rfl

theorem State.port_eq (s : State) (p : PortId) : s.port p = portGet s.ports p := rfl

theorem State.branch_eq (s : State) (b : BranchId) : s.branch b = branchGet s.branches b := rfl

theorem State.record_eq (s : State) (x : SlotNo) : s.record x = s.records.getD x.val none := rfl

theorem State.live?_eq (s : State) (p : PortId) : s.live? p = (portGet s.ports p).line.live? := rfl

theorem State.isActive_eq (s : State) (p : PortId) : s.isActive p = (portGet s.ports p).line.live?.isSome := rfl

@[simp] theorem Line.live?_active (l : Live) : (Line.active l).live? = some l := rfl

@[simp] theorem Line.live?_disabled : Line.disabled.live? = none := rfl

@[simp] theorem Line.live?_fault (n : Nat) : (Line.fault n).live? = none := rfl

@[simp] theorem State.port_setPort (s : State) (p q : PortId) (x : Port) :
    (s.setPort p x).port q = if q = p then x else s.port q := by
  simp [State.port, State.setPort]

@[simp] theorem State.branch_setBranch (s : State) (b c : BranchId) (x : Branch) :
    (s.setBranch b x).branch c = if c = b then x else s.branch c := by
  simp [State.branch, State.setBranch]

@[simp] theorem State.setPort_setPort (s : State) (p : PortId) (x y : Port) :
    (s.setPort p x).setPort p y = s.setPort p y := by
  simp [State.setPort]

@[simp] theorem State.setBranch_setBranch (s : State) (b : BranchId) (x y : Branch) :
    (s.setBranch b x).setBranch b y = s.setBranch b y := by
  simp [State.setBranch]

@[simp] theorem State.setRecord_setRecord (s : State) (x : SlotNo) (r q : Option Exchange) :
    (s.setRecord x r).setRecord x q = s.setRecord x q := by
  simp [State.setRecord]

@[simp] theorem portBranch_branchPort (b : BranchId) : portBranch (branchPort b) = some b := by cases b <;> rfl

theorem branchPort_injective : Function.Injective branchPort := by
  intro b c h
  cases b <;> cases c <;> first | rfl | cases h

/-- A record that was set reads back where the table has its place. -/
theorem State.record_setRecord (s : State) (x y : SlotNo) (r : Option Exchange) (hx : x.val < s.records.length) :
    (s.setRecord x r).record y = if y = x then r else s.record y := by
  by_cases h : y = x
  · subst h; simp [State.record, State.setRecord, List.getD_eq_getElem?_getD, hx]
  · have : x.val ≠ y.val := fun e => h (Fin.ext e.symm)
    simp [State.record, State.setRecord, List.getD_eq_getElem?_getD, List.getElem?_set_ne this, h]

/-! ### advance -/

@[simp] theorem State.advance_now (s : State) (dt : Nat) : (s.advance dt).now = s.now + dt := rfl
@[simp] theorem State.advance_strapPins (s : State) (dt : Nat) : (s.advance dt).strapPins = s.strapPins := rfl
@[simp] theorem State.advance_addr (s : State) (dt : Nat) : (s.advance dt).addr = s.addr := rfl
@[simp] theorem State.advance_ports (s : State) (dt : Nat) : (s.advance dt).ports = s.ports := rfl
@[simp] theorem State.advance_branches (s : State) (dt : Nat) : (s.advance dt).branches = s.branches := rfl
@[simp] theorem State.advance_table (s : State) (dt : Nat) : (s.advance dt).table = s.table := rfl
@[simp] theorem State.advance_records (s : State) (dt : Nat) : (s.advance dt).records = s.records := rfl
@[simp] theorem State.advance_pool (s : State) (dt : Nat) : (s.advance dt).pool = s.pool := rfl
@[simp] theorem State.advance_trunkQueue (s : State) (dt : Nat) : (s.advance dt).trunkQueue = s.trunkQueue := rfl
@[simp] theorem State.advance_mgmt (s : State) (dt : Nat) : (s.advance dt).mgmt = s.mgmt := rfl
@[simp] theorem State.advance_alerts (s : State) (dt : Nat) : (s.advance dt).alerts = s.alerts := rfl
@[simp] theorem State.advance_counters (s : State) (dt : Nat) : (s.advance dt).counters = s.counters := rfl
@[simp] theorem State.advance_choices (s : State) (dt : Nat) : (s.advance dt).choices = s.choices := rfl
@[simp] theorem State.advance_pending (s : State) (dt : Nat) : (s.advance dt).pending = s.pending := rfl

/-! ### setPort -/

@[simp] theorem State.setPort_now (s : State) (p : PortId) (x : Port) : (s.setPort p x).now = s.now := rfl
@[simp] theorem State.setPort_strapPins (s : State) (p : PortId) (x : Port) : (s.setPort p x).strapPins = s.strapPins := rfl
@[simp] theorem State.setPort_addr (s : State) (p : PortId) (x : Port) : (s.setPort p x).addr = s.addr := rfl
@[simp] theorem State.setPort_ports (s : State) (p : PortId) (x : Port) : (s.setPort p x).ports = portSet s.ports p x := rfl
@[simp] theorem State.setPort_branches (s : State) (p : PortId) (x : Port) : (s.setPort p x).branches = s.branches := rfl
@[simp] theorem State.setPort_table (s : State) (p : PortId) (x : Port) : (s.setPort p x).table = s.table := rfl
@[simp] theorem State.setPort_records (s : State) (p : PortId) (x : Port) : (s.setPort p x).records = s.records := rfl
@[simp] theorem State.setPort_pool (s : State) (p : PortId) (x : Port) : (s.setPort p x).pool = s.pool := rfl
@[simp] theorem State.setPort_trunkQueue (s : State) (p : PortId) (x : Port) : (s.setPort p x).trunkQueue = s.trunkQueue := rfl
@[simp] theorem State.setPort_mgmt (s : State) (p : PortId) (x : Port) : (s.setPort p x).mgmt = s.mgmt := rfl
@[simp] theorem State.setPort_alerts (s : State) (p : PortId) (x : Port) : (s.setPort p x).alerts = s.alerts := rfl
@[simp] theorem State.setPort_counters (s : State) (p : PortId) (x : Port) : (s.setPort p x).counters = s.counters := rfl
@[simp] theorem State.setPort_choices (s : State) (p : PortId) (x : Port) : (s.setPort p x).choices = s.choices := rfl
@[simp] theorem State.setPort_pending (s : State) (p : PortId) (x : Port) : (s.setPort p x).pending = s.pending := rfl

/-! ### setBranch -/

@[simp] theorem State.setBranch_now (s : State) (b : BranchId) (x : Branch) : (s.setBranch b x).now = s.now := rfl
@[simp] theorem State.setBranch_strapPins (s : State) (b : BranchId) (x : Branch) : (s.setBranch b x).strapPins = s.strapPins := rfl
@[simp] theorem State.setBranch_addr (s : State) (b : BranchId) (x : Branch) : (s.setBranch b x).addr = s.addr := rfl
@[simp] theorem State.setBranch_ports (s : State) (b : BranchId) (x : Branch) : (s.setBranch b x).ports = s.ports := rfl
@[simp] theorem State.setBranch_branches (s : State) (b : BranchId) (x : Branch) : (s.setBranch b x).branches = branchSet s.branches b x := rfl
@[simp] theorem State.setBranch_table (s : State) (b : BranchId) (x : Branch) : (s.setBranch b x).table = s.table := rfl
@[simp] theorem State.setBranch_records (s : State) (b : BranchId) (x : Branch) : (s.setBranch b x).records = s.records := rfl
@[simp] theorem State.setBranch_pool (s : State) (b : BranchId) (x : Branch) : (s.setBranch b x).pool = s.pool := rfl
@[simp] theorem State.setBranch_trunkQueue (s : State) (b : BranchId) (x : Branch) : (s.setBranch b x).trunkQueue = s.trunkQueue := rfl
@[simp] theorem State.setBranch_mgmt (s : State) (b : BranchId) (x : Branch) : (s.setBranch b x).mgmt = s.mgmt := rfl
@[simp] theorem State.setBranch_alerts (s : State) (b : BranchId) (x : Branch) : (s.setBranch b x).alerts = s.alerts := rfl
@[simp] theorem State.setBranch_counters (s : State) (b : BranchId) (x : Branch) : (s.setBranch b x).counters = s.counters := rfl
@[simp] theorem State.setBranch_choices (s : State) (b : BranchId) (x : Branch) : (s.setBranch b x).choices = s.choices := rfl
@[simp] theorem State.setBranch_pending (s : State) (b : BranchId) (x : Branch) : (s.setBranch b x).pending = s.pending := rfl

/-! ### setRecord -/

@[simp] theorem State.setRecord_now (s : State) (x : SlotNo) (r : Option Exchange) : (s.setRecord x r).now = s.now := rfl
@[simp] theorem State.setRecord_strapPins (s : State) (x : SlotNo) (r : Option Exchange) : (s.setRecord x r).strapPins = s.strapPins := rfl
@[simp] theorem State.setRecord_addr (s : State) (x : SlotNo) (r : Option Exchange) : (s.setRecord x r).addr = s.addr := rfl
@[simp] theorem State.setRecord_ports (s : State) (x : SlotNo) (r : Option Exchange) : (s.setRecord x r).ports = s.ports := rfl
@[simp] theorem State.setRecord_branches (s : State) (x : SlotNo) (r : Option Exchange) : (s.setRecord x r).branches = s.branches := rfl
@[simp] theorem State.setRecord_table (s : State) (x : SlotNo) (r : Option Exchange) : (s.setRecord x r).table = s.table := rfl
@[simp] theorem State.setRecord_records (s : State) (x : SlotNo) (r : Option Exchange) : (s.setRecord x r).records = s.records.set x.val r := rfl
@[simp] theorem State.setRecord_pool (s : State) (x : SlotNo) (r : Option Exchange) : (s.setRecord x r).pool = s.pool := rfl
@[simp] theorem State.setRecord_trunkQueue (s : State) (x : SlotNo) (r : Option Exchange) : (s.setRecord x r).trunkQueue = s.trunkQueue := rfl
@[simp] theorem State.setRecord_mgmt (s : State) (x : SlotNo) (r : Option Exchange) : (s.setRecord x r).mgmt = s.mgmt := rfl
@[simp] theorem State.setRecord_alerts (s : State) (x : SlotNo) (r : Option Exchange) : (s.setRecord x r).alerts = s.alerts := rfl
@[simp] theorem State.setRecord_counters (s : State) (x : SlotNo) (r : Option Exchange) : (s.setRecord x r).counters = s.counters := rfl
@[simp] theorem State.setRecord_choices (s : State) (x : SlotNo) (r : Option Exchange) : (s.setRecord x r).choices = s.choices := rfl
@[simp] theorem State.setRecord_pending (s : State) (x : SlotNo) (r : Option Exchange) : (s.setRecord x r).pending = s.pending := rfl

/-! ### setLine -/

@[simp] theorem State.setLine_now (s : State) (p : PortId) (l : Line) : (s.setLine p l).now = s.now := rfl
@[simp] theorem State.setLine_strapPins (s : State) (p : PortId) (l : Line) : (s.setLine p l).strapPins = s.strapPins := rfl
@[simp] theorem State.setLine_addr (s : State) (p : PortId) (l : Line) : (s.setLine p l).addr = s.addr := rfl
@[simp] theorem State.setLine_ports (s : State) (p : PortId) (l : Line) : (s.setLine p l).ports = portSet s.ports p { s.port p with line := l } := rfl
@[simp] theorem State.setLine_branches (s : State) (p : PortId) (l : Line) : (s.setLine p l).branches = s.branches := rfl
@[simp] theorem State.setLine_table (s : State) (p : PortId) (l : Line) : (s.setLine p l).table = s.table := rfl
@[simp] theorem State.setLine_records (s : State) (p : PortId) (l : Line) : (s.setLine p l).records = s.records := rfl
@[simp] theorem State.setLine_pool (s : State) (p : PortId) (l : Line) : (s.setLine p l).pool = s.pool := rfl
@[simp] theorem State.setLine_trunkQueue (s : State) (p : PortId) (l : Line) : (s.setLine p l).trunkQueue = s.trunkQueue := rfl
@[simp] theorem State.setLine_mgmt (s : State) (p : PortId) (l : Line) : (s.setLine p l).mgmt = s.mgmt := rfl
@[simp] theorem State.setLine_alerts (s : State) (p : PortId) (l : Line) : (s.setLine p l).alerts = s.alerts := rfl
@[simp] theorem State.setLine_counters (s : State) (p : PortId) (l : Line) : (s.setLine p l).counters = s.counters := rfl
@[simp] theorem State.setLine_choices (s : State) (p : PortId) (l : Line) : (s.setLine p l).choices = s.choices := rfl
@[simp] theorem State.setLine_pending (s : State) (p : PortId) (l : Line) : (s.setLine p l).pending = s.pending := rfl

/-! ### setLive -/

@[simp] theorem State.setLive_now (s : State) (p : PortId) (l : Live) : (s.setLive p l).now = s.now := rfl
@[simp] theorem State.setLive_strapPins (s : State) (p : PortId) (l : Live) : (s.setLive p l).strapPins = s.strapPins := rfl
@[simp] theorem State.setLive_addr (s : State) (p : PortId) (l : Live) : (s.setLive p l).addr = s.addr := rfl
@[simp] theorem State.setLive_ports (s : State) (p : PortId) (l : Live) : (s.setLive p l).ports = portSet s.ports p { s.port p with line := .active l } := rfl
@[simp] theorem State.setLive_branches (s : State) (p : PortId) (l : Live) : (s.setLive p l).branches = s.branches := rfl
@[simp] theorem State.setLive_table (s : State) (p : PortId) (l : Live) : (s.setLive p l).table = s.table := rfl
@[simp] theorem State.setLive_records (s : State) (p : PortId) (l : Live) : (s.setLive p l).records = s.records := rfl
@[simp] theorem State.setLive_pool (s : State) (p : PortId) (l : Live) : (s.setLive p l).pool = s.pool := rfl
@[simp] theorem State.setLive_trunkQueue (s : State) (p : PortId) (l : Live) : (s.setLive p l).trunkQueue = s.trunkQueue := rfl
@[simp] theorem State.setLive_mgmt (s : State) (p : PortId) (l : Live) : (s.setLive p l).mgmt = s.mgmt := rfl
@[simp] theorem State.setLive_alerts (s : State) (p : PortId) (l : Live) : (s.setLive p l).alerts = s.alerts := rfl
@[simp] theorem State.setLive_counters (s : State) (p : PortId) (l : Live) : (s.setLive p l).counters = s.counters := rfl
@[simp] theorem State.setLive_choices (s : State) (p : PortId) (l : Live) : (s.setLive p l).choices = s.choices := rfl
@[simp] theorem State.setLive_pending (s : State) (p : PortId) (l : Live) : (s.setLive p l).pending = s.pending := rfl

/-! ### setRx -/

@[simp] theorem State.setRx_now (s : State) (p : PortId) (l : Live) (rx : Rx) : (s.setRx p l rx).now = s.now := rfl
@[simp] theorem State.setRx_strapPins (s : State) (p : PortId) (l : Live) (rx : Rx) : (s.setRx p l rx).strapPins = s.strapPins := rfl
@[simp] theorem State.setRx_addr (s : State) (p : PortId) (l : Live) (rx : Rx) : (s.setRx p l rx).addr = s.addr := rfl
@[simp] theorem State.setRx_ports (s : State) (p : PortId) (l : Live) (rx : Rx) : (s.setRx p l rx).ports = portSet s.ports p { s.port p with line := .active { l with rx := rx } } := rfl
@[simp] theorem State.setRx_branches (s : State) (p : PortId) (l : Live) (rx : Rx) : (s.setRx p l rx).branches = s.branches := rfl
@[simp] theorem State.setRx_table (s : State) (p : PortId) (l : Live) (rx : Rx) : (s.setRx p l rx).table = s.table := rfl
@[simp] theorem State.setRx_records (s : State) (p : PortId) (l : Live) (rx : Rx) : (s.setRx p l rx).records = s.records := rfl
@[simp] theorem State.setRx_pool (s : State) (p : PortId) (l : Live) (rx : Rx) : (s.setRx p l rx).pool = s.pool := rfl
@[simp] theorem State.setRx_trunkQueue (s : State) (p : PortId) (l : Live) (rx : Rx) : (s.setRx p l rx).trunkQueue = s.trunkQueue := rfl
@[simp] theorem State.setRx_mgmt (s : State) (p : PortId) (l : Live) (rx : Rx) : (s.setRx p l rx).mgmt = s.mgmt := rfl
@[simp] theorem State.setRx_alerts (s : State) (p : PortId) (l : Live) (rx : Rx) : (s.setRx p l rx).alerts = s.alerts := rfl
@[simp] theorem State.setRx_counters (s : State) (p : PortId) (l : Live) (rx : Rx) : (s.setRx p l rx).counters = s.counters := rfl
@[simp] theorem State.setRx_choices (s : State) (p : PortId) (l : Live) (rx : Rx) : (s.setRx p l rx).choices = s.choices := rfl
@[simp] theorem State.setRx_pending (s : State) (p : PortId) (l : Live) (rx : Rx) : (s.setRx p l rx).pending = s.pending := rfl

/-! ### retain -/

@[simp] theorem State.retain_now (s : State) (b : BufId) : (s.retain b).now = s.now := rfl
@[simp] theorem State.retain_strapPins (s : State) (b : BufId) : (s.retain b).strapPins = s.strapPins := rfl
@[simp] theorem State.retain_addr (s : State) (b : BufId) : (s.retain b).addr = s.addr := rfl
@[simp] theorem State.retain_ports (s : State) (b : BufId) : (s.retain b).ports = s.ports := rfl
@[simp] theorem State.retain_branches (s : State) (b : BufId) : (s.retain b).branches = s.branches := rfl
@[simp] theorem State.retain_table (s : State) (b : BufId) : (s.retain b).table = s.table := rfl
@[simp] theorem State.retain_records (s : State) (b : BufId) : (s.retain b).records = s.records := rfl
@[simp] theorem State.retain_pool (s : State) (b : BufId) : (s.retain b).pool = s.pool.retain b := rfl
@[simp] theorem State.retain_trunkQueue (s : State) (b : BufId) : (s.retain b).trunkQueue = s.trunkQueue := rfl
@[simp] theorem State.retain_mgmt (s : State) (b : BufId) : (s.retain b).mgmt = s.mgmt := rfl
@[simp] theorem State.retain_alerts (s : State) (b : BufId) : (s.retain b).alerts = s.alerts := rfl
@[simp] theorem State.retain_counters (s : State) (b : BufId) : (s.retain b).counters = s.counters := rfl
@[simp] theorem State.retain_choices (s : State) (b : BufId) : (s.retain b).choices = s.choices := rfl
@[simp] theorem State.retain_pending (s : State) (b : BufId) : (s.retain b).pending = s.pending := rfl

/-! ### release -/

@[simp] theorem State.release_now (s : State) (b : BufId) : (s.release b).now = s.now := rfl
@[simp] theorem State.release_strapPins (s : State) (b : BufId) : (s.release b).strapPins = s.strapPins := rfl
@[simp] theorem State.release_addr (s : State) (b : BufId) : (s.release b).addr = s.addr := rfl
@[simp] theorem State.release_ports (s : State) (b : BufId) : (s.release b).ports = s.ports := rfl
@[simp] theorem State.release_branches (s : State) (b : BufId) : (s.release b).branches = s.branches := rfl
@[simp] theorem State.release_table (s : State) (b : BufId) : (s.release b).table = s.table := rfl
@[simp] theorem State.release_records (s : State) (b : BufId) : (s.release b).records = s.records := rfl
@[simp] theorem State.release_pool (s : State) (b : BufId) : (s.release b).pool = s.pool.release b := rfl
@[simp] theorem State.release_trunkQueue (s : State) (b : BufId) : (s.release b).trunkQueue = s.trunkQueue := rfl
@[simp] theorem State.release_mgmt (s : State) (b : BufId) : (s.release b).mgmt = s.mgmt := rfl
@[simp] theorem State.release_alerts (s : State) (b : BufId) : (s.release b).alerts = s.alerts := rfl
@[simp] theorem State.release_counters (s : State) (b : BufId) : (s.release b).counters = s.counters := rfl
@[simp] theorem State.release_choices (s : State) (b : BufId) : (s.release b).choices = s.choices := rfl
@[simp] theorem State.release_pending (s : State) (b : BufId) : (s.release b).pending = s.pending := rfl

/-! ### countPort -/

@[simp] theorem State.countPort_now (s : State) (p : PortId) (c : PortCounter) : (s.countPort p c).now = s.now := rfl
@[simp] theorem State.countPort_strapPins (s : State) (p : PortId) (c : PortCounter) : (s.countPort p c).strapPins = s.strapPins := rfl
@[simp] theorem State.countPort_addr (s : State) (p : PortId) (c : PortCounter) : (s.countPort p c).addr = s.addr := rfl
@[simp] theorem State.countPort_ports (s : State) (p : PortId) (c : PortCounter) : (s.countPort p c).ports = portSet s.ports p { s.port p with counters := portCounterBump (s.port p).counters c } := rfl
@[simp] theorem State.countPort_branches (s : State) (p : PortId) (c : PortCounter) : (s.countPort p c).branches = s.branches := rfl
@[simp] theorem State.countPort_table (s : State) (p : PortId) (c : PortCounter) : (s.countPort p c).table = s.table := rfl
@[simp] theorem State.countPort_records (s : State) (p : PortId) (c : PortCounter) : (s.countPort p c).records = s.records := rfl
@[simp] theorem State.countPort_pool (s : State) (p : PortId) (c : PortCounter) : (s.countPort p c).pool = s.pool := rfl
@[simp] theorem State.countPort_trunkQueue (s : State) (p : PortId) (c : PortCounter) : (s.countPort p c).trunkQueue = s.trunkQueue := rfl
@[simp] theorem State.countPort_mgmt (s : State) (p : PortId) (c : PortCounter) : (s.countPort p c).mgmt = s.mgmt := rfl
@[simp] theorem State.countPort_alerts (s : State) (p : PortId) (c : PortCounter) : (s.countPort p c).alerts = s.alerts := rfl
@[simp] theorem State.countPort_counters (s : State) (p : PortId) (c : PortCounter) : (s.countPort p c).counters = s.counters := rfl
@[simp] theorem State.countPort_choices (s : State) (p : PortId) (c : PortCounter) : (s.countPort p c).choices = s.choices := rfl
@[simp] theorem State.countPort_pending (s : State) (p : PortId) (c : PortCounter) : (s.countPort p c).pending = s.pending := rfl

/-! ### clearPortCounters -/

@[simp] theorem State.clearPortCounters_now (s : State) (p : PortId) : (s.clearPortCounters p).now = s.now := rfl
@[simp] theorem State.clearPortCounters_strapPins (s : State) (p : PortId) : (s.clearPortCounters p).strapPins = s.strapPins := rfl
@[simp] theorem State.clearPortCounters_addr (s : State) (p : PortId) : (s.clearPortCounters p).addr = s.addr := rfl
@[simp] theorem State.clearPortCounters_ports (s : State) (p : PortId) : (s.clearPortCounters p).ports = portSet s.ports p { s.port p with counters := .zero } := rfl
@[simp] theorem State.clearPortCounters_branches (s : State) (p : PortId) : (s.clearPortCounters p).branches = s.branches := rfl
@[simp] theorem State.clearPortCounters_table (s : State) (p : PortId) : (s.clearPortCounters p).table = s.table := rfl
@[simp] theorem State.clearPortCounters_records (s : State) (p : PortId) : (s.clearPortCounters p).records = s.records := rfl
@[simp] theorem State.clearPortCounters_pool (s : State) (p : PortId) : (s.clearPortCounters p).pool = s.pool := rfl
@[simp] theorem State.clearPortCounters_trunkQueue (s : State) (p : PortId) : (s.clearPortCounters p).trunkQueue = s.trunkQueue := rfl
@[simp] theorem State.clearPortCounters_mgmt (s : State) (p : PortId) : (s.clearPortCounters p).mgmt = s.mgmt := rfl
@[simp] theorem State.clearPortCounters_alerts (s : State) (p : PortId) : (s.clearPortCounters p).alerts = s.alerts := rfl
@[simp] theorem State.clearPortCounters_counters (s : State) (p : PortId) : (s.clearPortCounters p).counters = s.counters := rfl
@[simp] theorem State.clearPortCounters_choices (s : State) (p : PortId) : (s.clearPortCounters p).choices = s.choices := rfl
@[simp] theorem State.clearPortCounters_pending (s : State) (p : PortId) : (s.clearPortCounters p).pending = s.pending := rfl

/-! ### count -/

@[simp] theorem State.count_now (s : State) (c : BridgeCounter) : (s.count c).now = s.now := rfl
@[simp] theorem State.count_strapPins (s : State) (c : BridgeCounter) : (s.count c).strapPins = s.strapPins := rfl
@[simp] theorem State.count_addr (s : State) (c : BridgeCounter) : (s.count c).addr = s.addr := rfl
@[simp] theorem State.count_ports (s : State) (c : BridgeCounter) : (s.count c).ports = s.ports := rfl
@[simp] theorem State.count_branches (s : State) (c : BridgeCounter) : (s.count c).branches = s.branches := rfl
@[simp] theorem State.count_table (s : State) (c : BridgeCounter) : (s.count c).table = s.table := rfl
@[simp] theorem State.count_records (s : State) (c : BridgeCounter) : (s.count c).records = s.records := rfl
@[simp] theorem State.count_pool (s : State) (c : BridgeCounter) : (s.count c).pool = s.pool := rfl
@[simp] theorem State.count_trunkQueue (s : State) (c : BridgeCounter) : (s.count c).trunkQueue = s.trunkQueue := rfl
@[simp] theorem State.count_mgmt (s : State) (c : BridgeCounter) : (s.count c).mgmt = s.mgmt := rfl
@[simp] theorem State.count_alerts (s : State) (c : BridgeCounter) : (s.count c).alerts = s.alerts := rfl
@[simp] theorem State.count_counters (s : State) (c : BridgeCounter) : (s.count c).counters = bridgeCounterBump s.counters c := rfl
@[simp] theorem State.count_choices (s : State) (c : BridgeCounter) : (s.count c).choices = s.choices := rfl
@[simp] theorem State.count_pending (s : State) (c : BridgeCounter) : (s.count c).pending = s.pending := rfl

/-! ### enqueue -/

@[simp] theorem State.enqueue_now (s : State) (i : TrunkItem) : (s.enqueue i).now = s.now := rfl
@[simp] theorem State.enqueue_strapPins (s : State) (i : TrunkItem) : (s.enqueue i).strapPins = s.strapPins := rfl
@[simp] theorem State.enqueue_addr (s : State) (i : TrunkItem) : (s.enqueue i).addr = s.addr := rfl
@[simp] theorem State.enqueue_ports (s : State) (i : TrunkItem) : (s.enqueue i).ports = s.ports := rfl
@[simp] theorem State.enqueue_branches (s : State) (i : TrunkItem) : (s.enqueue i).branches = s.branches := rfl
@[simp] theorem State.enqueue_table (s : State) (i : TrunkItem) : (s.enqueue i).table = s.table := rfl
@[simp] theorem State.enqueue_records (s : State) (i : TrunkItem) : (s.enqueue i).records = s.records := rfl
@[simp] theorem State.enqueue_pool (s : State) (i : TrunkItem) : (s.enqueue i).pool = s.pool := rfl
@[simp] theorem State.enqueue_trunkQueue (s : State) (i : TrunkItem) : (s.enqueue i).trunkQueue = s.trunkQueue ++ [i] := rfl
@[simp] theorem State.enqueue_mgmt (s : State) (i : TrunkItem) : (s.enqueue i).mgmt = s.mgmt := rfl
@[simp] theorem State.enqueue_alerts (s : State) (i : TrunkItem) : (s.enqueue i).alerts = s.alerts := rfl
@[simp] theorem State.enqueue_counters (s : State) (i : TrunkItem) : (s.enqueue i).counters = s.counters := rfl
@[simp] theorem State.enqueue_choices (s : State) (i : TrunkItem) : (s.enqueue i).choices = s.choices := rfl
@[simp] theorem State.enqueue_pending (s : State) (i : TrunkItem) : (s.enqueue i).pending = s.pending := rfl

/-! ### setLearned -/

@[simp] theorem State.setLearned_now (s : State) (places : List (Option Learned)) : (s.setLearned places).now = s.now := rfl
@[simp] theorem State.setLearned_strapPins (s : State) (places : List (Option Learned)) : (s.setLearned places).strapPins = s.strapPins := rfl
@[simp] theorem State.setLearned_addr (s : State) (places : List (Option Learned)) : (s.setLearned places).addr = s.addr := rfl
@[simp] theorem State.setLearned_ports (s : State) (places : List (Option Learned)) : (s.setLearned places).ports = s.ports := rfl
@[simp] theorem State.setLearned_branches (s : State) (places : List (Option Learned)) : (s.setLearned places).branches = s.branches := rfl
@[simp] theorem State.setLearned_table (s : State) (places : List (Option Learned)) : (s.setLearned places).table = { s.table with learned := places } := rfl
@[simp] theorem State.setLearned_records (s : State) (places : List (Option Learned)) : (s.setLearned places).records = s.records := rfl
@[simp] theorem State.setLearned_pool (s : State) (places : List (Option Learned)) : (s.setLearned places).pool = s.pool := rfl
@[simp] theorem State.setLearned_trunkQueue (s : State) (places : List (Option Learned)) : (s.setLearned places).trunkQueue = s.trunkQueue := rfl
@[simp] theorem State.setLearned_mgmt (s : State) (places : List (Option Learned)) : (s.setLearned places).mgmt = s.mgmt := rfl
@[simp] theorem State.setLearned_alerts (s : State) (places : List (Option Learned)) : (s.setLearned places).alerts = s.alerts := rfl
@[simp] theorem State.setLearned_counters (s : State) (places : List (Option Learned)) : (s.setLearned places).counters = s.counters := rfl
@[simp] theorem State.setLearned_choices (s : State) (places : List (Option Learned)) : (s.setLearned places).choices = s.choices := rfl
@[simp] theorem State.setLearned_pending (s : State) (places : List (Option Learned)) : (s.setLearned places).pending = s.pending := rfl

/-! ### writeShadow -/

@[simp] theorem State.writeShadow_now (s : State) (index : Octet) (e : Option Entry) : (s.writeShadow index e).now = s.now := rfl
@[simp] theorem State.writeShadow_strapPins (s : State) (index : Octet) (e : Option Entry) : (s.writeShadow index e).strapPins = s.strapPins := rfl
@[simp] theorem State.writeShadow_addr (s : State) (index : Octet) (e : Option Entry) : (s.writeShadow index e).addr = s.addr := rfl
@[simp] theorem State.writeShadow_ports (s : State) (index : Octet) (e : Option Entry) : (s.writeShadow index e).ports = s.ports := rfl
@[simp] theorem State.writeShadow_branches (s : State) (index : Octet) (e : Option Entry) : (s.writeShadow index e).branches = s.branches := rfl
@[simp] theorem State.writeShadow_table (s : State) (index : Octet) (e : Option Entry) : (s.writeShadow index e).table = { s.table with shadow := s.table.shadow.set index.toNat e } := rfl
@[simp] theorem State.writeShadow_records (s : State) (index : Octet) (e : Option Entry) : (s.writeShadow index e).records = s.records := rfl
@[simp] theorem State.writeShadow_pool (s : State) (index : Octet) (e : Option Entry) : (s.writeShadow index e).pool = s.pool := rfl
@[simp] theorem State.writeShadow_trunkQueue (s : State) (index : Octet) (e : Option Entry) : (s.writeShadow index e).trunkQueue = s.trunkQueue := rfl
@[simp] theorem State.writeShadow_mgmt (s : State) (index : Octet) (e : Option Entry) : (s.writeShadow index e).mgmt = s.mgmt := rfl
@[simp] theorem State.writeShadow_alerts (s : State) (index : Octet) (e : Option Entry) : (s.writeShadow index e).alerts = s.alerts := rfl
@[simp] theorem State.writeShadow_counters (s : State) (index : Octet) (e : Option Entry) : (s.writeShadow index e).counters = s.counters := rfl
@[simp] theorem State.writeShadow_choices (s : State) (index : Octet) (e : Option Entry) : (s.writeShadow index e).choices = s.choices := rfl
@[simp] theorem State.writeShadow_pending (s : State) (index : Octet) (e : Option Entry) : (s.writeShadow index e).pending = s.pending := rfl

/-! ### setSlot -/

@[simp] theorem State.setSlot_now (s : State) (b : BranchId) (v : Option Slot) : (s.setSlot b v).now = s.now := rfl
@[simp] theorem State.setSlot_strapPins (s : State) (b : BranchId) (v : Option Slot) : (s.setSlot b v).strapPins = s.strapPins := rfl
@[simp] theorem State.setSlot_addr (s : State) (b : BranchId) (v : Option Slot) : (s.setSlot b v).addr = s.addr := rfl
@[simp] theorem State.setSlot_ports (s : State) (b : BranchId) (v : Option Slot) : (s.setSlot b v).ports = s.ports := rfl
@[simp] theorem State.setSlot_branches (s : State) (b : BranchId) (v : Option Slot) : (s.setSlot b v).branches = branchSet s.branches b { s.branch b with slot := v } := rfl
@[simp] theorem State.setSlot_table (s : State) (b : BranchId) (v : Option Slot) : (s.setSlot b v).table = s.table := rfl
@[simp] theorem State.setSlot_records (s : State) (b : BranchId) (v : Option Slot) : (s.setSlot b v).records = s.records := rfl
@[simp] theorem State.setSlot_pool (s : State) (b : BranchId) (v : Option Slot) : (s.setSlot b v).pool = s.pool := rfl
@[simp] theorem State.setSlot_trunkQueue (s : State) (b : BranchId) (v : Option Slot) : (s.setSlot b v).trunkQueue = s.trunkQueue := rfl
@[simp] theorem State.setSlot_mgmt (s : State) (b : BranchId) (v : Option Slot) : (s.setSlot b v).mgmt = s.mgmt := rfl
@[simp] theorem State.setSlot_alerts (s : State) (b : BranchId) (v : Option Slot) : (s.setSlot b v).alerts = s.alerts := rfl
@[simp] theorem State.setSlot_counters (s : State) (b : BranchId) (v : Option Slot) : (s.setSlot b v).counters = s.counters := rfl
@[simp] theorem State.setSlot_choices (s : State) (b : BranchId) (v : Option Slot) : (s.setSlot b v).choices = s.choices := rfl
@[simp] theorem State.setSlot_pending (s : State) (b : BranchId) (v : Option Slot) : (s.setSlot b v).pending = s.pending := rfl

/-! ### setHolder -/

@[simp] theorem State.setHolder_now (s : State) (b : BranchId) (v : Option SlotNo) : (s.setHolder b v).now = s.now := rfl
@[simp] theorem State.setHolder_strapPins (s : State) (b : BranchId) (v : Option SlotNo) : (s.setHolder b v).strapPins = s.strapPins := rfl
@[simp] theorem State.setHolder_addr (s : State) (b : BranchId) (v : Option SlotNo) : (s.setHolder b v).addr = s.addr := rfl
@[simp] theorem State.setHolder_ports (s : State) (b : BranchId) (v : Option SlotNo) : (s.setHolder b v).ports = s.ports := rfl
@[simp] theorem State.setHolder_branches (s : State) (b : BranchId) (v : Option SlotNo) : (s.setHolder b v).branches = branchSet s.branches b { s.branch b with holder := v } := rfl
@[simp] theorem State.setHolder_table (s : State) (b : BranchId) (v : Option SlotNo) : (s.setHolder b v).table = s.table := rfl
@[simp] theorem State.setHolder_records (s : State) (b : BranchId) (v : Option SlotNo) : (s.setHolder b v).records = s.records := rfl
@[simp] theorem State.setHolder_pool (s : State) (b : BranchId) (v : Option SlotNo) : (s.setHolder b v).pool = s.pool := rfl
@[simp] theorem State.setHolder_trunkQueue (s : State) (b : BranchId) (v : Option SlotNo) : (s.setHolder b v).trunkQueue = s.trunkQueue := rfl
@[simp] theorem State.setHolder_mgmt (s : State) (b : BranchId) (v : Option SlotNo) : (s.setHolder b v).mgmt = s.mgmt := rfl
@[simp] theorem State.setHolder_alerts (s : State) (b : BranchId) (v : Option SlotNo) : (s.setHolder b v).alerts = s.alerts := rfl
@[simp] theorem State.setHolder_counters (s : State) (b : BranchId) (v : Option SlotNo) : (s.setHolder b v).counters = s.counters := rfl
@[simp] theorem State.setHolder_choices (s : State) (b : BranchId) (v : Option SlotNo) : (s.setHolder b v).choices = s.choices := rfl
@[simp] theorem State.setHolder_pending (s : State) (b : BranchId) (v : Option SlotNo) : (s.setHolder b v).pending = s.pending := rfl

/-! ### setLastTimedOut -/

@[simp] theorem State.setLastTimedOut_now (s : State) (b : BranchId) (v : Option (Key × SlotNo)) : (s.setLastTimedOut b v).now = s.now := rfl
@[simp] theorem State.setLastTimedOut_strapPins (s : State) (b : BranchId) (v : Option (Key × SlotNo)) : (s.setLastTimedOut b v).strapPins = s.strapPins := rfl
@[simp] theorem State.setLastTimedOut_addr (s : State) (b : BranchId) (v : Option (Key × SlotNo)) : (s.setLastTimedOut b v).addr = s.addr := rfl
@[simp] theorem State.setLastTimedOut_ports (s : State) (b : BranchId) (v : Option (Key × SlotNo)) : (s.setLastTimedOut b v).ports = s.ports := rfl
@[simp] theorem State.setLastTimedOut_branches (s : State) (b : BranchId) (v : Option (Key × SlotNo)) : (s.setLastTimedOut b v).branches = branchSet s.branches b { s.branch b with lastTimedOut := v } := rfl
@[simp] theorem State.setLastTimedOut_table (s : State) (b : BranchId) (v : Option (Key × SlotNo)) : (s.setLastTimedOut b v).table = s.table := rfl
@[simp] theorem State.setLastTimedOut_records (s : State) (b : BranchId) (v : Option (Key × SlotNo)) : (s.setLastTimedOut b v).records = s.records := rfl
@[simp] theorem State.setLastTimedOut_pool (s : State) (b : BranchId) (v : Option (Key × SlotNo)) : (s.setLastTimedOut b v).pool = s.pool := rfl
@[simp] theorem State.setLastTimedOut_trunkQueue (s : State) (b : BranchId) (v : Option (Key × SlotNo)) : (s.setLastTimedOut b v).trunkQueue = s.trunkQueue := rfl
@[simp] theorem State.setLastTimedOut_mgmt (s : State) (b : BranchId) (v : Option (Key × SlotNo)) : (s.setLastTimedOut b v).mgmt = s.mgmt := rfl
@[simp] theorem State.setLastTimedOut_alerts (s : State) (b : BranchId) (v : Option (Key × SlotNo)) : (s.setLastTimedOut b v).alerts = s.alerts := rfl
@[simp] theorem State.setLastTimedOut_counters (s : State) (b : BranchId) (v : Option (Key × SlotNo)) : (s.setLastTimedOut b v).counters = s.counters := rfl
@[simp] theorem State.setLastTimedOut_choices (s : State) (b : BranchId) (v : Option (Key × SlotNo)) : (s.setLastTimedOut b v).choices = s.choices := rfl
@[simp] theorem State.setLastTimedOut_pending (s : State) (b : BranchId) (v : Option (Key × SlotNo)) : (s.setLastTimedOut b v).pending = s.pending := rfl

/-! ### setQueue -/

@[simp] theorem State.setQueue_now (s : State) (b : BranchId) (q : List BranchItem) : (s.setQueue b q).now = s.now := rfl
@[simp] theorem State.setQueue_strapPins (s : State) (b : BranchId) (q : List BranchItem) : (s.setQueue b q).strapPins = s.strapPins := rfl
@[simp] theorem State.setQueue_addr (s : State) (b : BranchId) (q : List BranchItem) : (s.setQueue b q).addr = s.addr := rfl
@[simp] theorem State.setQueue_ports (s : State) (b : BranchId) (q : List BranchItem) : (s.setQueue b q).ports = s.ports := rfl
@[simp] theorem State.setQueue_branches (s : State) (b : BranchId) (q : List BranchItem) : (s.setQueue b q).branches = branchSet s.branches b { s.branch b with queue := q } := rfl
@[simp] theorem State.setQueue_table (s : State) (b : BranchId) (q : List BranchItem) : (s.setQueue b q).table = s.table := rfl
@[simp] theorem State.setQueue_records (s : State) (b : BranchId) (q : List BranchItem) : (s.setQueue b q).records = s.records := rfl
@[simp] theorem State.setQueue_pool (s : State) (b : BranchId) (q : List BranchItem) : (s.setQueue b q).pool = s.pool := rfl
@[simp] theorem State.setQueue_trunkQueue (s : State) (b : BranchId) (q : List BranchItem) : (s.setQueue b q).trunkQueue = s.trunkQueue := rfl
@[simp] theorem State.setQueue_mgmt (s : State) (b : BranchId) (q : List BranchItem) : (s.setQueue b q).mgmt = s.mgmt := rfl
@[simp] theorem State.setQueue_alerts (s : State) (b : BranchId) (q : List BranchItem) : (s.setQueue b q).alerts = s.alerts := rfl
@[simp] theorem State.setQueue_counters (s : State) (b : BranchId) (q : List BranchItem) : (s.setQueue b q).counters = s.counters := rfl
@[simp] theorem State.setQueue_choices (s : State) (b : BranchId) (q : List BranchItem) : (s.setQueue b q).choices = s.choices := rfl
@[simp] theorem State.setQueue_pending (s : State) (b : BranchId) (q : List BranchItem) : (s.setQueue b q).pending = s.pending := rfl

/-! ### clearBranch -/

@[simp] theorem State.clearBranch_now (s : State) (b : BranchId) : (s.clearBranch b).now = s.now := rfl
@[simp] theorem State.clearBranch_strapPins (s : State) (b : BranchId) : (s.clearBranch b).strapPins = s.strapPins := rfl
@[simp] theorem State.clearBranch_addr (s : State) (b : BranchId) : (s.clearBranch b).addr = s.addr := rfl
@[simp] theorem State.clearBranch_ports (s : State) (b : BranchId) : (s.clearBranch b).ports = s.ports := rfl
@[simp] theorem State.clearBranch_branches (s : State) (b : BranchId) : (s.clearBranch b).branches = branchSet s.branches b { s.branch b with slot := none, holder := none, lastTimedOut := none } := rfl
@[simp] theorem State.clearBranch_table (s : State) (b : BranchId) : (s.clearBranch b).table = s.table := rfl
@[simp] theorem State.clearBranch_records (s : State) (b : BranchId) : (s.clearBranch b).records = s.records := rfl
@[simp] theorem State.clearBranch_pool (s : State) (b : BranchId) : (s.clearBranch b).pool = s.pool := rfl
@[simp] theorem State.clearBranch_trunkQueue (s : State) (b : BranchId) : (s.clearBranch b).trunkQueue = s.trunkQueue := rfl
@[simp] theorem State.clearBranch_mgmt (s : State) (b : BranchId) : (s.clearBranch b).mgmt = s.mgmt := rfl
@[simp] theorem State.clearBranch_alerts (s : State) (b : BranchId) : (s.clearBranch b).alerts = s.alerts := rfl
@[simp] theorem State.clearBranch_counters (s : State) (b : BranchId) : (s.clearBranch b).counters = s.counters := rfl
@[simp] theorem State.clearBranch_choices (s : State) (b : BranchId) : (s.clearBranch b).choices = s.choices := rfl
@[simp] theorem State.clearBranch_pending (s : State) (b : BranchId) : (s.clearBranch b).pending = s.pending := rfl

/-! ### appendItem -/

@[simp] theorem State.appendItem_now (s : State) (b : BranchId) (i : BranchItem) : (s.appendItem b i).now = s.now := rfl
@[simp] theorem State.appendItem_strapPins (s : State) (b : BranchId) (i : BranchItem) : (s.appendItem b i).strapPins = s.strapPins := rfl
@[simp] theorem State.appendItem_addr (s : State) (b : BranchId) (i : BranchItem) : (s.appendItem b i).addr = s.addr := rfl
@[simp] theorem State.appendItem_ports (s : State) (b : BranchId) (i : BranchItem) : (s.appendItem b i).ports = s.ports := rfl
@[simp] theorem State.appendItem_branches (s : State) (b : BranchId) (i : BranchItem) : (s.appendItem b i).branches = branchSet s.branches b { s.branch b with queue := insertItem (s.branch b).queue i } := rfl
@[simp] theorem State.appendItem_table (s : State) (b : BranchId) (i : BranchItem) : (s.appendItem b i).table = s.table := rfl
@[simp] theorem State.appendItem_records (s : State) (b : BranchId) (i : BranchItem) : (s.appendItem b i).records = s.records := rfl
@[simp] theorem State.appendItem_pool (s : State) (b : BranchId) (i : BranchItem) : (s.appendItem b i).pool = s.pool.retain i.buf := rfl
@[simp] theorem State.appendItem_trunkQueue (s : State) (b : BranchId) (i : BranchItem) : (s.appendItem b i).trunkQueue = s.trunkQueue := rfl
@[simp] theorem State.appendItem_mgmt (s : State) (b : BranchId) (i : BranchItem) : (s.appendItem b i).mgmt = s.mgmt := rfl
@[simp] theorem State.appendItem_alerts (s : State) (b : BranchId) (i : BranchItem) : (s.appendItem b i).alerts = s.alerts := rfl
@[simp] theorem State.appendItem_counters (s : State) (b : BranchId) (i : BranchItem) : (s.appendItem b i).counters = s.counters := rfl
@[simp] theorem State.appendItem_choices (s : State) (b : BranchId) (i : BranchItem) : (s.appendItem b i).choices = s.choices := rfl
@[simp] theorem State.appendItem_pending (s : State) (b : BranchId) (i : BranchItem) : (s.appendItem b i).pending = s.pending := rfl

/-! ### startCopy -/

@[simp] theorem State.startCopy_now (s : State) (h : Header) (job : CopyJob) : (s.startCopy h job).now = s.now := rfl
@[simp] theorem State.startCopy_strapPins (s : State) (h : Header) (job : CopyJob) : (s.startCopy h job).strapPins = s.strapPins := rfl
@[simp] theorem State.startCopy_addr (s : State) (h : Header) (job : CopyJob) : (s.startCopy h job).addr = s.addr := rfl
@[simp] theorem State.startCopy_ports (s : State) (h : Header) (job : CopyJob) : (s.startCopy h job).ports = s.ports := rfl
@[simp] theorem State.startCopy_branches (s : State) (h : Header) (job : CopyJob) : (s.startCopy h job).branches = s.branches := rfl
@[simp] theorem State.startCopy_table (s : State) (h : Header) (job : CopyJob) : (s.startCopy h job).table = s.table := rfl
@[simp] theorem State.startCopy_records (s : State) (h : Header) (job : CopyJob) : (s.startCopy h job).records = s.records := rfl
@[simp] theorem State.startCopy_pool (s : State) (h : Header) (job : CopyJob) : (s.startCopy h job).pool = s.pool := rfl
@[simp] theorem State.startCopy_trunkQueue (s : State) (h : Header) (job : CopyJob) : (s.startCopy h job).trunkQueue = s.trunkQueue := rfl
@[simp] theorem State.startCopy_mgmt (s : State) (h : Header) (job : CopyJob) : (s.startCopy h job).mgmt = { s.mgmt with phase := .working h job s.now } := rfl
@[simp] theorem State.startCopy_alerts (s : State) (h : Header) (job : CopyJob) : (s.startCopy h job).alerts = s.alerts := rfl
@[simp] theorem State.startCopy_counters (s : State) (h : Header) (job : CopyJob) : (s.startCopy h job).counters = s.counters := rfl
@[simp] theorem State.startCopy_choices (s : State) (h : Header) (job : CopyJob) : (s.startCopy h job).choices = s.choices := rfl
@[simp] theorem State.startCopy_pending (s : State) (h : Header) (job : CopyJob) : (s.startCopy h job).pending = s.pending := rfl

/-! ### startDeadline -/

@[simp] theorem State.startDeadline_now (s : State) (b : BranchId) (x : SlotNo) (k : SlotKind) : (s.startDeadline b x k).now = s.now := rfl
@[simp] theorem State.startDeadline_strapPins (s : State) (b : BranchId) (x : SlotNo) (k : SlotKind) : (s.startDeadline b x k).strapPins = s.strapPins := rfl
@[simp] theorem State.startDeadline_addr (s : State) (b : BranchId) (x : SlotNo) (k : SlotKind) : (s.startDeadline b x k).addr = s.addr := rfl
@[simp] theorem State.startDeadline_ports (s : State) (b : BranchId) (x : SlotNo) (k : SlotKind) : (s.startDeadline b x k).ports = s.ports := rfl
@[simp] theorem State.startDeadline_branches (s : State) (b : BranchId) (x : SlotNo) (k : SlotKind) : (s.startDeadline b x k).branches = branchSet s.branches b { s.branch b with slot := some { exch := x, kind := k, deadline := some s.now } } := rfl
@[simp] theorem State.startDeadline_table (s : State) (b : BranchId) (x : SlotNo) (k : SlotKind) : (s.startDeadline b x k).table = s.table := rfl
@[simp] theorem State.startDeadline_records (s : State) (b : BranchId) (x : SlotNo) (k : SlotKind) : (s.startDeadline b x k).records = s.records := rfl
@[simp] theorem State.startDeadline_pool (s : State) (b : BranchId) (x : SlotNo) (k : SlotKind) : (s.startDeadline b x k).pool = s.pool := rfl
@[simp] theorem State.startDeadline_trunkQueue (s : State) (b : BranchId) (x : SlotNo) (k : SlotKind) : (s.startDeadline b x k).trunkQueue = s.trunkQueue := rfl
@[simp] theorem State.startDeadline_mgmt (s : State) (b : BranchId) (x : SlotNo) (k : SlotKind) : (s.startDeadline b x k).mgmt = s.mgmt := rfl
@[simp] theorem State.startDeadline_alerts (s : State) (b : BranchId) (x : SlotNo) (k : SlotKind) : (s.startDeadline b x k).alerts = s.alerts := rfl
@[simp] theorem State.startDeadline_counters (s : State) (b : BranchId) (x : SlotNo) (k : SlotKind) : (s.startDeadline b x k).counters = s.counters := rfl
@[simp] theorem State.startDeadline_choices (s : State) (b : BranchId) (x : SlotNo) (k : SlotKind) : (s.startDeadline b x k).choices = s.choices := rfl
@[simp] theorem State.startDeadline_pending (s : State) (b : BranchId) (x : SlotNo) (k : SlotKind) : (s.startDeadline b x k).pending = s.pending := rfl

end Sys2Proof.Machine
end

