-- ==== Sys2Proof/Laws/Ops.lean ====
section
/-! SUPPORT. What each shared operation can change: one frame equation for each, and from it one lemma for each field
that it leaves alone. -/

namespace Sys2Proof.Machine

/-! ### releaseOpt -/

/-- A reference is released where one is held (R94). -/
theorem State.releaseOpt_frame (s : State) (r : Option BufId) :
    s.releaseOpt r = { s with pool := (s.releaseOpt r).pool } := by
  cases r <;> rfl

@[simp] theorem State.releaseOpt_now (s : State) (r : Option BufId) : (s.releaseOpt r).now = s.now := by
  rw [State.releaseOpt_frame]
@[simp] theorem State.releaseOpt_strapPins (s : State) (r : Option BufId) : (s.releaseOpt r).strapPins = s.strapPins := by
  rw [State.releaseOpt_frame]
@[simp] theorem State.releaseOpt_addr (s : State) (r : Option BufId) : (s.releaseOpt r).addr = s.addr := by
  rw [State.releaseOpt_frame]
@[simp] theorem State.releaseOpt_ports (s : State) (r : Option BufId) : (s.releaseOpt r).ports = s.ports := by
  rw [State.releaseOpt_frame]
@[simp] theorem State.releaseOpt_branches (s : State) (r : Option BufId) : (s.releaseOpt r).branches = s.branches := by
  rw [State.releaseOpt_frame]
@[simp] theorem State.releaseOpt_table (s : State) (r : Option BufId) : (s.releaseOpt r).table = s.table := by
  rw [State.releaseOpt_frame]
@[simp] theorem State.releaseOpt_records (s : State) (r : Option BufId) : (s.releaseOpt r).records = s.records := by
  rw [State.releaseOpt_frame]
@[simp] theorem State.releaseOpt_trunkQueue (s : State) (r : Option BufId) : (s.releaseOpt r).trunkQueue = s.trunkQueue := by
  rw [State.releaseOpt_frame]
@[simp] theorem State.releaseOpt_mgmt (s : State) (r : Option BufId) : (s.releaseOpt r).mgmt = s.mgmt := by
  rw [State.releaseOpt_frame]
@[simp] theorem State.releaseOpt_alerts (s : State) (r : Option BufId) : (s.releaseOpt r).alerts = s.alerts := by
  rw [State.releaseOpt_frame]
@[simp] theorem State.releaseOpt_counters (s : State) (r : Option BufId) : (s.releaseOpt r).counters = s.counters := by
  rw [State.releaseOpt_frame]
@[simp] theorem State.releaseOpt_choices (s : State) (r : Option BufId) : (s.releaseOpt r).choices = s.choices := by
  rw [State.releaseOpt_frame]
@[simp] theorem State.releaseOpt_pending (s : State) (r : Option BufId) : (s.releaseOpt r).pending = s.pending := by
  rw [State.releaseOpt_frame]

/-! ### releaseAll -/

/-- References are released one after the other (R94). -/
theorem State.releaseAll_frame (s : State) (bs : List BufId) :
    s.releaseAll bs = { s with pool := (s.releaseAll bs).pool } := by
  unfold State.releaseAll
  induction bs generalizing s with
  | nil => rfl
  | cons b rest ih => rw [List.foldl_cons, ih]; rfl

@[simp] theorem State.releaseAll_now (s : State) (bs : List BufId) : (s.releaseAll bs).now = s.now := by
  rw [State.releaseAll_frame]
@[simp] theorem State.releaseAll_strapPins (s : State) (bs : List BufId) : (s.releaseAll bs).strapPins = s.strapPins := by
  rw [State.releaseAll_frame]
@[simp] theorem State.releaseAll_addr (s : State) (bs : List BufId) : (s.releaseAll bs).addr = s.addr := by
  rw [State.releaseAll_frame]
@[simp] theorem State.releaseAll_ports (s : State) (bs : List BufId) : (s.releaseAll bs).ports = s.ports := by
  rw [State.releaseAll_frame]
@[simp] theorem State.releaseAll_branches (s : State) (bs : List BufId) : (s.releaseAll bs).branches = s.branches := by
  rw [State.releaseAll_frame]
@[simp] theorem State.releaseAll_table (s : State) (bs : List BufId) : (s.releaseAll bs).table = s.table := by
  rw [State.releaseAll_frame]
@[simp] theorem State.releaseAll_records (s : State) (bs : List BufId) : (s.releaseAll bs).records = s.records := by
  rw [State.releaseAll_frame]
@[simp] theorem State.releaseAll_trunkQueue (s : State) (bs : List BufId) : (s.releaseAll bs).trunkQueue = s.trunkQueue := by
  rw [State.releaseAll_frame]
@[simp] theorem State.releaseAll_mgmt (s : State) (bs : List BufId) : (s.releaseAll bs).mgmt = s.mgmt := by
  rw [State.releaseAll_frame]
@[simp] theorem State.releaseAll_alerts (s : State) (bs : List BufId) : (s.releaseAll bs).alerts = s.alerts := by
  rw [State.releaseAll_frame]
@[simp] theorem State.releaseAll_counters (s : State) (bs : List BufId) : (s.releaseAll bs).counters = s.counters := by
  rw [State.releaseAll_frame]
@[simp] theorem State.releaseAll_choices (s : State) (bs : List BufId) : (s.releaseAll bs).choices = s.choices := by
  rw [State.releaseAll_frame]
@[simp] theorem State.releaseAll_pending (s : State) (bs : List BufId) : (s.releaseAll bs).pending = s.pending := by
  rw [State.releaseAll_frame]

/-! ### offerAlert -/

/-- The oldest entry is offered where R179 lets it be. -/
theorem State.offerAlert_frame (s : State) :
    s.offerAlert = { s with trunkQueue := (s.offerAlert).trunkQueue, alerts := (s.offerAlert).alerts } := by
  unfold State.offerAlert
  split
  · rfl
  · split <;> rfl

@[simp] theorem State.offerAlert_now (s : State) : (s.offerAlert).now = s.now := by
  rw [State.offerAlert_frame]
@[simp] theorem State.offerAlert_strapPins (s : State) : (s.offerAlert).strapPins = s.strapPins := by
  rw [State.offerAlert_frame]
@[simp] theorem State.offerAlert_addr (s : State) : (s.offerAlert).addr = s.addr := by
  rw [State.offerAlert_frame]
@[simp] theorem State.offerAlert_ports (s : State) : (s.offerAlert).ports = s.ports := by
  rw [State.offerAlert_frame]
@[simp] theorem State.offerAlert_branches (s : State) : (s.offerAlert).branches = s.branches := by
  rw [State.offerAlert_frame]
@[simp] theorem State.offerAlert_table (s : State) : (s.offerAlert).table = s.table := by
  rw [State.offerAlert_frame]
@[simp] theorem State.offerAlert_records (s : State) : (s.offerAlert).records = s.records := by
  rw [State.offerAlert_frame]
@[simp] theorem State.offerAlert_pool (s : State) : (s.offerAlert).pool = s.pool := by
  rw [State.offerAlert_frame]
@[simp] theorem State.offerAlert_mgmt (s : State) : (s.offerAlert).mgmt = s.mgmt := by
  rw [State.offerAlert_frame]
@[simp] theorem State.offerAlert_counters (s : State) : (s.offerAlert).counters = s.counters := by
  rw [State.offerAlert_frame]
@[simp] theorem State.offerAlert_choices (s : State) : (s.offerAlert).choices = s.choices := by
  rw [State.offerAlert_frame]
@[simp] theorem State.offerAlert_pending (s : State) : (s.offerAlert).pending = s.pending := by
  rw [State.offerAlert_frame]

/-! ### raise -/

/-- An alert is raised (R176). -/
theorem State.raise_frame (s : State) (k : AlertKind) (a : Octet) :
    s.raise k a = { s with trunkQueue := (s.raise k a).trunkQueue, alerts := (s.raise k a).alerts } := by
  unfold State.raise; rw [State.offerAlert_frame]

@[simp] theorem State.raise_now (s : State) (k : AlertKind) (a : Octet) : (s.raise k a).now = s.now := by
  rw [State.raise_frame]
@[simp] theorem State.raise_strapPins (s : State) (k : AlertKind) (a : Octet) : (s.raise k a).strapPins = s.strapPins := by
  rw [State.raise_frame]
@[simp] theorem State.raise_addr (s : State) (k : AlertKind) (a : Octet) : (s.raise k a).addr = s.addr := by
  rw [State.raise_frame]
@[simp] theorem State.raise_ports (s : State) (k : AlertKind) (a : Octet) : (s.raise k a).ports = s.ports := by
  rw [State.raise_frame]
@[simp] theorem State.raise_branches (s : State) (k : AlertKind) (a : Octet) : (s.raise k a).branches = s.branches := by
  rw [State.raise_frame]
@[simp] theorem State.raise_table (s : State) (k : AlertKind) (a : Octet) : (s.raise k a).table = s.table := by
  rw [State.raise_frame]
@[simp] theorem State.raise_records (s : State) (k : AlertKind) (a : Octet) : (s.raise k a).records = s.records := by
  rw [State.raise_frame]
@[simp] theorem State.raise_pool (s : State) (k : AlertKind) (a : Octet) : (s.raise k a).pool = s.pool := by
  rw [State.raise_frame]
@[simp] theorem State.raise_mgmt (s : State) (k : AlertKind) (a : Octet) : (s.raise k a).mgmt = s.mgmt := by
  rw [State.raise_frame]
@[simp] theorem State.raise_counters (s : State) (k : AlertKind) (a : Octet) : (s.raise k a).counters = s.counters := by
  rw [State.raise_frame]
@[simp] theorem State.raise_choices (s : State) (k : AlertKind) (a : Octet) : (s.raise k a).choices = s.choices := by
  rw [State.raise_frame]
@[simp] theorem State.raise_pending (s : State) (k : AlertKind) (a : Octet) : (s.raise k a).pending = s.pending := by
  rw [State.raise_frame]

/-! ### alertLost -/

/-- The offered entry's item ends without its completion (R181). -/
theorem State.alertLost_frame (s : State) :
    s.alertLost = { s with trunkQueue := (s.alertLost).trunkQueue, alerts := (s.alertLost).alerts } := by
  unfold State.alertLost; rw [State.offerAlert_frame]

@[simp] theorem State.alertLost_now (s : State) : (s.alertLost).now = s.now := by
  rw [State.alertLost_frame]
@[simp] theorem State.alertLost_strapPins (s : State) : (s.alertLost).strapPins = s.strapPins := by
  rw [State.alertLost_frame]
@[simp] theorem State.alertLost_addr (s : State) : (s.alertLost).addr = s.addr := by
  rw [State.alertLost_frame]
@[simp] theorem State.alertLost_ports (s : State) : (s.alertLost).ports = s.ports := by
  rw [State.alertLost_frame]
@[simp] theorem State.alertLost_branches (s : State) : (s.alertLost).branches = s.branches := by
  rw [State.alertLost_frame]
@[simp] theorem State.alertLost_table (s : State) : (s.alertLost).table = s.table := by
  rw [State.alertLost_frame]
@[simp] theorem State.alertLost_records (s : State) : (s.alertLost).records = s.records := by
  rw [State.alertLost_frame]
@[simp] theorem State.alertLost_pool (s : State) : (s.alertLost).pool = s.pool := by
  rw [State.alertLost_frame]
@[simp] theorem State.alertLost_mgmt (s : State) : (s.alertLost).mgmt = s.mgmt := by
  rw [State.alertLost_frame]
@[simp] theorem State.alertLost_counters (s : State) : (s.alertLost).counters = s.counters := by
  rw [State.alertLost_frame]
@[simp] theorem State.alertLost_choices (s : State) : (s.alertLost).choices = s.choices := by
  rw [State.alertLost_frame]
@[simp] theorem State.alertLost_pending (s : State) : (s.alertLost).pending = s.pending := by
  rw [State.alertLost_frame]

/-! ### alertSent -/

/-- The offered entry's item is completed (R180). -/
theorem State.alertSent_frame (s : State) (a : AlertItem) :
    s.alertSent a = { s with trunkQueue := (s.alertSent a).trunkQueue, alerts := (s.alertSent a).alerts } := by
  unfold State.alertSent; rw [State.offerAlert_frame]

@[simp] theorem State.alertSent_now (s : State) (a : AlertItem) : (s.alertSent a).now = s.now := by
  rw [State.alertSent_frame]
@[simp] theorem State.alertSent_strapPins (s : State) (a : AlertItem) : (s.alertSent a).strapPins = s.strapPins := by
  rw [State.alertSent_frame]
@[simp] theorem State.alertSent_addr (s : State) (a : AlertItem) : (s.alertSent a).addr = s.addr := by
  rw [State.alertSent_frame]
@[simp] theorem State.alertSent_ports (s : State) (a : AlertItem) : (s.alertSent a).ports = s.ports := by
  rw [State.alertSent_frame]
@[simp] theorem State.alertSent_branches (s : State) (a : AlertItem) : (s.alertSent a).branches = s.branches := by
  rw [State.alertSent_frame]
@[simp] theorem State.alertSent_table (s : State) (a : AlertItem) : (s.alertSent a).table = s.table := by
  rw [State.alertSent_frame]
@[simp] theorem State.alertSent_records (s : State) (a : AlertItem) : (s.alertSent a).records = s.records := by
  rw [State.alertSent_frame]
@[simp] theorem State.alertSent_pool (s : State) (a : AlertItem) : (s.alertSent a).pool = s.pool := by
  rw [State.alertSent_frame]
@[simp] theorem State.alertSent_mgmt (s : State) (a : AlertItem) : (s.alertSent a).mgmt = s.mgmt := by
  rw [State.alertSent_frame]
@[simp] theorem State.alertSent_counters (s : State) (a : AlertItem) : (s.alertSent a).counters = s.counters := by
  rw [State.alertSent_frame]
@[simp] theorem State.alertSent_choices (s : State) (a : AlertItem) : (s.alertSent a).choices = s.choices := by
  rw [State.alertSent_frame]
@[simp] theorem State.alertSent_pending (s : State) (a : AlertItem) : (s.alertSent a).pending = s.pending := by
  rw [State.alertSent_frame]

/-! ### claim -/

/-- A receiver claims a buffer (R95, R97). -/
theorem State.claim_frame (s : State) (p : PortId) :
    (s.claim p).2 = { s with pool := (s.claim p).2.pool, trunkQueue := (s.claim p).2.trunkQueue, alerts := (s.claim p).2.alerts } := by
  unfold State.claim
  split
  · rfl
  · split
    · rfl
    · split
      · simp only; rw [State.raise_frame]
      · rfl

@[simp] theorem State.claim_now (s : State) (p : PortId) : (s.claim p).2.now = s.now := by
  rw [State.claim_frame]
@[simp] theorem State.claim_strapPins (s : State) (p : PortId) : (s.claim p).2.strapPins = s.strapPins := by
  rw [State.claim_frame]
@[simp] theorem State.claim_addr (s : State) (p : PortId) : (s.claim p).2.addr = s.addr := by
  rw [State.claim_frame]
@[simp] theorem State.claim_ports (s : State) (p : PortId) : (s.claim p).2.ports = s.ports := by
  rw [State.claim_frame]
@[simp] theorem State.claim_branches (s : State) (p : PortId) : (s.claim p).2.branches = s.branches := by
  rw [State.claim_frame]
@[simp] theorem State.claim_table (s : State) (p : PortId) : (s.claim p).2.table = s.table := by
  rw [State.claim_frame]
@[simp] theorem State.claim_records (s : State) (p : PortId) : (s.claim p).2.records = s.records := by
  rw [State.claim_frame]
@[simp] theorem State.claim_mgmt (s : State) (p : PortId) : (s.claim p).2.mgmt = s.mgmt := by
  rw [State.claim_frame]
@[simp] theorem State.claim_counters (s : State) (p : PortId) : (s.claim p).2.counters = s.counters := by
  rw [State.claim_frame]
@[simp] theorem State.claim_choices (s : State) (p : PortId) : (s.claim p).2.choices = s.choices := by
  rw [State.claim_frame]
@[simp] theorem State.claim_pending (s : State) (p : PortId) : (s.claim p).2.pending = s.pending := by
  rw [State.claim_frame]

/-! ### refuse -/

/-- An exchange enters RETURNING with a refusal, or is lost (R30, R31). -/
theorem State.refuse_frame (s : State) (x : SlotNo) (e : Exchange) (d : Direct) (r : Reason) :
    s.refuse x e d r = { s with records := (s.refuse x e d r).records, pool := (s.refuse x e d r).pool, trunkQueue := (s.refuse x e d r).trunkQueue, counters := (s.refuse x e d r).counters } := by
  unfold State.refuse; split <;> (simp only [State.setRecord, State.count, State.enqueue]; rw [State.releaseOpt_frame])

@[simp] theorem State.refuse_now (s : State) (x : SlotNo) (e : Exchange) (d : Direct) (r : Reason) : (s.refuse x e d r).now = s.now := by
  rw [State.refuse_frame]
@[simp] theorem State.refuse_strapPins (s : State) (x : SlotNo) (e : Exchange) (d : Direct) (r : Reason) : (s.refuse x e d r).strapPins = s.strapPins := by
  rw [State.refuse_frame]
@[simp] theorem State.refuse_addr (s : State) (x : SlotNo) (e : Exchange) (d : Direct) (r : Reason) : (s.refuse x e d r).addr = s.addr := by
  rw [State.refuse_frame]
@[simp] theorem State.refuse_ports (s : State) (x : SlotNo) (e : Exchange) (d : Direct) (r : Reason) : (s.refuse x e d r).ports = s.ports := by
  rw [State.refuse_frame]
@[simp] theorem State.refuse_branches (s : State) (x : SlotNo) (e : Exchange) (d : Direct) (r : Reason) : (s.refuse x e d r).branches = s.branches := by
  rw [State.refuse_frame]
@[simp] theorem State.refuse_table (s : State) (x : SlotNo) (e : Exchange) (d : Direct) (r : Reason) : (s.refuse x e d r).table = s.table := by
  rw [State.refuse_frame]
@[simp] theorem State.refuse_mgmt (s : State) (x : SlotNo) (e : Exchange) (d : Direct) (r : Reason) : (s.refuse x e d r).mgmt = s.mgmt := by
  rw [State.refuse_frame]
@[simp] theorem State.refuse_alerts (s : State) (x : SlotNo) (e : Exchange) (d : Direct) (r : Reason) : (s.refuse x e d r).alerts = s.alerts := by
  rw [State.refuse_frame]
@[simp] theorem State.refuse_choices (s : State) (x : SlotNo) (e : Exchange) (d : Direct) (r : Reason) : (s.refuse x e d r).choices = s.choices := by
  rw [State.refuse_frame]
@[simp] theorem State.refuse_pending (s : State) (x : SlotNo) (e : Exchange) (d : Direct) (r : Reason) : (s.refuse x e d r).pending = s.pending := by
  rw [State.refuse_frame]

/-! ### returnFrame -/

/-- An exchange enters RETURNING with the station's frame, or is lost (R31). -/
theorem State.returnFrame_frame (s : State) (x : SlotNo) (e : Exchange) (d : Direct) (b : BufId) :
    s.returnFrame x e d b = { s with records := (s.returnFrame x e d b).records, pool := (s.returnFrame x e d b).pool, trunkQueue := (s.returnFrame x e d b).trunkQueue, counters := (s.returnFrame x e d b).counters } := by
  unfold State.returnFrame; split <;> (simp only [State.setRecord, State.count, State.enqueue, State.release]; rw [State.releaseOpt_frame])

@[simp] theorem State.returnFrame_now (s : State) (x : SlotNo) (e : Exchange) (d : Direct) (b : BufId) : (s.returnFrame x e d b).now = s.now := by
  rw [State.returnFrame_frame]
@[simp] theorem State.returnFrame_strapPins (s : State) (x : SlotNo) (e : Exchange) (d : Direct) (b : BufId) : (s.returnFrame x e d b).strapPins = s.strapPins := by
  rw [State.returnFrame_frame]
@[simp] theorem State.returnFrame_addr (s : State) (x : SlotNo) (e : Exchange) (d : Direct) (b : BufId) : (s.returnFrame x e d b).addr = s.addr := by
  rw [State.returnFrame_frame]
@[simp] theorem State.returnFrame_ports (s : State) (x : SlotNo) (e : Exchange) (d : Direct) (b : BufId) : (s.returnFrame x e d b).ports = s.ports := by
  rw [State.returnFrame_frame]
@[simp] theorem State.returnFrame_branches (s : State) (x : SlotNo) (e : Exchange) (d : Direct) (b : BufId) : (s.returnFrame x e d b).branches = s.branches := by
  rw [State.returnFrame_frame]
@[simp] theorem State.returnFrame_table (s : State) (x : SlotNo) (e : Exchange) (d : Direct) (b : BufId) : (s.returnFrame x e d b).table = s.table := by
  rw [State.returnFrame_frame]
@[simp] theorem State.returnFrame_mgmt (s : State) (x : SlotNo) (e : Exchange) (d : Direct) (b : BufId) : (s.returnFrame x e d b).mgmt = s.mgmt := by
  rw [State.returnFrame_frame]
@[simp] theorem State.returnFrame_alerts (s : State) (x : SlotNo) (e : Exchange) (d : Direct) (b : BufId) : (s.returnFrame x e d b).alerts = s.alerts := by
  rw [State.returnFrame_frame]
@[simp] theorem State.returnFrame_choices (s : State) (x : SlotNo) (e : Exchange) (d : Direct) (b : BufId) : (s.returnFrame x e d b).choices = s.choices := by
  rw [State.returnFrame_frame]
@[simp] theorem State.returnFrame_pending (s : State) (x : SlotNo) (e : Exchange) (d : Direct) (b : BufId) : (s.returnFrame x e d b).pending = s.pending := by
  rw [State.returnFrame_frame]

/-! ### refuseAtOnce -/

/-- An immediate refusal (R28). -/
theorem State.refuseAtOnce_frame (s : State) (b : BufId) (r : RefusalItem) :
    s.refuseAtOnce b r = { s with pool := (s.refuseAtOnce b r).pool, trunkQueue := (s.refuseAtOnce b r).trunkQueue, counters := (s.refuseAtOnce b r).counters } := by
  unfold State.refuseAtOnce; split <;> rfl

@[simp] theorem State.refuseAtOnce_now (s : State) (b : BufId) (r : RefusalItem) : (s.refuseAtOnce b r).now = s.now := by
  rw [State.refuseAtOnce_frame]
@[simp] theorem State.refuseAtOnce_strapPins (s : State) (b : BufId) (r : RefusalItem) : (s.refuseAtOnce b r).strapPins = s.strapPins := by
  rw [State.refuseAtOnce_frame]
@[simp] theorem State.refuseAtOnce_addr (s : State) (b : BufId) (r : RefusalItem) : (s.refuseAtOnce b r).addr = s.addr := by
  rw [State.refuseAtOnce_frame]
@[simp] theorem State.refuseAtOnce_ports (s : State) (b : BufId) (r : RefusalItem) : (s.refuseAtOnce b r).ports = s.ports := by
  rw [State.refuseAtOnce_frame]
@[simp] theorem State.refuseAtOnce_branches (s : State) (b : BufId) (r : RefusalItem) : (s.refuseAtOnce b r).branches = s.branches := by
  rw [State.refuseAtOnce_frame]
@[simp] theorem State.refuseAtOnce_table (s : State) (b : BufId) (r : RefusalItem) : (s.refuseAtOnce b r).table = s.table := by
  rw [State.refuseAtOnce_frame]
@[simp] theorem State.refuseAtOnce_records (s : State) (b : BufId) (r : RefusalItem) : (s.refuseAtOnce b r).records = s.records := by
  rw [State.refuseAtOnce_frame]
@[simp] theorem State.refuseAtOnce_mgmt (s : State) (b : BufId) (r : RefusalItem) : (s.refuseAtOnce b r).mgmt = s.mgmt := by
  rw [State.refuseAtOnce_frame]
@[simp] theorem State.refuseAtOnce_alerts (s : State) (b : BufId) (r : RefusalItem) : (s.refuseAtOnce b r).alerts = s.alerts := by
  rw [State.refuseAtOnce_frame]
@[simp] theorem State.refuseAtOnce_choices (s : State) (b : BufId) (r : RefusalItem) : (s.refuseAtOnce b r).choices = s.choices := by
  rw [State.refuseAtOnce_frame]
@[simp] theorem State.refuseAtOnce_pending (s : State) (b : BufId) (r : RefusalItem) : (s.refuseAtOnce b r).pending = s.pending := by
  rw [State.refuseAtOnce_frame]

/-! ### settle -/

/-- A SETTLING exchange goes on or ends (R68). -/
theorem State.settle_frame (s : State) (x : SlotNo) (e : Exchange) (q : Probe) :
    s.settle x e q = { s with records := (s.settle x e q).records } := by
  unfold State.settle; split <;> rfl

@[simp] theorem State.settle_now (s : State) (x : SlotNo) (e : Exchange) (q : Probe) : (s.settle x e q).now = s.now := by
  rw [State.settle_frame]
@[simp] theorem State.settle_strapPins (s : State) (x : SlotNo) (e : Exchange) (q : Probe) : (s.settle x e q).strapPins = s.strapPins := by
  rw [State.settle_frame]
@[simp] theorem State.settle_addr (s : State) (x : SlotNo) (e : Exchange) (q : Probe) : (s.settle x e q).addr = s.addr := by
  rw [State.settle_frame]
@[simp] theorem State.settle_ports (s : State) (x : SlotNo) (e : Exchange) (q : Probe) : (s.settle x e q).ports = s.ports := by
  rw [State.settle_frame]
@[simp] theorem State.settle_branches (s : State) (x : SlotNo) (e : Exchange) (q : Probe) : (s.settle x e q).branches = s.branches := by
  rw [State.settle_frame]
@[simp] theorem State.settle_table (s : State) (x : SlotNo) (e : Exchange) (q : Probe) : (s.settle x e q).table = s.table := by
  rw [State.settle_frame]
@[simp] theorem State.settle_pool (s : State) (x : SlotNo) (e : Exchange) (q : Probe) : (s.settle x e q).pool = s.pool := by
  rw [State.settle_frame]
@[simp] theorem State.settle_trunkQueue (s : State) (x : SlotNo) (e : Exchange) (q : Probe) : (s.settle x e q).trunkQueue = s.trunkQueue := by
  rw [State.settle_frame]
@[simp] theorem State.settle_mgmt (s : State) (x : SlotNo) (e : Exchange) (q : Probe) : (s.settle x e q).mgmt = s.mgmt := by
  rw [State.settle_frame]
@[simp] theorem State.settle_alerts (s : State) (x : SlotNo) (e : Exchange) (q : Probe) : (s.settle x e q).alerts = s.alerts := by
  rw [State.settle_frame]
@[simp] theorem State.settle_counters (s : State) (x : SlotNo) (e : Exchange) (q : Probe) : (s.settle x e q).counters = s.counters := by
  rw [State.settle_frame]
@[simp] theorem State.settle_choices (s : State) (x : SlotNo) (e : Exchange) (q : Probe) : (s.settle x e q).choices = s.choices := by
  rw [State.settle_frame]
@[simp] theorem State.settle_pending (s : State) (x : SlotNo) (e : Exchange) (q : Probe) : (s.settle x e q).pending = s.pending := by
  rw [State.settle_frame]

/-! ### loseBranch -/

/-- A branch leaves a probe set (R60, R66, R67, R68, R70). -/
theorem State.loseBranch_frame (s : State) (x : SlotNo) (e : Exchange) (q : Probe) (b : BranchId) :
    s.loseBranch x e q b = { s with records := (s.loseBranch x e q b).records, pool := (s.loseBranch x e q b).pool, counters := (s.loseBranch x e q b).counters } := by
  unfold State.loseBranch
  split
  · split
    · simp only [State.setRecord, State.count]; rw [State.releaseOpt_frame]
    · rfl
  · rw [State.settle_frame]

@[simp] theorem State.loseBranch_now (s : State) (x : SlotNo) (e : Exchange) (q : Probe) (b : BranchId) : (s.loseBranch x e q b).now = s.now := by
  rw [State.loseBranch_frame]
@[simp] theorem State.loseBranch_strapPins (s : State) (x : SlotNo) (e : Exchange) (q : Probe) (b : BranchId) : (s.loseBranch x e q b).strapPins = s.strapPins := by
  rw [State.loseBranch_frame]
@[simp] theorem State.loseBranch_addr (s : State) (x : SlotNo) (e : Exchange) (q : Probe) (b : BranchId) : (s.loseBranch x e q b).addr = s.addr := by
  rw [State.loseBranch_frame]
@[simp] theorem State.loseBranch_ports (s : State) (x : SlotNo) (e : Exchange) (q : Probe) (b : BranchId) : (s.loseBranch x e q b).ports = s.ports := by
  rw [State.loseBranch_frame]
@[simp] theorem State.loseBranch_branches (s : State) (x : SlotNo) (e : Exchange) (q : Probe) (b : BranchId) : (s.loseBranch x e q b).branches = s.branches := by
  rw [State.loseBranch_frame]
@[simp] theorem State.loseBranch_table (s : State) (x : SlotNo) (e : Exchange) (q : Probe) (b : BranchId) : (s.loseBranch x e q b).table = s.table := by
  rw [State.loseBranch_frame]
@[simp] theorem State.loseBranch_trunkQueue (s : State) (x : SlotNo) (e : Exchange) (q : Probe) (b : BranchId) : (s.loseBranch x e q b).trunkQueue = s.trunkQueue := by
  rw [State.loseBranch_frame]
@[simp] theorem State.loseBranch_mgmt (s : State) (x : SlotNo) (e : Exchange) (q : Probe) (b : BranchId) : (s.loseBranch x e q b).mgmt = s.mgmt := by
  rw [State.loseBranch_frame]
@[simp] theorem State.loseBranch_alerts (s : State) (x : SlotNo) (e : Exchange) (q : Probe) (b : BranchId) : (s.loseBranch x e q b).alerts = s.alerts := by
  rw [State.loseBranch_frame]
@[simp] theorem State.loseBranch_choices (s : State) (x : SlotNo) (e : Exchange) (q : Probe) (b : BranchId) : (s.loseBranch x e q b).choices = s.choices := by
  rw [State.loseBranch_frame]
@[simp] theorem State.loseBranch_pending (s : State) (x : SlotNo) (e : Exchange) (q : Probe) (b : BranchId) : (s.loseBranch x e q b).pending = s.pending := by
  rw [State.loseBranch_frame]

/-! ### learn -/

/-- A probe answer teaches the table (R11, R12, R13). -/
theorem State.learn_frame (s : State) (a : Octet) (b : BranchId) :
    s.learn a b = { s with table := (s.learn a b).table, counters := (s.learn a b).counters } := by
  unfold State.learn; split <;> rfl

@[simp] theorem State.learn_now (s : State) (a : Octet) (b : BranchId) : (s.learn a b).now = s.now := by
  rw [State.learn_frame]
@[simp] theorem State.learn_strapPins (s : State) (a : Octet) (b : BranchId) : (s.learn a b).strapPins = s.strapPins := by
  rw [State.learn_frame]
@[simp] theorem State.learn_addr (s : State) (a : Octet) (b : BranchId) : (s.learn a b).addr = s.addr := by
  rw [State.learn_frame]
@[simp] theorem State.learn_ports (s : State) (a : Octet) (b : BranchId) : (s.learn a b).ports = s.ports := by
  rw [State.learn_frame]
@[simp] theorem State.learn_branches (s : State) (a : Octet) (b : BranchId) : (s.learn a b).branches = s.branches := by
  rw [State.learn_frame]
@[simp] theorem State.learn_records (s : State) (a : Octet) (b : BranchId) : (s.learn a b).records = s.records := by
  rw [State.learn_frame]
@[simp] theorem State.learn_pool (s : State) (a : Octet) (b : BranchId) : (s.learn a b).pool = s.pool := by
  rw [State.learn_frame]
@[simp] theorem State.learn_trunkQueue (s : State) (a : Octet) (b : BranchId) : (s.learn a b).trunkQueue = s.trunkQueue := by
  rw [State.learn_frame]
@[simp] theorem State.learn_mgmt (s : State) (a : Octet) (b : BranchId) : (s.learn a b).mgmt = s.mgmt := by
  rw [State.learn_frame]
@[simp] theorem State.learn_alerts (s : State) (a : Octet) (b : BranchId) : (s.learn a b).alerts = s.alerts := by
  rw [State.learn_frame]
@[simp] theorem State.learn_choices (s : State) (a : Octet) (b : BranchId) : (s.learn a b).choices = s.choices := by
  rw [State.learn_frame]
@[simp] theorem State.learn_pending (s : State) (a : Octet) (b : BranchId) : (s.learn a b).pending = s.pending := by
  rw [State.learn_frame]

/-! ### returnAnswer -/

/-- The return of a first answer is offered (R64, R68). -/
theorem State.returnAnswer_frame (s : State) (x : SlotNo) (e : Exchange) (q : Probe) (b : BufId) :
    s.returnAnswer x e q b = { s with records := (s.returnAnswer x e q b).records, pool := (s.returnAnswer x e q b).pool, trunkQueue := (s.returnAnswer x e q b).trunkQueue, counters := (s.returnAnswer x e q b).counters } := by
  unfold State.returnAnswer; split <;> (rw [State.settle_frame]; rfl)

@[simp] theorem State.returnAnswer_now (s : State) (x : SlotNo) (e : Exchange) (q : Probe) (b : BufId) : (s.returnAnswer x e q b).now = s.now := by
  rw [State.returnAnswer_frame]
@[simp] theorem State.returnAnswer_strapPins (s : State) (x : SlotNo) (e : Exchange) (q : Probe) (b : BufId) : (s.returnAnswer x e q b).strapPins = s.strapPins := by
  rw [State.returnAnswer_frame]
@[simp] theorem State.returnAnswer_addr (s : State) (x : SlotNo) (e : Exchange) (q : Probe) (b : BufId) : (s.returnAnswer x e q b).addr = s.addr := by
  rw [State.returnAnswer_frame]
@[simp] theorem State.returnAnswer_ports (s : State) (x : SlotNo) (e : Exchange) (q : Probe) (b : BufId) : (s.returnAnswer x e q b).ports = s.ports := by
  rw [State.returnAnswer_frame]
@[simp] theorem State.returnAnswer_branches (s : State) (x : SlotNo) (e : Exchange) (q : Probe) (b : BufId) : (s.returnAnswer x e q b).branches = s.branches := by
  rw [State.returnAnswer_frame]
@[simp] theorem State.returnAnswer_table (s : State) (x : SlotNo) (e : Exchange) (q : Probe) (b : BufId) : (s.returnAnswer x e q b).table = s.table := by
  rw [State.returnAnswer_frame]
@[simp] theorem State.returnAnswer_mgmt (s : State) (x : SlotNo) (e : Exchange) (q : Probe) (b : BufId) : (s.returnAnswer x e q b).mgmt = s.mgmt := by
  rw [State.returnAnswer_frame]
@[simp] theorem State.returnAnswer_alerts (s : State) (x : SlotNo) (e : Exchange) (q : Probe) (b : BufId) : (s.returnAnswer x e q b).alerts = s.alerts := by
  rw [State.returnAnswer_frame]
@[simp] theorem State.returnAnswer_choices (s : State) (x : SlotNo) (e : Exchange) (q : Probe) (b : BufId) : (s.returnAnswer x e q b).choices = s.choices := by
  rw [State.returnAnswer_frame]
@[simp] theorem State.returnAnswer_pending (s : State) (x : SlotNo) (e : Exchange) (q : Probe) (b : BufId) : (s.returnAnswer x e q b).pending = s.pending := by
  rw [State.returnAnswer_frame]

/-! ### returnDone -/

/-- The return of an exchange was sent (R43, R68). -/
theorem State.returnDone_frame (s : State) (x : SlotNo) :
    s.returnDone x = { s with records := (s.returnDone x).records } := by
  unfold State.returnDone
  split
  · rfl
  · split
    · rfl
    · rw [State.settle_frame]

@[simp] theorem State.returnDone_now (s : State) (x : SlotNo) : (s.returnDone x).now = s.now := by
  rw [State.returnDone_frame]
@[simp] theorem State.returnDone_strapPins (s : State) (x : SlotNo) : (s.returnDone x).strapPins = s.strapPins := by
  rw [State.returnDone_frame]
@[simp] theorem State.returnDone_addr (s : State) (x : SlotNo) : (s.returnDone x).addr = s.addr := by
  rw [State.returnDone_frame]
@[simp] theorem State.returnDone_ports (s : State) (x : SlotNo) : (s.returnDone x).ports = s.ports := by
  rw [State.returnDone_frame]
@[simp] theorem State.returnDone_branches (s : State) (x : SlotNo) : (s.returnDone x).branches = s.branches := by
  rw [State.returnDone_frame]
@[simp] theorem State.returnDone_table (s : State) (x : SlotNo) : (s.returnDone x).table = s.table := by
  rw [State.returnDone_frame]
@[simp] theorem State.returnDone_pool (s : State) (x : SlotNo) : (s.returnDone x).pool = s.pool := by
  rw [State.returnDone_frame]
@[simp] theorem State.returnDone_trunkQueue (s : State) (x : SlotNo) : (s.returnDone x).trunkQueue = s.trunkQueue := by
  rw [State.returnDone_frame]
@[simp] theorem State.returnDone_mgmt (s : State) (x : SlotNo) : (s.returnDone x).mgmt = s.mgmt := by
  rw [State.returnDone_frame]
@[simp] theorem State.returnDone_alerts (s : State) (x : SlotNo) : (s.returnDone x).alerts = s.alerts := by
  rw [State.returnDone_frame]
@[simp] theorem State.returnDone_counters (s : State) (x : SlotNo) : (s.returnDone x).counters = s.counters := by
  rw [State.returnDone_frame]
@[simp] theorem State.returnDone_choices (s : State) (x : SlotNo) : (s.returnDone x).choices = s.choices := by
  rw [State.returnDone_frame]
@[simp] theorem State.returnDone_pending (s : State) (x : SlotNo) : (s.returnDone x).pending = s.pending := by
  rw [State.returnDone_frame]

/-! ### returnLost -/

/-- The return of an exchange was lost (R44, R46, R71). -/
theorem State.returnLost_frame (s : State) (x : SlotNo) :
    s.returnLost x = { s with records := (s.returnLost x).records, counters := (s.returnLost x).counters } := by
  unfold State.returnLost; simp only [State.count]; rw [State.returnDone_frame]

@[simp] theorem State.returnLost_now (s : State) (x : SlotNo) : (s.returnLost x).now = s.now := by
  rw [State.returnLost_frame]
@[simp] theorem State.returnLost_strapPins (s : State) (x : SlotNo) : (s.returnLost x).strapPins = s.strapPins := by
  rw [State.returnLost_frame]
@[simp] theorem State.returnLost_addr (s : State) (x : SlotNo) : (s.returnLost x).addr = s.addr := by
  rw [State.returnLost_frame]
@[simp] theorem State.returnLost_ports (s : State) (x : SlotNo) : (s.returnLost x).ports = s.ports := by
  rw [State.returnLost_frame]
@[simp] theorem State.returnLost_branches (s : State) (x : SlotNo) : (s.returnLost x).branches = s.branches := by
  rw [State.returnLost_frame]
@[simp] theorem State.returnLost_table (s : State) (x : SlotNo) : (s.returnLost x).table = s.table := by
  rw [State.returnLost_frame]
@[simp] theorem State.returnLost_pool (s : State) (x : SlotNo) : (s.returnLost x).pool = s.pool := by
  rw [State.returnLost_frame]
@[simp] theorem State.returnLost_trunkQueue (s : State) (x : SlotNo) : (s.returnLost x).trunkQueue = s.trunkQueue := by
  rw [State.returnLost_frame]
@[simp] theorem State.returnLost_mgmt (s : State) (x : SlotNo) : (s.returnLost x).mgmt = s.mgmt := by
  rw [State.returnLost_frame]
@[simp] theorem State.returnLost_alerts (s : State) (x : SlotNo) : (s.returnLost x).alerts = s.alerts := by
  rw [State.returnLost_frame]
@[simp] theorem State.returnLost_choices (s : State) (x : SlotNo) : (s.returnLost x).choices = s.choices := by
  rw [State.returnLost_frame]
@[simp] theorem State.returnLost_pending (s : State) (x : SlotNo) : (s.returnLost x).pending = s.pending := by
  rw [State.returnLost_frame]

/-! ### emptyQueue -/

/-- A branch queue is emptied (R103, R104). -/
theorem State.emptyQueue_frame (s : State) (p : BranchId) :
    s.emptyQueue p = { s with branches := (s.emptyQueue p).branches, pool := (s.emptyQueue p).pool } := by
  unfold State.emptyQueue; rw [State.releaseAll_frame]; rfl

@[simp] theorem State.emptyQueue_now (s : State) (p : BranchId) : (s.emptyQueue p).now = s.now := by
  rw [State.emptyQueue_frame]
@[simp] theorem State.emptyQueue_strapPins (s : State) (p : BranchId) : (s.emptyQueue p).strapPins = s.strapPins := by
  rw [State.emptyQueue_frame]
@[simp] theorem State.emptyQueue_addr (s : State) (p : BranchId) : (s.emptyQueue p).addr = s.addr := by
  rw [State.emptyQueue_frame]
@[simp] theorem State.emptyQueue_ports (s : State) (p : BranchId) : (s.emptyQueue p).ports = s.ports := by
  rw [State.emptyQueue_frame]
@[simp] theorem State.emptyQueue_table (s : State) (p : BranchId) : (s.emptyQueue p).table = s.table := by
  rw [State.emptyQueue_frame]
@[simp] theorem State.emptyQueue_records (s : State) (p : BranchId) : (s.emptyQueue p).records = s.records := by
  rw [State.emptyQueue_frame]
@[simp] theorem State.emptyQueue_trunkQueue (s : State) (p : BranchId) : (s.emptyQueue p).trunkQueue = s.trunkQueue := by
  rw [State.emptyQueue_frame]
@[simp] theorem State.emptyQueue_mgmt (s : State) (p : BranchId) : (s.emptyQueue p).mgmt = s.mgmt := by
  rw [State.emptyQueue_frame]
@[simp] theorem State.emptyQueue_alerts (s : State) (p : BranchId) : (s.emptyQueue p).alerts = s.alerts := by
  rw [State.emptyQueue_frame]
@[simp] theorem State.emptyQueue_counters (s : State) (p : BranchId) : (s.emptyQueue p).counters = s.counters := by
  rw [State.emptyQueue_frame]
@[simp] theorem State.emptyQueue_choices (s : State) (p : BranchId) : (s.emptyQueue p).choices = s.choices := by
  rw [State.emptyQueue_frame]
@[simp] theorem State.emptyQueue_pending (s : State) (p : BranchId) : (s.emptyQueue p).pending = s.pending := by
  rw [State.emptyQueue_frame]

/-! ### downRecord -/

/-- Teardown of a branch at one record (R45, R70). -/
theorem State.downRecord_frame (p : BranchId) (s : State) (x : SlotNo) :
    (State.downRecord p s x) = { s with records := (State.downRecord p s x).records, pool := (State.downRecord p s x).pool, trunkQueue := (State.downRecord p s x).trunkQueue, counters := (State.downRecord p s x).counters } := by
  unfold State.downRecord
  split
  · rfl
  · split
    · split
      · rw [State.refuse_frame]
      · rfl
    · split
      · rw [State.loseBranch_frame]
      · rfl

@[simp] theorem State.downRecord_now (p : BranchId) (s : State) (x : SlotNo) : (State.downRecord p s x).now = s.now := by
  rw [State.downRecord_frame]
@[simp] theorem State.downRecord_strapPins (p : BranchId) (s : State) (x : SlotNo) : (State.downRecord p s x).strapPins = s.strapPins := by
  rw [State.downRecord_frame]
@[simp] theorem State.downRecord_addr (p : BranchId) (s : State) (x : SlotNo) : (State.downRecord p s x).addr = s.addr := by
  rw [State.downRecord_frame]
@[simp] theorem State.downRecord_ports (p : BranchId) (s : State) (x : SlotNo) : (State.downRecord p s x).ports = s.ports := by
  rw [State.downRecord_frame]
@[simp] theorem State.downRecord_branches (p : BranchId) (s : State) (x : SlotNo) : (State.downRecord p s x).branches = s.branches := by
  rw [State.downRecord_frame]
@[simp] theorem State.downRecord_table (p : BranchId) (s : State) (x : SlotNo) : (State.downRecord p s x).table = s.table := by
  rw [State.downRecord_frame]
@[simp] theorem State.downRecord_mgmt (p : BranchId) (s : State) (x : SlotNo) : (State.downRecord p s x).mgmt = s.mgmt := by
  rw [State.downRecord_frame]
@[simp] theorem State.downRecord_alerts (p : BranchId) (s : State) (x : SlotNo) : (State.downRecord p s x).alerts = s.alerts := by
  rw [State.downRecord_frame]
@[simp] theorem State.downRecord_choices (p : BranchId) (s : State) (x : SlotNo) : (State.downRecord p s x).choices = s.choices := by
  rw [State.downRecord_frame]
@[simp] theorem State.downRecord_pending (p : BranchId) (s : State) (x : SlotNo) : (State.downRecord p s x).pending = s.pending := by
  rw [State.downRecord_frame]

/-! ### flushRecord -/

/-- FLUSH at one record (R48, R71). -/
theorem State.flushRecord_frame (s : State) (x : SlotNo) :
    s.flushRecord x = { s with records := (s.flushRecord x).records, pool := (s.flushRecord x).pool, trunkQueue := (s.flushRecord x).trunkQueue, counters := (s.flushRecord x).counters } := by
  unfold State.flushRecord
  split
  · rfl
  · split
    · split
      · rw [State.refuse_frame]
      · rfl
    · split
      · simp only [State.setRecord]; rw [State.releaseOpt_frame]
      · rw [State.settle_frame]

@[simp] theorem State.flushRecord_now (s : State) (x : SlotNo) : (s.flushRecord x).now = s.now := by
  rw [State.flushRecord_frame]
@[simp] theorem State.flushRecord_strapPins (s : State) (x : SlotNo) : (s.flushRecord x).strapPins = s.strapPins := by
  rw [State.flushRecord_frame]
@[simp] theorem State.flushRecord_addr (s : State) (x : SlotNo) : (s.flushRecord x).addr = s.addr := by
  rw [State.flushRecord_frame]
@[simp] theorem State.flushRecord_ports (s : State) (x : SlotNo) : (s.flushRecord x).ports = s.ports := by
  rw [State.flushRecord_frame]
@[simp] theorem State.flushRecord_branches (s : State) (x : SlotNo) : (s.flushRecord x).branches = s.branches := by
  rw [State.flushRecord_frame]
@[simp] theorem State.flushRecord_table (s : State) (x : SlotNo) : (s.flushRecord x).table = s.table := by
  rw [State.flushRecord_frame]
@[simp] theorem State.flushRecord_mgmt (s : State) (x : SlotNo) : (s.flushRecord x).mgmt = s.mgmt := by
  rw [State.flushRecord_frame]
@[simp] theorem State.flushRecord_alerts (s : State) (x : SlotNo) : (s.flushRecord x).alerts = s.alerts := by
  rw [State.flushRecord_frame]
@[simp] theorem State.flushRecord_choices (s : State) (x : SlotNo) : (s.flushRecord x).choices = s.choices := by
  rw [State.flushRecord_frame]
@[simp] theorem State.flushRecord_pending (s : State) (x : SlotNo) : (s.flushRecord x).pending = s.pending := by
  rw [State.flushRecord_frame]

/-! ### downRecords -/

/-- Teardown of a branch at every record (R45, R70). -/
theorem State.downRecords_frame (p : BranchId) (xs : List SlotNo) (s : State) :
    (xs.foldl (State.downRecord p) s) = { s with records := (xs.foldl (State.downRecord p) s).records, pool := (xs.foldl (State.downRecord p) s).pool, trunkQueue := (xs.foldl (State.downRecord p) s).trunkQueue, counters := (xs.foldl (State.downRecord p) s).counters } := by
  induction xs generalizing s with
  | nil => rfl
  | cons x rest ih => rw [List.foldl_cons, ih, State.downRecord_frame]

@[simp] theorem State.downRecords_now (p : BranchId) (xs : List SlotNo) (s : State) : (xs.foldl (State.downRecord p) s).now = s.now := by
  rw [State.downRecords_frame]
@[simp] theorem State.downRecords_strapPins (p : BranchId) (xs : List SlotNo) (s : State) : (xs.foldl (State.downRecord p) s).strapPins = s.strapPins := by
  rw [State.downRecords_frame]
@[simp] theorem State.downRecords_addr (p : BranchId) (xs : List SlotNo) (s : State) : (xs.foldl (State.downRecord p) s).addr = s.addr := by
  rw [State.downRecords_frame]
@[simp] theorem State.downRecords_ports (p : BranchId) (xs : List SlotNo) (s : State) : (xs.foldl (State.downRecord p) s).ports = s.ports := by
  rw [State.downRecords_frame]
@[simp] theorem State.downRecords_branches (p : BranchId) (xs : List SlotNo) (s : State) : (xs.foldl (State.downRecord p) s).branches = s.branches := by
  rw [State.downRecords_frame]
@[simp] theorem State.downRecords_table (p : BranchId) (xs : List SlotNo) (s : State) : (xs.foldl (State.downRecord p) s).table = s.table := by
  rw [State.downRecords_frame]
@[simp] theorem State.downRecords_mgmt (p : BranchId) (xs : List SlotNo) (s : State) : (xs.foldl (State.downRecord p) s).mgmt = s.mgmt := by
  rw [State.downRecords_frame]
@[simp] theorem State.downRecords_alerts (p : BranchId) (xs : List SlotNo) (s : State) : (xs.foldl (State.downRecord p) s).alerts = s.alerts := by
  rw [State.downRecords_frame]
@[simp] theorem State.downRecords_choices (p : BranchId) (xs : List SlotNo) (s : State) : (xs.foldl (State.downRecord p) s).choices = s.choices := by
  rw [State.downRecords_frame]
@[simp] theorem State.downRecords_pending (p : BranchId) (xs : List SlotNo) (s : State) : (xs.foldl (State.downRecord p) s).pending = s.pending := by
  rw [State.downRecords_frame]

/-! ### flushRecords -/

/-- FLUSH at every record (R48, R71). -/
theorem State.flushRecords_frame (xs : List SlotNo) (s : State) :
    (xs.foldl State.flushRecord s) = { s with records := (xs.foldl State.flushRecord s).records, pool := (xs.foldl State.flushRecord s).pool, trunkQueue := (xs.foldl State.flushRecord s).trunkQueue, counters := (xs.foldl State.flushRecord s).counters } := by
  induction xs generalizing s with
  | nil => rfl
  | cons x rest ih => rw [List.foldl_cons, ih, State.flushRecord_frame]

@[simp] theorem State.flushRecords_now (xs : List SlotNo) (s : State) : (xs.foldl State.flushRecord s).now = s.now := by
  rw [State.flushRecords_frame]
@[simp] theorem State.flushRecords_strapPins (xs : List SlotNo) (s : State) : (xs.foldl State.flushRecord s).strapPins = s.strapPins := by
  rw [State.flushRecords_frame]
@[simp] theorem State.flushRecords_addr (xs : List SlotNo) (s : State) : (xs.foldl State.flushRecord s).addr = s.addr := by
  rw [State.flushRecords_frame]
@[simp] theorem State.flushRecords_ports (xs : List SlotNo) (s : State) : (xs.foldl State.flushRecord s).ports = s.ports := by
  rw [State.flushRecords_frame]
@[simp] theorem State.flushRecords_branches (xs : List SlotNo) (s : State) : (xs.foldl State.flushRecord s).branches = s.branches := by
  rw [State.flushRecords_frame]
@[simp] theorem State.flushRecords_table (xs : List SlotNo) (s : State) : (xs.foldl State.flushRecord s).table = s.table := by
  rw [State.flushRecords_frame]
@[simp] theorem State.flushRecords_mgmt (xs : List SlotNo) (s : State) : (xs.foldl State.flushRecord s).mgmt = s.mgmt := by
  rw [State.flushRecords_frame]
@[simp] theorem State.flushRecords_alerts (xs : List SlotNo) (s : State) : (xs.foldl State.flushRecord s).alerts = s.alerts := by
  rw [State.flushRecords_frame]
@[simp] theorem State.flushRecords_choices (xs : List SlotNo) (s : State) : (xs.foldl State.flushRecord s).choices = s.choices := by
  rw [State.flushRecords_frame]
@[simp] theorem State.flushRecords_pending (xs : List SlotNo) (s : State) : (xs.foldl State.flushRecord s).pending = s.pending := by
  rw [State.flushRecords_frame]

/-! ### branchDown -/

/-- The engine and the queue at the teardown of a branch (R45, R70, R103). -/
theorem State.branchDown_frame (s : State) (p : BranchId) :
    s.branchDown p = { s with branches := (s.branchDown p).branches, records := (s.branchDown p).records, pool := (s.branchDown p).pool, trunkQueue := (s.branchDown p).trunkQueue, counters := (s.branchDown p).counters } := by
  unfold State.branchDown; rw [State.downRecords_frame]; simp only [State.clearBranch, State.setBranch]; rw [State.emptyQueue_frame]

@[simp] theorem State.branchDown_now (s : State) (p : BranchId) : (s.branchDown p).now = s.now := by
  rw [State.branchDown_frame]
@[simp] theorem State.branchDown_strapPins (s : State) (p : BranchId) : (s.branchDown p).strapPins = s.strapPins := by
  rw [State.branchDown_frame]
@[simp] theorem State.branchDown_addr (s : State) (p : BranchId) : (s.branchDown p).addr = s.addr := by
  rw [State.branchDown_frame]
@[simp] theorem State.branchDown_ports (s : State) (p : BranchId) : (s.branchDown p).ports = s.ports := by
  rw [State.branchDown_frame]
@[simp] theorem State.branchDown_table (s : State) (p : BranchId) : (s.branchDown p).table = s.table := by
  rw [State.branchDown_frame]
@[simp] theorem State.branchDown_mgmt (s : State) (p : BranchId) : (s.branchDown p).mgmt = s.mgmt := by
  rw [State.branchDown_frame]
@[simp] theorem State.branchDown_alerts (s : State) (p : BranchId) : (s.branchDown p).alerts = s.alerts := by
  rw [State.branchDown_frame]
@[simp] theorem State.branchDown_choices (s : State) (p : BranchId) : (s.branchDown p).choices = s.choices := by
  rw [State.branchDown_frame]
@[simp] theorem State.branchDown_pending (s : State) (p : BranchId) : (s.branchDown p).pending = s.pending := by
  rw [State.branchDown_frame]

/-! ### emptyBranches -/

/-- Branches are emptied one after the other (R48, R104). -/
theorem State.emptyBranches_frame (ps : List BranchId) (s : State) :
    (ps.foldl (fun t p => (t.emptyQueue p).clearBranch p) s) = { s with branches := (ps.foldl (fun t p => (t.emptyQueue p).clearBranch p) s).branches, pool := (ps.foldl (fun t p => (t.emptyQueue p).clearBranch p) s).pool } := by
  induction ps generalizing s with
  | nil => rfl
  | cons p rest ih => rw [List.foldl_cons, ih]; simp only [State.clearBranch, State.setBranch]; rw [State.emptyQueue_frame]

@[simp] theorem State.emptyBranches_now (ps : List BranchId) (s : State) : (ps.foldl (fun t p => (t.emptyQueue p).clearBranch p) s).now = s.now := by
  rw [State.emptyBranches_frame]
@[simp] theorem State.emptyBranches_strapPins (ps : List BranchId) (s : State) : (ps.foldl (fun t p => (t.emptyQueue p).clearBranch p) s).strapPins = s.strapPins := by
  rw [State.emptyBranches_frame]
@[simp] theorem State.emptyBranches_addr (ps : List BranchId) (s : State) : (ps.foldl (fun t p => (t.emptyQueue p).clearBranch p) s).addr = s.addr := by
  rw [State.emptyBranches_frame]
@[simp] theorem State.emptyBranches_ports (ps : List BranchId) (s : State) : (ps.foldl (fun t p => (t.emptyQueue p).clearBranch p) s).ports = s.ports := by
  rw [State.emptyBranches_frame]
@[simp] theorem State.emptyBranches_table (ps : List BranchId) (s : State) : (ps.foldl (fun t p => (t.emptyQueue p).clearBranch p) s).table = s.table := by
  rw [State.emptyBranches_frame]
@[simp] theorem State.emptyBranches_records (ps : List BranchId) (s : State) : (ps.foldl (fun t p => (t.emptyQueue p).clearBranch p) s).records = s.records := by
  rw [State.emptyBranches_frame]
@[simp] theorem State.emptyBranches_trunkQueue (ps : List BranchId) (s : State) : (ps.foldl (fun t p => (t.emptyQueue p).clearBranch p) s).trunkQueue = s.trunkQueue := by
  rw [State.emptyBranches_frame]
@[simp] theorem State.emptyBranches_mgmt (ps : List BranchId) (s : State) : (ps.foldl (fun t p => (t.emptyQueue p).clearBranch p) s).mgmt = s.mgmt := by
  rw [State.emptyBranches_frame]
@[simp] theorem State.emptyBranches_alerts (ps : List BranchId) (s : State) : (ps.foldl (fun t p => (t.emptyQueue p).clearBranch p) s).alerts = s.alerts := by
  rw [State.emptyBranches_frame]
@[simp] theorem State.emptyBranches_counters (ps : List BranchId) (s : State) : (ps.foldl (fun t p => (t.emptyQueue p).clearBranch p) s).counters = s.counters := by
  rw [State.emptyBranches_frame]
@[simp] theorem State.emptyBranches_choices (ps : List BranchId) (s : State) : (ps.foldl (fun t p => (t.emptyQueue p).clearBranch p) s).choices = s.choices := by
  rw [State.emptyBranches_frame]
@[simp] theorem State.emptyBranches_pending (ps : List BranchId) (s : State) : (ps.foldl (fun t p => (t.emptyQueue p).clearBranch p) s).pending = s.pending := by
  rw [State.emptyBranches_frame]

/-! ### flushed -/

/-- The engine and the branch queues at a FLUSH (R48, R71, R104). -/
theorem State.flushed_frame (s : State) :
    s.flushed = { s with branches := (s.flushed).branches, records := (s.flushed).records, pool := (s.flushed).pool, trunkQueue := (s.flushed).trunkQueue, counters := (s.flushed).counters } := by
  unfold State.flushed; rw [State.flushRecords_frame, State.emptyBranches_frame]

@[simp] theorem State.flushed_now (s : State) : (s.flushed).now = s.now := by
  rw [State.flushed_frame]
@[simp] theorem State.flushed_strapPins (s : State) : (s.flushed).strapPins = s.strapPins := by
  rw [State.flushed_frame]
@[simp] theorem State.flushed_addr (s : State) : (s.flushed).addr = s.addr := by
  rw [State.flushed_frame]
@[simp] theorem State.flushed_ports (s : State) : (s.flushed).ports = s.ports := by
  rw [State.flushed_frame]
@[simp] theorem State.flushed_table (s : State) : (s.flushed).table = s.table := by
  rw [State.flushed_frame]
@[simp] theorem State.flushed_mgmt (s : State) : (s.flushed).mgmt = s.mgmt := by
  rw [State.flushed_frame]
@[simp] theorem State.flushed_alerts (s : State) : (s.flushed).alerts = s.alerts := by
  rw [State.flushed_frame]
@[simp] theorem State.flushed_choices (s : State) : (s.flushed).choices = s.choices := by
  rw [State.flushed_frame]
@[simp] theorem State.flushed_pending (s : State) : (s.flushed).pending = s.pending := by
  rw [State.flushed_frame]

/-! ### endEarly -/

/-- A frame in progress ends early (R124, R125, R126, R129). -/
theorem State.endEarly_frame (s : State) (p : PortId) (l : Live) :
    s.endEarly p l = { s with ports := (s.endEarly p l).ports, pool := (s.endEarly p l).pool } := by
  unfold State.endEarly; split <;> rfl

@[simp] theorem State.endEarly_now (s : State) (p : PortId) (l : Live) : (s.endEarly p l).now = s.now := by
  rw [State.endEarly_frame]
@[simp] theorem State.endEarly_strapPins (s : State) (p : PortId) (l : Live) : (s.endEarly p l).strapPins = s.strapPins := by
  rw [State.endEarly_frame]
@[simp] theorem State.endEarly_addr (s : State) (p : PortId) (l : Live) : (s.endEarly p l).addr = s.addr := by
  rw [State.endEarly_frame]
@[simp] theorem State.endEarly_branches (s : State) (p : PortId) (l : Live) : (s.endEarly p l).branches = s.branches := by
  rw [State.endEarly_frame]
@[simp] theorem State.endEarly_table (s : State) (p : PortId) (l : Live) : (s.endEarly p l).table = s.table := by
  rw [State.endEarly_frame]
@[simp] theorem State.endEarly_records (s : State) (p : PortId) (l : Live) : (s.endEarly p l).records = s.records := by
  rw [State.endEarly_frame]
@[simp] theorem State.endEarly_trunkQueue (s : State) (p : PortId) (l : Live) : (s.endEarly p l).trunkQueue = s.trunkQueue := by
  rw [State.endEarly_frame]
@[simp] theorem State.endEarly_mgmt (s : State) (p : PortId) (l : Live) : (s.endEarly p l).mgmt = s.mgmt := by
  rw [State.endEarly_frame]
@[simp] theorem State.endEarly_alerts (s : State) (p : PortId) (l : Live) : (s.endEarly p l).alerts = s.alerts := by
  rw [State.endEarly_frame]
@[simp] theorem State.endEarly_counters (s : State) (p : PortId) (l : Live) : (s.endEarly p l).counters = s.counters := by
  rw [State.endEarly_frame]
@[simp] theorem State.endEarly_choices (s : State) (p : PortId) (l : Live) : (s.endEarly p l).choices = s.choices := by
  rw [State.endEarly_frame]
@[simp] theorem State.endEarly_pending (s : State) (p : PortId) (l : Live) : (s.endEarly p l).pending = s.pending := by
  rw [State.endEarly_frame]

/-! ### startSend -/

/-- The transmitter enters SEND (R129, R133). -/
theorem State.startSend_frame (s : State) (p : PortId) (l : Live) (c : Current) :
    s.startSend p l c = { s with ports := (s.startSend p l c).ports, pool := (s.startSend p l c).pool } := by
  unfold State.startSend; simp only [State.setLive, State.setLine, State.setPort]; rw [State.endEarly_frame]

@[simp] theorem State.startSend_now (s : State) (p : PortId) (l : Live) (c : Current) : (s.startSend p l c).now = s.now := by
  rw [State.startSend_frame]
@[simp] theorem State.startSend_strapPins (s : State) (p : PortId) (l : Live) (c : Current) : (s.startSend p l c).strapPins = s.strapPins := by
  rw [State.startSend_frame]
@[simp] theorem State.startSend_addr (s : State) (p : PortId) (l : Live) (c : Current) : (s.startSend p l c).addr = s.addr := by
  rw [State.startSend_frame]
@[simp] theorem State.startSend_branches (s : State) (p : PortId) (l : Live) (c : Current) : (s.startSend p l c).branches = s.branches := by
  rw [State.startSend_frame]
@[simp] theorem State.startSend_table (s : State) (p : PortId) (l : Live) (c : Current) : (s.startSend p l c).table = s.table := by
  rw [State.startSend_frame]
@[simp] theorem State.startSend_records (s : State) (p : PortId) (l : Live) (c : Current) : (s.startSend p l c).records = s.records := by
  rw [State.startSend_frame]
@[simp] theorem State.startSend_trunkQueue (s : State) (p : PortId) (l : Live) (c : Current) : (s.startSend p l c).trunkQueue = s.trunkQueue := by
  rw [State.startSend_frame]
@[simp] theorem State.startSend_mgmt (s : State) (p : PortId) (l : Live) (c : Current) : (s.startSend p l c).mgmt = s.mgmt := by
  rw [State.startSend_frame]
@[simp] theorem State.startSend_alerts (s : State) (p : PortId) (l : Live) (c : Current) : (s.startSend p l c).alerts = s.alerts := by
  rw [State.startSend_frame]
@[simp] theorem State.startSend_counters (s : State) (p : PortId) (l : Live) (c : Current) : (s.startSend p l c).counters = s.counters := by
  rw [State.startSend_frame]
@[simp] theorem State.startSend_choices (s : State) (p : PortId) (l : Live) (c : Current) : (s.startSend p l c).choices = s.choices := by
  rw [State.startSend_frame]
@[simp] theorem State.startSend_pending (s : State) (p : PortId) (l : Live) (c : Current) : (s.startSend p l c).pending = s.pending := by
  rw [State.startSend_frame]

/-! ### take -/

/-- A taken item becomes the current item (R131, R132). -/
theorem State.take_frame (s : State) (p : PortId) (l : Live) (i : TxItem) :
    s.take p l i = { s with ports := (s.take p l i).ports, pool := (s.take p l i).pool } := by
  unfold State.take
  split
  · rw [State.startSend_frame]
  · rfl

@[simp] theorem State.take_now (s : State) (p : PortId) (l : Live) (i : TxItem) : (s.take p l i).now = s.now := by
  rw [State.take_frame]
@[simp] theorem State.take_strapPins (s : State) (p : PortId) (l : Live) (i : TxItem) : (s.take p l i).strapPins = s.strapPins := by
  rw [State.take_frame]
@[simp] theorem State.take_addr (s : State) (p : PortId) (l : Live) (i : TxItem) : (s.take p l i).addr = s.addr := by
  rw [State.take_frame]
@[simp] theorem State.take_branches (s : State) (p : PortId) (l : Live) (i : TxItem) : (s.take p l i).branches = s.branches := by
  rw [State.take_frame]
@[simp] theorem State.take_table (s : State) (p : PortId) (l : Live) (i : TxItem) : (s.take p l i).table = s.table := by
  rw [State.take_frame]
@[simp] theorem State.take_records (s : State) (p : PortId) (l : Live) (i : TxItem) : (s.take p l i).records = s.records := by
  rw [State.take_frame]
@[simp] theorem State.take_trunkQueue (s : State) (p : PortId) (l : Live) (i : TxItem) : (s.take p l i).trunkQueue = s.trunkQueue := by
  rw [State.take_frame]
@[simp] theorem State.take_mgmt (s : State) (p : PortId) (l : Live) (i : TxItem) : (s.take p l i).mgmt = s.mgmt := by
  rw [State.take_frame]
@[simp] theorem State.take_alerts (s : State) (p : PortId) (l : Live) (i : TxItem) : (s.take p l i).alerts = s.alerts := by
  rw [State.take_frame]
@[simp] theorem State.take_counters (s : State) (p : PortId) (l : Live) (i : TxItem) : (s.take p l i).counters = s.counters := by
  rw [State.take_frame]
@[simp] theorem State.take_choices (s : State) (p : PortId) (l : Live) (i : TxItem) : (s.take p l i).choices = s.choices := by
  rw [State.take_frame]
@[simp] theorem State.take_pending (s : State) (p : PortId) (l : Live) (i : TxItem) : (s.take p l i).pending = s.pending := by
  rw [State.take_frame]

/-! ### stopPort -/

/-- A port leaves ACTIVE (R121). -/
theorem State.stopPort_frame (s : State) (p : PortId) (line : Line) :
    s.stopPort p line = { s with ports := (s.stopPort p line).ports, pool := (s.stopPort p line).pool } := by
  unfold State.stopPort
  split
  · rfl
  · rw [State.releaseOpt_frame, State.releaseOpt_frame]; rfl

@[simp] theorem State.stopPort_now (s : State) (p : PortId) (line : Line) : (s.stopPort p line).now = s.now := by
  rw [State.stopPort_frame]
@[simp] theorem State.stopPort_strapPins (s : State) (p : PortId) (line : Line) : (s.stopPort p line).strapPins = s.strapPins := by
  rw [State.stopPort_frame]
@[simp] theorem State.stopPort_addr (s : State) (p : PortId) (line : Line) : (s.stopPort p line).addr = s.addr := by
  rw [State.stopPort_frame]
@[simp] theorem State.stopPort_branches (s : State) (p : PortId) (line : Line) : (s.stopPort p line).branches = s.branches := by
  rw [State.stopPort_frame]
@[simp] theorem State.stopPort_table (s : State) (p : PortId) (line : Line) : (s.stopPort p line).table = s.table := by
  rw [State.stopPort_frame]
@[simp] theorem State.stopPort_records (s : State) (p : PortId) (line : Line) : (s.stopPort p line).records = s.records := by
  rw [State.stopPort_frame]
@[simp] theorem State.stopPort_trunkQueue (s : State) (p : PortId) (line : Line) : (s.stopPort p line).trunkQueue = s.trunkQueue := by
  rw [State.stopPort_frame]
@[simp] theorem State.stopPort_mgmt (s : State) (p : PortId) (line : Line) : (s.stopPort p line).mgmt = s.mgmt := by
  rw [State.stopPort_frame]
@[simp] theorem State.stopPort_alerts (s : State) (p : PortId) (line : Line) : (s.stopPort p line).alerts = s.alerts := by
  rw [State.stopPort_frame]
@[simp] theorem State.stopPort_counters (s : State) (p : PortId) (line : Line) : (s.stopPort p line).counters = s.counters := by
  rw [State.stopPort_frame]
@[simp] theorem State.stopPort_choices (s : State) (p : PortId) (line : Line) : (s.stopPort p line).choices = s.choices := by
  rw [State.stopPort_frame]
@[simp] theorem State.stopPort_pending (s : State) (p : PortId) (line : Line) : (s.stopPort p line).pending = s.pending := by
  rw [State.stopPort_frame]

/-! ### tearDownBranch -/

/-- Teardown of a branch (R121, R45, R70, R103). -/
theorem State.tearDownBranch_frame (s : State) (b : BranchId) (line : Line) :
    s.tearDownBranch b line = { s with ports := (s.tearDownBranch b line).ports, branches := (s.tearDownBranch b line).branches, records := (s.tearDownBranch b line).records, pool := (s.tearDownBranch b line).pool, trunkQueue := (s.tearDownBranch b line).trunkQueue, counters := (s.tearDownBranch b line).counters } := by
  unfold State.tearDownBranch; rw [State.branchDown_frame, State.stopPort_frame]

@[simp] theorem State.tearDownBranch_now (s : State) (b : BranchId) (line : Line) : (s.tearDownBranch b line).now = s.now := by
  rw [State.tearDownBranch_frame]
@[simp] theorem State.tearDownBranch_strapPins (s : State) (b : BranchId) (line : Line) : (s.tearDownBranch b line).strapPins = s.strapPins := by
  rw [State.tearDownBranch_frame]
@[simp] theorem State.tearDownBranch_addr (s : State) (b : BranchId) (line : Line) : (s.tearDownBranch b line).addr = s.addr := by
  rw [State.tearDownBranch_frame]
@[simp] theorem State.tearDownBranch_table (s : State) (b : BranchId) (line : Line) : (s.tearDownBranch b line).table = s.table := by
  rw [State.tearDownBranch_frame]
@[simp] theorem State.tearDownBranch_mgmt (s : State) (b : BranchId) (line : Line) : (s.tearDownBranch b line).mgmt = s.mgmt := by
  rw [State.tearDownBranch_frame]
@[simp] theorem State.tearDownBranch_alerts (s : State) (b : BranchId) (line : Line) : (s.tearDownBranch b line).alerts = s.alerts := by
  rw [State.tearDownBranch_frame]
@[simp] theorem State.tearDownBranch_choices (s : State) (b : BranchId) (line : Line) : (s.tearDownBranch b line).choices = s.choices := by
  rw [State.tearDownBranch_frame]
@[simp] theorem State.tearDownBranch_pending (s : State) (b : BranchId) (line : Line) : (s.tearDownBranch b line).pending = s.pending := by
  rw [State.tearDownBranch_frame]

/-! ### dropItem -/

/-- A trunk item's owner is told that it was dropped (R110, R46, R71, R155, R181). -/
theorem State.dropItem_frame (s : State) (i : TrunkItem) :
    s.dropItem i = { s with records := (s.dropItem i).records, trunkQueue := (s.dropItem i).trunkQueue, mgmt := (s.dropItem i).mgmt, alerts := (s.dropItem i).alerts, counters := (s.dropItem i).counters } := by
  unfold State.dropItem
  split
  · rw [State.returnLost_frame]
  · rw [State.returnLost_frame]
  · rfl
  · rw [State.alertLost_frame]
  · rfl
  · rfl
  · rfl

@[simp] theorem State.dropItem_now (s : State) (i : TrunkItem) : (s.dropItem i).now = s.now := by
  rw [State.dropItem_frame]
@[simp] theorem State.dropItem_strapPins (s : State) (i : TrunkItem) : (s.dropItem i).strapPins = s.strapPins := by
  rw [State.dropItem_frame]
@[simp] theorem State.dropItem_addr (s : State) (i : TrunkItem) : (s.dropItem i).addr = s.addr := by
  rw [State.dropItem_frame]
@[simp] theorem State.dropItem_ports (s : State) (i : TrunkItem) : (s.dropItem i).ports = s.ports := by
  rw [State.dropItem_frame]
@[simp] theorem State.dropItem_branches (s : State) (i : TrunkItem) : (s.dropItem i).branches = s.branches := by
  rw [State.dropItem_frame]
@[simp] theorem State.dropItem_table (s : State) (i : TrunkItem) : (s.dropItem i).table = s.table := by
  rw [State.dropItem_frame]
@[simp] theorem State.dropItem_pool (s : State) (i : TrunkItem) : (s.dropItem i).pool = s.pool := by
  rw [State.dropItem_frame]
@[simp] theorem State.dropItem_choices (s : State) (i : TrunkItem) : (s.dropItem i).choices = s.choices := by
  rw [State.dropItem_frame]
@[simp] theorem State.dropItem_pending (s : State) (i : TrunkItem) : (s.dropItem i).pending = s.pending := by
  rw [State.dropItem_frame]

/-! ### dropCurrent -/

/-- A stopped current item's owner is told (R121). -/
theorem State.dropCurrent_frame (s : State) (t : Tx) :
    s.dropCurrent t = { s with records := (s.dropCurrent t).records, trunkQueue := (s.dropCurrent t).trunkQueue, mgmt := (s.dropCurrent t).mgmt, alerts := (s.dropCurrent t).alerts, counters := (s.dropCurrent t).counters } := by
  unfold State.dropCurrent
  split
  · rfl
  · split
    · rw [State.dropItem_frame]
    · rfl

@[simp] theorem State.dropCurrent_now (s : State) (t : Tx) : (s.dropCurrent t).now = s.now := by
  rw [State.dropCurrent_frame]
@[simp] theorem State.dropCurrent_strapPins (s : State) (t : Tx) : (s.dropCurrent t).strapPins = s.strapPins := by
  rw [State.dropCurrent_frame]
@[simp] theorem State.dropCurrent_addr (s : State) (t : Tx) : (s.dropCurrent t).addr = s.addr := by
  rw [State.dropCurrent_frame]
@[simp] theorem State.dropCurrent_ports (s : State) (t : Tx) : (s.dropCurrent t).ports = s.ports := by
  rw [State.dropCurrent_frame]
@[simp] theorem State.dropCurrent_branches (s : State) (t : Tx) : (s.dropCurrent t).branches = s.branches := by
  rw [State.dropCurrent_frame]
@[simp] theorem State.dropCurrent_table (s : State) (t : Tx) : (s.dropCurrent t).table = s.table := by
  rw [State.dropCurrent_frame]
@[simp] theorem State.dropCurrent_pool (s : State) (t : Tx) : (s.dropCurrent t).pool = s.pool := by
  rw [State.dropCurrent_frame]
@[simp] theorem State.dropCurrent_choices (s : State) (t : Tx) : (s.dropCurrent t).choices = s.choices := by
  rw [State.dropCurrent_frame]
@[simp] theorem State.dropCurrent_pending (s : State) (t : Tx) : (s.dropCurrent t).pending = s.pending := by
  rw [State.dropCurrent_frame]

/-! ### dropItems -/

/-- Each item of the trunk queue is dropped (R110). -/
theorem State.dropItems_frame (q : List TrunkItem) (s : State) :
    (q.foldl (fun t i => (t.releaseOpt i.buf?).dropItem i) s) = { s with records := (q.foldl (fun t i => (t.releaseOpt i.buf?).dropItem i) s).records, pool := (q.foldl (fun t i => (t.releaseOpt i.buf?).dropItem i) s).pool, trunkQueue := (q.foldl (fun t i => (t.releaseOpt i.buf?).dropItem i) s).trunkQueue, mgmt := (q.foldl (fun t i => (t.releaseOpt i.buf?).dropItem i) s).mgmt, alerts := (q.foldl (fun t i => (t.releaseOpt i.buf?).dropItem i) s).alerts, counters := (q.foldl (fun t i => (t.releaseOpt i.buf?).dropItem i) s).counters } := by
  induction q generalizing s with
  | nil => rfl
  | cons i rest ih => rw [List.foldl_cons, ih, State.dropItem_frame, State.releaseOpt_frame]

@[simp] theorem State.dropItems_now (q : List TrunkItem) (s : State) : (q.foldl (fun t i => (t.releaseOpt i.buf?).dropItem i) s).now = s.now := by
  rw [State.dropItems_frame]
@[simp] theorem State.dropItems_strapPins (q : List TrunkItem) (s : State) : (q.foldl (fun t i => (t.releaseOpt i.buf?).dropItem i) s).strapPins = s.strapPins := by
  rw [State.dropItems_frame]
@[simp] theorem State.dropItems_addr (q : List TrunkItem) (s : State) : (q.foldl (fun t i => (t.releaseOpt i.buf?).dropItem i) s).addr = s.addr := by
  rw [State.dropItems_frame]
@[simp] theorem State.dropItems_ports (q : List TrunkItem) (s : State) : (q.foldl (fun t i => (t.releaseOpt i.buf?).dropItem i) s).ports = s.ports := by
  rw [State.dropItems_frame]
@[simp] theorem State.dropItems_branches (q : List TrunkItem) (s : State) : (q.foldl (fun t i => (t.releaseOpt i.buf?).dropItem i) s).branches = s.branches := by
  rw [State.dropItems_frame]
@[simp] theorem State.dropItems_table (q : List TrunkItem) (s : State) : (q.foldl (fun t i => (t.releaseOpt i.buf?).dropItem i) s).table = s.table := by
  rw [State.dropItems_frame]
@[simp] theorem State.dropItems_choices (q : List TrunkItem) (s : State) : (q.foldl (fun t i => (t.releaseOpt i.buf?).dropItem i) s).choices = s.choices := by
  rw [State.dropItems_frame]
@[simp] theorem State.dropItems_pending (q : List TrunkItem) (s : State) : (q.foldl (fun t i => (t.releaseOpt i.buf?).dropItem i) s).pending = s.pending := by
  rw [State.dropItems_frame]

/-! ### tearDownTrunk -/

/-- Teardown of the trunk (R110, R121, R46, R71). -/
theorem State.tearDownTrunk_frame (s : State) (line : Line) :
    s.tearDownTrunk line = { s with ports := (s.tearDownTrunk line).ports, records := (s.tearDownTrunk line).records, pool := (s.tearDownTrunk line).pool, trunkQueue := (s.tearDownTrunk line).trunkQueue, mgmt := (s.tearDownTrunk line).mgmt, alerts := (s.tearDownTrunk line).alerts, counters := (s.tearDownTrunk line).counters } := by
  unfold State.tearDownTrunk
  split
  · rfl
  · rw [State.dropItems_frame, State.dropCurrent_frame, State.stopPort_frame]

@[simp] theorem State.tearDownTrunk_now (s : State) (line : Line) : (s.tearDownTrunk line).now = s.now := by
  rw [State.tearDownTrunk_frame]
@[simp] theorem State.tearDownTrunk_strapPins (s : State) (line : Line) : (s.tearDownTrunk line).strapPins = s.strapPins := by
  rw [State.tearDownTrunk_frame]
@[simp] theorem State.tearDownTrunk_addr (s : State) (line : Line) : (s.tearDownTrunk line).addr = s.addr := by
  rw [State.tearDownTrunk_frame]
@[simp] theorem State.tearDownTrunk_branches (s : State) (line : Line) : (s.tearDownTrunk line).branches = s.branches := by
  rw [State.tearDownTrunk_frame]
@[simp] theorem State.tearDownTrunk_table (s : State) (line : Line) : (s.tearDownTrunk line).table = s.table := by
  rw [State.tearDownTrunk_frame]
@[simp] theorem State.tearDownTrunk_choices (s : State) (line : Line) : (s.tearDownTrunk line).choices = s.choices := by
  rw [State.tearDownTrunk_frame]
@[simp] theorem State.tearDownTrunk_pending (s : State) (line : Line) : (s.tearDownTrunk line).pending = s.pending := by
  rw [State.tearDownTrunk_frame]

/-! ### lineSeen -/

/-- What an event says of the line is held in the port (R113). -/
theorem State.lineSeen_frame (s : State) (p : PortId) (busy : Bool) :
    s.lineSeen p busy = { s with ports := (s.lineSeen p busy).ports } := by
  unfold State.lineSeen; split <;> rfl

@[simp] theorem State.lineSeen_now (s : State) (p : PortId) (busy : Bool) : (s.lineSeen p busy).now = s.now := by
  rw [State.lineSeen_frame]
@[simp] theorem State.lineSeen_strapPins (s : State) (p : PortId) (busy : Bool) : (s.lineSeen p busy).strapPins = s.strapPins := by
  rw [State.lineSeen_frame]
@[simp] theorem State.lineSeen_addr (s : State) (p : PortId) (busy : Bool) : (s.lineSeen p busy).addr = s.addr := by
  rw [State.lineSeen_frame]
@[simp] theorem State.lineSeen_branches (s : State) (p : PortId) (busy : Bool) : (s.lineSeen p busy).branches = s.branches := by
  rw [State.lineSeen_frame]
@[simp] theorem State.lineSeen_table (s : State) (p : PortId) (busy : Bool) : (s.lineSeen p busy).table = s.table := by
  rw [State.lineSeen_frame]
@[simp] theorem State.lineSeen_records (s : State) (p : PortId) (busy : Bool) : (s.lineSeen p busy).records = s.records := by
  rw [State.lineSeen_frame]
@[simp] theorem State.lineSeen_pool (s : State) (p : PortId) (busy : Bool) : (s.lineSeen p busy).pool = s.pool := by
  rw [State.lineSeen_frame]
@[simp] theorem State.lineSeen_trunkQueue (s : State) (p : PortId) (busy : Bool) : (s.lineSeen p busy).trunkQueue = s.trunkQueue := by
  rw [State.lineSeen_frame]
@[simp] theorem State.lineSeen_mgmt (s : State) (p : PortId) (busy : Bool) : (s.lineSeen p busy).mgmt = s.mgmt := by
  rw [State.lineSeen_frame]
@[simp] theorem State.lineSeen_alerts (s : State) (p : PortId) (busy : Bool) : (s.lineSeen p busy).alerts = s.alerts := by
  rw [State.lineSeen_frame]
@[simp] theorem State.lineSeen_counters (s : State) (p : PortId) (busy : Bool) : (s.lineSeen p busy).counters = s.counters := by
  rw [State.lineSeen_frame]
@[simp] theorem State.lineSeen_choices (s : State) (p : PortId) (busy : Bool) : (s.lineSeen p busy).choices = s.choices := by
  rw [State.lineSeen_frame]
@[simp] theorem State.lineSeen_pending (s : State) (p : PortId) (busy : Bool) : (s.lineSeen p busy).pending = s.pending := by
  rw [State.lineSeen_frame]

/-! ### endWait -/

/-- A wait ends in SEND, or goes on (R132, R135). -/
theorem State.endWait_frame (s : State) (p : PortId) (t : Nat) (waits : Tx → Option Current) :
    s.endWait p t waits = { s with ports := (s.endWait p t waits).ports, pool := (s.endWait p t waits).pool } := by
  unfold State.endWait
  split
  · rfl
  · split
    · split
      · rw [State.startSend_frame]
      · rfl
    · rfl

@[simp] theorem State.endWait_now (s : State) (p : PortId) (t : Nat) (waits : Tx → Option Current) : (s.endWait p t waits).now = s.now := by
  rw [State.endWait_frame]
@[simp] theorem State.endWait_strapPins (s : State) (p : PortId) (t : Nat) (waits : Tx → Option Current) : (s.endWait p t waits).strapPins = s.strapPins := by
  rw [State.endWait_frame]
@[simp] theorem State.endWait_addr (s : State) (p : PortId) (t : Nat) (waits : Tx → Option Current) : (s.endWait p t waits).addr = s.addr := by
  rw [State.endWait_frame]
@[simp] theorem State.endWait_branches (s : State) (p : PortId) (t : Nat) (waits : Tx → Option Current) : (s.endWait p t waits).branches = s.branches := by
  rw [State.endWait_frame]
@[simp] theorem State.endWait_table (s : State) (p : PortId) (t : Nat) (waits : Tx → Option Current) : (s.endWait p t waits).table = s.table := by
  rw [State.endWait_frame]
@[simp] theorem State.endWait_records (s : State) (p : PortId) (t : Nat) (waits : Tx → Option Current) : (s.endWait p t waits).records = s.records := by
  rw [State.endWait_frame]
@[simp] theorem State.endWait_trunkQueue (s : State) (p : PortId) (t : Nat) (waits : Tx → Option Current) : (s.endWait p t waits).trunkQueue = s.trunkQueue := by
  rw [State.endWait_frame]
@[simp] theorem State.endWait_mgmt (s : State) (p : PortId) (t : Nat) (waits : Tx → Option Current) : (s.endWait p t waits).mgmt = s.mgmt := by
  rw [State.endWait_frame]
@[simp] theorem State.endWait_alerts (s : State) (p : PortId) (t : Nat) (waits : Tx → Option Current) : (s.endWait p t waits).alerts = s.alerts := by
  rw [State.endWait_frame]
@[simp] theorem State.endWait_counters (s : State) (p : PortId) (t : Nat) (waits : Tx → Option Current) : (s.endWait p t waits).counters = s.counters := by
  rw [State.endWait_frame]
@[simp] theorem State.endWait_choices (s : State) (p : PortId) (t : Nat) (waits : Tx → Option Current) : (s.endWait p t waits).choices = s.choices := by
  rw [State.endWait_frame]
@[simp] theorem State.endWait_pending (s : State) (p : PortId) (t : Nat) (waits : Tx → Option Current) : (s.endWait p t waits).pending = s.pending := by
  rw [State.endWait_frame]

/-! ### enable -/

/-- PORT-CONTROL enable (R117). -/
theorem State.enable_frame (s : State) (p : PortId) :
    s.enable p = { s with ports := (s.enable p).ports } := by
  unfold State.enable; split <;> rfl

@[simp] theorem State.enable_now (s : State) (p : PortId) : (s.enable p).now = s.now := by
  rw [State.enable_frame]
@[simp] theorem State.enable_strapPins (s : State) (p : PortId) : (s.enable p).strapPins = s.strapPins := by
  rw [State.enable_frame]
@[simp] theorem State.enable_addr (s : State) (p : PortId) : (s.enable p).addr = s.addr := by
  rw [State.enable_frame]
@[simp] theorem State.enable_branches (s : State) (p : PortId) : (s.enable p).branches = s.branches := by
  rw [State.enable_frame]
@[simp] theorem State.enable_table (s : State) (p : PortId) : (s.enable p).table = s.table := by
  rw [State.enable_frame]
@[simp] theorem State.enable_records (s : State) (p : PortId) : (s.enable p).records = s.records := by
  rw [State.enable_frame]
@[simp] theorem State.enable_pool (s : State) (p : PortId) : (s.enable p).pool = s.pool := by
  rw [State.enable_frame]
@[simp] theorem State.enable_trunkQueue (s : State) (p : PortId) : (s.enable p).trunkQueue = s.trunkQueue := by
  rw [State.enable_frame]
@[simp] theorem State.enable_mgmt (s : State) (p : PortId) : (s.enable p).mgmt = s.mgmt := by
  rw [State.enable_frame]
@[simp] theorem State.enable_alerts (s : State) (p : PortId) : (s.enable p).alerts = s.alerts := by
  rw [State.enable_frame]
@[simp] theorem State.enable_counters (s : State) (p : PortId) : (s.enable p).counters = s.counters := by
  rw [State.enable_frame]
@[simp] theorem State.enable_choices (s : State) (p : PortId) : (s.enable p).choices = s.choices := by
  rw [State.enable_frame]
@[simp] theorem State.enable_pending (s : State) (p : PortId) : (s.enable p).pending = s.pending := by
  rw [State.enable_frame]

/-! ### disable -/

/-- PORT-CONTROL disable (R120). -/
theorem State.disable_frame (s : State) (b : BranchId) :
    s.disable b = { s with ports := (s.disable b).ports, branches := (s.disable b).branches, records := (s.disable b).records, pool := (s.disable b).pool, trunkQueue := (s.disable b).trunkQueue, counters := (s.disable b).counters } := by
  unfold State.disable
  split
  · rfl
  · rw [State.tearDownBranch_frame]
  · rfl

@[simp] theorem State.disable_now (s : State) (b : BranchId) : (s.disable b).now = s.now := by
  rw [State.disable_frame]
@[simp] theorem State.disable_strapPins (s : State) (b : BranchId) : (s.disable b).strapPins = s.strapPins := by
  rw [State.disable_frame]
@[simp] theorem State.disable_addr (s : State) (b : BranchId) : (s.disable b).addr = s.addr := by
  rw [State.disable_frame]
@[simp] theorem State.disable_table (s : State) (b : BranchId) : (s.disable b).table = s.table := by
  rw [State.disable_frame]
@[simp] theorem State.disable_mgmt (s : State) (b : BranchId) : (s.disable b).mgmt = s.mgmt := by
  rw [State.disable_frame]
@[simp] theorem State.disable_alerts (s : State) (b : BranchId) : (s.disable b).alerts = s.alerts := by
  rw [State.disable_frame]
@[simp] theorem State.disable_choices (s : State) (b : BranchId) : (s.disable b).choices = s.choices := by
  rw [State.disable_frame]
@[simp] theorem State.disable_pending (s : State) (b : BranchId) : (s.disable b).pending = s.pending := by
  rw [State.disable_frame]

/-! ### countTimes -/

/-- A counter is counted several times over (R183). -/
theorem State.countTimes_frame (s : State) (c : BridgeCounter) (n : Nat) :
    s.countTimes c n = { s with counters := (s.countTimes c n).counters } := by
  induction n generalizing s with
  | zero => rfl
  | succ n ih => unfold State.countTimes; rw [ih]; rfl

@[simp] theorem State.countTimes_now (s : State) (c : BridgeCounter) (n : Nat) : (s.countTimes c n).now = s.now := by
  rw [State.countTimes_frame]
@[simp] theorem State.countTimes_strapPins (s : State) (c : BridgeCounter) (n : Nat) : (s.countTimes c n).strapPins = s.strapPins := by
  rw [State.countTimes_frame]
@[simp] theorem State.countTimes_addr (s : State) (c : BridgeCounter) (n : Nat) : (s.countTimes c n).addr = s.addr := by
  rw [State.countTimes_frame]
@[simp] theorem State.countTimes_ports (s : State) (c : BridgeCounter) (n : Nat) : (s.countTimes c n).ports = s.ports := by
  rw [State.countTimes_frame]
@[simp] theorem State.countTimes_branches (s : State) (c : BridgeCounter) (n : Nat) : (s.countTimes c n).branches = s.branches := by
  rw [State.countTimes_frame]
@[simp] theorem State.countTimes_table (s : State) (c : BridgeCounter) (n : Nat) : (s.countTimes c n).table = s.table := by
  rw [State.countTimes_frame]
@[simp] theorem State.countTimes_records (s : State) (c : BridgeCounter) (n : Nat) : (s.countTimes c n).records = s.records := by
  rw [State.countTimes_frame]
@[simp] theorem State.countTimes_pool (s : State) (c : BridgeCounter) (n : Nat) : (s.countTimes c n).pool = s.pool := by
  rw [State.countTimes_frame]
@[simp] theorem State.countTimes_trunkQueue (s : State) (c : BridgeCounter) (n : Nat) : (s.countTimes c n).trunkQueue = s.trunkQueue := by
  rw [State.countTimes_frame]
@[simp] theorem State.countTimes_mgmt (s : State) (c : BridgeCounter) (n : Nat) : (s.countTimes c n).mgmt = s.mgmt := by
  rw [State.countTimes_frame]
@[simp] theorem State.countTimes_alerts (s : State) (c : BridgeCounter) (n : Nat) : (s.countTimes c n).alerts = s.alerts := by
  rw [State.countTimes_frame]
@[simp] theorem State.countTimes_choices (s : State) (c : BridgeCounter) (n : Nat) : (s.countTimes c n).choices = s.choices := by
  rw [State.countTimes_frame]
@[simp] theorem State.countTimes_pending (s : State) (c : BridgeCounter) (n : Nat) : (s.countTimes c n).pending = s.pending := by
  rw [State.countTimes_frame]

/-! ### cancelIn -/

/-- A branch queue loses the probe items of an exchange (R63, R102). -/
theorem State.cancelIn_frame (x : SlotNo) (s : State) (q : BranchId) :
    (State.cancelIn x s q) = { s with branches := (State.cancelIn x s q).branches, pool := (State.cancelIn x s q).pool } := by
  unfold State.cancelIn; rw [State.releaseAll_frame]; rfl

@[simp] theorem State.cancelIn_now (x : SlotNo) (s : State) (q : BranchId) : (State.cancelIn x s q).now = s.now := by
  rw [State.cancelIn_frame]
@[simp] theorem State.cancelIn_strapPins (x : SlotNo) (s : State) (q : BranchId) : (State.cancelIn x s q).strapPins = s.strapPins := by
  rw [State.cancelIn_frame]
@[simp] theorem State.cancelIn_addr (x : SlotNo) (s : State) (q : BranchId) : (State.cancelIn x s q).addr = s.addr := by
  rw [State.cancelIn_frame]
@[simp] theorem State.cancelIn_ports (x : SlotNo) (s : State) (q : BranchId) : (State.cancelIn x s q).ports = s.ports := by
  rw [State.cancelIn_frame]
@[simp] theorem State.cancelIn_table (x : SlotNo) (s : State) (q : BranchId) : (State.cancelIn x s q).table = s.table := by
  rw [State.cancelIn_frame]
@[simp] theorem State.cancelIn_records (x : SlotNo) (s : State) (q : BranchId) : (State.cancelIn x s q).records = s.records := by
  rw [State.cancelIn_frame]
@[simp] theorem State.cancelIn_trunkQueue (x : SlotNo) (s : State) (q : BranchId) : (State.cancelIn x s q).trunkQueue = s.trunkQueue := by
  rw [State.cancelIn_frame]
@[simp] theorem State.cancelIn_mgmt (x : SlotNo) (s : State) (q : BranchId) : (State.cancelIn x s q).mgmt = s.mgmt := by
  rw [State.cancelIn_frame]
@[simp] theorem State.cancelIn_alerts (x : SlotNo) (s : State) (q : BranchId) : (State.cancelIn x s q).alerts = s.alerts := by
  rw [State.cancelIn_frame]
@[simp] theorem State.cancelIn_counters (x : SlotNo) (s : State) (q : BranchId) : (State.cancelIn x s q).counters = s.counters := by
  rw [State.cancelIn_frame]
@[simp] theorem State.cancelIn_choices (x : SlotNo) (s : State) (q : BranchId) : (State.cancelIn x s q).choices = s.choices := by
  rw [State.cancelIn_frame]
@[simp] theorem State.cancelIn_pending (x : SlotNo) (s : State) (q : BranchId) : (State.cancelIn x s q).pending = s.pending := by
  rw [State.cancelIn_frame]

/-! ### placeProbe -/

/-- A request or probe item is appended to each branch of a set (R56). -/
theorem State.placeProbe_frame (x : SlotNo) (f : Frame) (b : BufId) (set : PerBranch Bool) (s : State) (q : BranchId) :
    (State.placeProbe x f b set s q) = { s with branches := (State.placeProbe x f b set s q).branches, pool := (State.placeProbe x f b set s q).pool } := by
  unfold State.placeProbe; split <;> rfl

@[simp] theorem State.placeProbe_now (x : SlotNo) (f : Frame) (b : BufId) (set : PerBranch Bool) (s : State) (q : BranchId) : (State.placeProbe x f b set s q).now = s.now := by
  rw [State.placeProbe_frame]
@[simp] theorem State.placeProbe_strapPins (x : SlotNo) (f : Frame) (b : BufId) (set : PerBranch Bool) (s : State) (q : BranchId) : (State.placeProbe x f b set s q).strapPins = s.strapPins := by
  rw [State.placeProbe_frame]
@[simp] theorem State.placeProbe_addr (x : SlotNo) (f : Frame) (b : BufId) (set : PerBranch Bool) (s : State) (q : BranchId) : (State.placeProbe x f b set s q).addr = s.addr := by
  rw [State.placeProbe_frame]
@[simp] theorem State.placeProbe_ports (x : SlotNo) (f : Frame) (b : BufId) (set : PerBranch Bool) (s : State) (q : BranchId) : (State.placeProbe x f b set s q).ports = s.ports := by
  rw [State.placeProbe_frame]
@[simp] theorem State.placeProbe_table (x : SlotNo) (f : Frame) (b : BufId) (set : PerBranch Bool) (s : State) (q : BranchId) : (State.placeProbe x f b set s q).table = s.table := by
  rw [State.placeProbe_frame]
@[simp] theorem State.placeProbe_records (x : SlotNo) (f : Frame) (b : BufId) (set : PerBranch Bool) (s : State) (q : BranchId) : (State.placeProbe x f b set s q).records = s.records := by
  rw [State.placeProbe_frame]
@[simp] theorem State.placeProbe_trunkQueue (x : SlotNo) (f : Frame) (b : BufId) (set : PerBranch Bool) (s : State) (q : BranchId) : (State.placeProbe x f b set s q).trunkQueue = s.trunkQueue := by
  rw [State.placeProbe_frame]
@[simp] theorem State.placeProbe_mgmt (x : SlotNo) (f : Frame) (b : BufId) (set : PerBranch Bool) (s : State) (q : BranchId) : (State.placeProbe x f b set s q).mgmt = s.mgmt := by
  rw [State.placeProbe_frame]
@[simp] theorem State.placeProbe_alerts (x : SlotNo) (f : Frame) (b : BufId) (set : PerBranch Bool) (s : State) (q : BranchId) : (State.placeProbe x f b set s q).alerts = s.alerts := by
  rw [State.placeProbe_frame]
@[simp] theorem State.placeProbe_counters (x : SlotNo) (f : Frame) (b : BufId) (set : PerBranch Bool) (s : State) (q : BranchId) : (State.placeProbe x f b set s q).counters = s.counters := by
  rw [State.placeProbe_frame]
@[simp] theorem State.placeProbe_choices (x : SlotNo) (f : Frame) (b : BufId) (set : PerBranch Bool) (s : State) (q : BranchId) : (State.placeProbe x f b set s q).choices = s.choices := by
  rw [State.placeProbe_frame]
@[simp] theorem State.placeProbe_pending (x : SlotNo) (f : Frame) (b : BufId) (set : PerBranch Bool) (s : State) (q : BranchId) : (State.placeProbe x f b set s q).pending = s.pending := by
  rw [State.placeProbe_frame]

/-! ### placeNotice -/

/-- A notice copy is placed or dropped (R84). -/
theorem State.placeNotice_frame (f : Frame) (b : BufId) (s : State) (q : BranchId) :
    (State.placeNotice f b s q) = { s with ports := (State.placeNotice f b s q).ports, branches := (State.placeNotice f b s q).branches, pool := (State.placeNotice f b s q).pool } := by
  unfold State.placeNotice; split <;> rfl

@[simp] theorem State.placeNotice_now (f : Frame) (b : BufId) (s : State) (q : BranchId) : (State.placeNotice f b s q).now = s.now := by
  rw [State.placeNotice_frame]
@[simp] theorem State.placeNotice_strapPins (f : Frame) (b : BufId) (s : State) (q : BranchId) : (State.placeNotice f b s q).strapPins = s.strapPins := by
  rw [State.placeNotice_frame]
@[simp] theorem State.placeNotice_addr (f : Frame) (b : BufId) (s : State) (q : BranchId) : (State.placeNotice f b s q).addr = s.addr := by
  rw [State.placeNotice_frame]
@[simp] theorem State.placeNotice_table (f : Frame) (b : BufId) (s : State) (q : BranchId) : (State.placeNotice f b s q).table = s.table := by
  rw [State.placeNotice_frame]
@[simp] theorem State.placeNotice_records (f : Frame) (b : BufId) (s : State) (q : BranchId) : (State.placeNotice f b s q).records = s.records := by
  rw [State.placeNotice_frame]
@[simp] theorem State.placeNotice_trunkQueue (f : Frame) (b : BufId) (s : State) (q : BranchId) : (State.placeNotice f b s q).trunkQueue = s.trunkQueue := by
  rw [State.placeNotice_frame]
@[simp] theorem State.placeNotice_mgmt (f : Frame) (b : BufId) (s : State) (q : BranchId) : (State.placeNotice f b s q).mgmt = s.mgmt := by
  rw [State.placeNotice_frame]
@[simp] theorem State.placeNotice_alerts (f : Frame) (b : BufId) (s : State) (q : BranchId) : (State.placeNotice f b s q).alerts = s.alerts := by
  rw [State.placeNotice_frame]
@[simp] theorem State.placeNotice_counters (f : Frame) (b : BufId) (s : State) (q : BranchId) : (State.placeNotice f b s q).counters = s.counters := by
  rw [State.placeNotice_frame]
@[simp] theorem State.placeNotice_choices (f : Frame) (b : BufId) (s : State) (q : BranchId) : (State.placeNotice f b s q).choices = s.choices := by
  rw [State.placeNotice_frame]
@[simp] theorem State.placeNotice_pending (f : Frame) (b : BufId) (s : State) (q : BranchId) : (State.placeNotice f b s q).pending = s.pending := by
  rw [State.placeNotice_frame]

end Sys2Proof.Machine
end

