-- ==== Sys2Proof/Laws/Entry.lean ====
section
/-! SUPPORT. How a command reaches the operation that gives it its effect: characters to the receiver, the last octet of
a frame to dispatch, a management request to its operation, with what those operations read there. -/

namespace Sys2Proof.Machine

/-! ### What the operations read, over states that agree -/

theorem State.resolve_congr {s t : State} (ht : t.table = s.table) (ha : t.addr = s.addr) (d : Octet) :
    t.resolve d = s.resolve d := by
  simp [State.resolve, State.ownAddress, ht, ha]

theorem State.ownAddress_congr {s t : State} (ha : t.addr = s.addr) : t.ownAddress = s.ownAddress := by
  simp [State.ownAddress, ha]

theorem State.record_congr {s t : State} (hr : t.records = s.records) (x : SlotNo) : t.record x = s.record x := by
  simp [State.record, hr]

theorem State.keyInUse_congr {s t : State} (hr : t.records = s.records) (k : Key) : t.keyInUse k = s.keyInUse k := by
  simp [State.keyInUse, hr]

theorem State.freeRecord_congr {s t : State} (hr : t.records = s.records) : t.freeRecord = s.freeRecord := by
  simp [State.freeRecord, State.record, hr]

theorem State.admits_congr {s t : State} (ha : t.isActive .p0 = s.isActive .p0) (hq : t.trunkQueue = s.trunkQueue)
    (i : TrunkItem) : t.admits i = s.admits i := by
  simp [State.admits, ha, hq]

/-- A change of what works in an ACTIVE port leaves every port as ACTIVE as it was. -/
theorem State.isActive_setLive (s : State) (p q : PortId) (l m : Live) (h : s.live? p = some l) :
    (s.setLive p m).isActive q = s.isActive q := by
  by_cases e : q = p
  · subst e
    have h' : (portGet s.ports q).line.live? = some l := h
    simp [State.isActive, State.live?, State.setLive, State.setLine, State.setPort, State.port, h']
  · simp [State.isActive, State.live?, State.setLive, State.setLine, State.setPort, State.port, e]

@[simp] theorem State.live?_countPort (s : State) (p q : PortId) (c : PortCounter) :
    (s.countPort p c).live? q = s.live? q := by
  by_cases e : q = p
  · subst e; simp [State.live?, State.countPort, State.setPort, State.port]
  · simp [State.live?, State.countPort, State.setPort, State.port, e]

@[simp] theorem State.isActive_countPort (s : State) (p q : PortId) (c : PortCounter) :
    (s.countPort p c).isActive q = s.isActive q := by
  simp [State.isActive]

/-! ### Records -/

theorem State.keyInUse_of_record {s : State} {x : SlotNo} {e : Exchange} (h : s.record x = some e) :
    s.keyInUse e.key = true := by
  simp only [State.keyInUse, List.any_eq_true]
  refine ⟨some e, ?_, by simp⟩
  simp only [State.record, List.getD_eq_getElem?_getD] at h
  cases hx : s.records[x.val]? with
  | none => simp [hx] at h
  | some r =>
    simp only [hx, Option.getD_some] at h
    subst h
    exact List.mem_of_getElem? hx

theorem State.keyInUse_of_keyFree {s : State} {k : Key} (h : s.KeyFree k) : s.keyInUse k = false := by
  obtain ⟨h16, hk⟩ := h
  simp only [State.keyInUse, List.any_eq_false]
  intro r hr
  obtain ⟨i, hi⟩ := List.getElem?_of_mem hr
  cases r with
  | none => simp
  | some e =>
    have hlt : i < 16 := by rw [← h16]; exact (List.getElem?_eq_some_iff.mp hi).1
    have : s.record ⟨i, hlt⟩ = some e := by simp [State.record, List.getD_eq_getElem?_getD, hi]
    simp [hk ⟨i, hlt⟩ e this]

theorem State.freeRecord_of_lowestFree {s : State} {x : SlotNo} (h : s.LowestFree x) : s.freeRecord = some x := by
  obtain ⟨-, hx, hlow⟩ := h
  have key : ∀ (p : SlotNo → Bool) (x : SlotNo), p x = true → (∀ y, y < x → p y = false) →
      allSlots.find? p = some x := by
    intro p x hp hl
    fin_cases x <;> simp [allSlots, List.find?_cons] at * <;> simp_all
  apply key
  · simp [hx]
  · intro y hy
    have := hlow y hy
    cases h : s.record y with
    | none => exact absurd h this
    | some e => rfl

theorem State.freeRecord_of_full {s : State} (h : ∀ x, s.record x ≠ none) : s.freeRecord = none := by
  simp only [State.freeRecord, List.find?_eq_none]
  intro x _
  cases hx : s.record x with
  | none => exact absurd hx (h x)
  | some e => simp

/-! ### Queues -/

/-- On a queue with its urgent items ahead, an item goes where R100 puts it. -/
theorem insertItem_eq_placed {q : List BranchItem} (h : QueueSound q) (i : BranchItem) : insertItem q i = placed q i := by
  have key : ∀ q : List BranchItem, q.Pairwise (fun a b => b.urgent = true → a.urgent = true) →
      q.takeWhile (·.urgent) = q.filter (fun j => j.urgent) ∧
      q.dropWhile (·.urgent) = q.filter (fun j => !j.urgent) := by
    intro q
    induction q with
    | nil => intro _; exact ⟨rfl, rfl⟩
    | cons a r ih =>
      intro hp
      rw [List.pairwise_cons] at hp
      cases ha : a.urgent with
      | true =>
        obtain ⟨h1, h2⟩ := ih hp.2
        simp [ha, h1, h2]
      | false =>
        have hall : ∀ b ∈ r, b.urgent = false := by
          intro b hb
          cases hbu : b.urgent with
          | true => simp [hp.1 b hb hbu] at ha
          | false => rfl
        constructor
        · simp [ha, List.filter_eq_nil_iff]
          intro b hb; simp [hall b hb]
        · simp [ha]
          symm
          rw [List.filter_eq_self]
          intro b hb; simp [hall b hb]
  unfold insertItem placed
  split
  · rw [(key q h.2).1, (key q h.2).2]
  · rfl

/-! ### Management requests -/

/-- An accepted request runs its operation at the instant of its arrival. -/
theorem State.requestArrives_of_free {s : State} {h : Header} (hu : s.UnitFree h) (dt : Nat) (op : State → State) :
    (s.advance dt).requestArrives h op = op (s.advance dt) := by
  obtain ⟨h1, h2, h3, -⟩ := hu
  have e1 : (s.advance dt).hears .p0 = true := h1
  have e2 : (s.advance dt).validSource h = true := h2
  simp [State.requestArrives, State.deliver, e1, e2, h3]

/-- A request that finds the unit busy is refused at the instant of its arrival. -/
theorem State.requestArrives_of_busy {s : State} {h : Header} (h1 : s.hears .p0 = true) (h2 : s.validSource h = true)
    (h3 : s.mgmt.phase ≠ .idle) (dt : Nat) (op : State → State) :
    (s.advance dt).requestArrives h op = (s.advance dt).refuseBusy h := by
  have e1 : (s.advance dt).hears .p0 = true := h1
  have e2 : (s.advance dt).validSource h = true := h2
  simp [State.requestArrives, State.deliver, e1, e2, h3]

/-- A response whose place is free is all that `answered` says. -/
theorem State.respond_of_admits {s : State} (h : Header) (code : Octet) (status : Status) (data : List Octet)
    (ha : s.admits .response = true) : s.respond h code status data = s.answered 0 h code status.code data := by
  simp [State.respond, ha, State.answered, responseFrame, ctlOctet, Kind.code, State.enqueue]

/-- The response of an accepted request that has no other effect. -/
theorem State.respond_of_free {s : State} {h : Header} (hu : s.UnitFree h) (dt : Nat) (code : Octet) (status : Status)
    (data : List Octet) : (s.advance dt).respond h code status data = s.answered dt h code status.code data := by
  have ha : (s.advance dt).admits .response = true := hu.2.2.2
  rw [State.respond_of_admits h code status data ha]
  rfl

/-! ### Characters and frames -/

/-- An event reaches the receiver of a port that listens. -/
theorem State.listening_of_listens {s : State} {p : PortId} {l : Live} (hl : s.Listens p l) (dt : Nat)
    (act : Live → State → State) : (s.advance dt).listening p act = act l (s.advance dt) := by
  have e : (s.advance dt).live? p = some l := hl.1
  simp [State.listening, e, hl.2]

/-- A character reaches the receiver of a port that takes it. -/
theorem State.character_of_hears {s : State} {p : PortId} {l : Live} {dt : Nat} (hl : s.Hears p l dt)
    (act : Live → State → State) : (s.advance dt).character p act = act l (s.advance dt) := by
  unfold State.character
  rw [State.listening_of_listens hl.1]
  exact if_pos hl.2

/-- What an event says of the line of an ACTIVE port is held in its `busy`, and nowhere else. -/
theorem State.lineSeen_of_live {s : State} {p : PortId} {l : Live} (h : s.live? p = some l) (busy : Bool) :
    s.lineSeen p busy = s.setLive p { l with busy := l.busy || busy } := by
  simp [State.lineSeen, h]

/-- What an event says of the line changes nothing at a port that is not ACTIVE. -/
theorem State.lineSeen_of_not_live {s : State} {p : PortId} (h : s.live? p = none) (busy : Bool) :
    s.lineSeen p busy = s := by
  simp [State.lineSeen, h]

theorem bitTime_pos (rate : BitVec 3) : 0 < bitTime rate := by revert rate; decide

theorem charTime_pos (rate : BitVec 3) : 0 < charTime rate := by
  have := bitTime_pos rate
  unfold charTime
  omega

/-- A contention is found exactly where the character that ends is read back as another (R134). -/
theorem State.contention_iff_readsOther {s : State} {p : PortId} {since dt : Nat} {frame : List Octet} {back : ReadBack} :
    (∃ sent, (s.advance dt).sentNow p since frame = some sent ∧ isContention back sent = true) ↔
      s.ReadsOther p since frame back dt := by
  have hpos : 0 < s.charTime p := charTime_pos _
  have hct : (s.advance dt).charTime p = s.charTime p := rfl
  have hnow : (s.advance dt).now = s.now + dt := rfl
  unfold State.sentNow State.ReadsOther isContention
  simp only [hct, hnow]
  constructor
  · rintro ⟨⟨o, m⟩, hs, hb⟩
    split at hs
    · rename_i hmod
      split at hs
      · cases hs
      · rename_i k hk
        obtain ⟨o', ho, he⟩ := Option.map_eq_some_iff.mp hs
        cases he
        refine ⟨k, o, ho, ?_, by simpa using hb⟩
        have hk' : (s.now + dt - since) / s.charTime p = k + 1 := hk
        have hcount : s.charTime p * ((s.now + dt - since) / s.charTime p) + (s.now + dt - since) % s.charTime p =
            s.now + dt - since := Nat.div_add_mod _ _
        rw [hk', show (s.now + dt - since) % s.charTime p = 0 from hmod, Nat.mul_comm] at hcount
        have hge : since ≤ s.now + dt := by
          rcases Nat.le_total since (s.now + dt) with h | h
          · exact h
          · rw [Nat.sub_eq_zero_of_le h, Nat.zero_div] at hk'; cases hk'
        omega
    · cases hs
  · rintro ⟨k, o, ho, ht, hb⟩
    have hsub : s.now + dt - since = (k + 1) * s.charTime p := by omega
    refine ⟨(o, decide (k = 0)), ?_, by simpa using hb⟩
    rw [hsub, Nat.mul_mod_left, if_pos rfl, Nat.mul_div_cancel _ hpos]
    simp [ho]

/-- The octet that ends on a port in COLLECT stands last in the buffer. -/
theorem State.octets_store {s : State} {b : BufId} {o : Octet} (h : s.pool.buffers.length = 48) :
    ((s.pool.store b o).buffer b).octets = s.octets b ++ [o] := by
  simp [State.octets, Pool.store, Pool.buffer, h]

theorem State.octets_atFrameEnd {s : State} (dt : Nat) (p : PortId) (l : Live) (b : BufId) (o : Octet)
    (h : s.pool.buffers.length = 48) : (s.atFrameEnd dt p l b o).octets b = s.octets b ++ [o] :=
  State.octets_store (s := s) h

@[simp] theorem State.atFrameEnd_branches (s : State) (dt : Nat) (p : PortId) (l : Live) (b : BufId) (o : Octet) :
    (s.atFrameEnd dt p l b o).branches = s.branches := rfl
@[simp] theorem State.atFrameEnd_records (s : State) (dt : Nat) (p : PortId) (l : Live) (b : BufId) (o : Octet) :
    (s.atFrameEnd dt p l b o).records = s.records := rfl
@[simp] theorem State.atFrameEnd_table (s : State) (dt : Nat) (p : PortId) (l : Live) (b : BufId) (o : Octet) :
    (s.atFrameEnd dt p l b o).table = s.table := rfl
@[simp] theorem State.atFrameEnd_trunkQueue (s : State) (dt : Nat) (p : PortId) (l : Live) (b : BufId) (o : Octet) :
    (s.atFrameEnd dt p l b o).trunkQueue = s.trunkQueue := rfl
@[simp] theorem State.atFrameEnd_mgmt (s : State) (dt : Nat) (p : PortId) (l : Live) (b : BufId) (o : Octet) :
    (s.atFrameEnd dt p l b o).mgmt = s.mgmt := rfl
@[simp] theorem State.atFrameEnd_alerts (s : State) (dt : Nat) (p : PortId) (l : Live) (b : BufId) (o : Octet) :
    (s.atFrameEnd dt p l b o).alerts = s.alerts := rfl
@[simp] theorem State.atFrameEnd_counters (s : State) (dt : Nat) (p : PortId) (l : Live) (b : BufId) (o : Octet) :
    (s.atFrameEnd dt p l b o).counters = s.counters := rfl
@[simp] theorem State.atFrameEnd_addr (s : State) (dt : Nat) (p : PortId) (l : Live) (b : BufId) (o : Octet) :
    (s.atFrameEnd dt p l b o).addr = s.addr := rfl
@[simp] theorem State.atFrameEnd_pool (s : State) (dt : Nat) (p : PortId) (l : Live) (b : BufId) (o : Octet) :
    (s.atFrameEnd dt p l b o).pool = s.pool.store b o := rfl

theorem State.isActive_atFrameEnd {s : State} {p : PortId} {l : Live} (hl : s.live? p = some l) (dt : Nat) (b : BufId)
    (o : Octet) (q : PortId) : (s.atFrameEnd dt p l b o).isActive q = s.isActive q := by
  unfold State.atFrameEnd
  rw [State.isActive_countPort, State.isActive_setLive (l := l)]
  · rfl
  · exact hl

/-- The last octet of a good frame hands the frame to dispatch. -/
theorem frameEnd_eq_dispatch {s : State} {dt : Nat} {p : PortId} {l : Live} {b : BufId} {o : Octet} {f : Frame}
    (hg : s.GoodFrameEnds dt p l b o f) :
    exec (.frameEnd dt p o) s = .next ((s.atFrameEnd dt p l b o).dispatch p b) := by
  obtain ⟨hl, hr, h48, hlen, hc, -⟩ := hg
  have hos : State.octets { s.advance dt with pool := (s.advance dt).pool.store b o } b = s.octets b ++ [o] :=
    State.octets_store (s := s.advance dt) h48
  have h4 : (s.octets b).length + 1 = ((s.octets b ++ [o]).getD 3 0).toNat + 6 := by simpa using hlen
  simp only [exec, execFrameEnd, State.unmarkedCharacter, State.character_of_hears hl, State.unmarked, Live.heard, hr,
    State.collectOctet]
  rw [hos, if_neg (by rintro ⟨h1, h2⟩; simp at h1; omega), if_pos ⟨by simp; omega, hlen⟩]
  simp only [State.frameDone, hos, hc, if_true]
  rfl

/-- Dispatch reads the frame of a good frame end, and goes by its fields. -/
theorem frameEnd_of_wellFormed {s : State} {dt : Nat} {p : PortId} {l : Live} {b : BufId} {o : Octet} {f : Frame}
    (hg : s.GoodFrameEnds dt p l b o f) (hm : f.malformed = false) :
    exec (.frameEnd dt p o) s = .next (match portBranch p with
      | none => (s.atFrameEnd dt p l b o).trunkFrame f b
      | some q => (s.atFrameEnd dt p l b o).branchFrame q f b) := by
  rw [frameEnd_eq_dispatch hg]
  obtain ⟨-, -, h48, -, -, hf⟩ := hg
  have e : frameOf ((s.atFrameEnd dt p l b o).octets b) = f := by rw [State.octets_atFrameEnd dt p l b o h48]; exact hf
  cases hq : portBranch p <;> simp [State.dispatch, e, hm, hq]

/-! ### The latest known high of a line -/

/-- Outside SEND the latest known high is what the line timers hold (R118). -/
theorem Live.highAt_of_not_sending {l : Live} (h : l.tx.sending? = none) (now : Nat) (rate : BitVec 3) :
    l.highAt now rate = l.seenHigh now := by
  unfold Live.highAt
  cases ht : l.tx with
  | send c since frame => rw [ht] at h; cases h
  | idle => rfl
  | defer c => rfl
  | backoff c => rfl

/-- The condition of `execStuckLine` in the words of the statements (R118). -/
theorem State.lowLongEnough_iff (s : State) (p : PortId) (l : Live) (dt : Nat) :
    s.LowLongEnough p l dt ↔ l.highAt (s.now + dt) (s.port p).rate + 4 * s.charTime p ≤ s.now + dt := by
  unfold State.LowLongEnough Live.highAt
  cases l.tx with
  | send c since frame =>
    simp only [Live.highBefore, decide_eq_true_eq]
    exact Iff.rfl
  | idle => exact Iff.rfl
  | defer c => exact Iff.rfl
  | backoff c => exact Iff.rfl

/-- STUCK_LINE at an ACTIVE port: the port is torn down where the line can have been low for 4 character
times, and otherwise nothing happens (R118). -/
theorem execStuckLine_next {s : State} {p : PortId} {l : Live} (h : s.live? p = some l) (t : StrapTime) (low : Nat) :
    (s.LowLongEnough p l t.dt →
      execStuckLine t p low s = .next ((s.advance t.dt).stuck p (max l.highFrom (s.now + t.dt + low)) t.straps)) ∧
    (¬ s.LowLongEnough p l t.dt → execStuckLine t p low s = .next (s.advance t.dt)) := by
  unfold execStuckLine
  simp only [h, s.lowLongEnough_iff]
  exact ⟨fun hl => by rw [if_pos hl], fun hl => by rw [if_neg hl]⟩

/-- The last bit read high before a low stop bit (R113): the marker, or else the highest data bit that is 1. -/
theorem lastHigh?_lowStop (o : Octet) (marker : Bool) (low : Nat) :
    lastHigh? (.lowStop o marker low) =
      if marker then some 9 else ((List.range 8).filter (fun j => o.getLsbD j)).getLast?.map (· + 1) := by
  have h : ∀ (o : Octet) (marker : Bool), lastHigh? (.lowStop o marker 0) =
      if marker then some 9 else ((List.range 8).filter (fun j => o.getLsbD j)).getLast?.map (· + 1) := by
    decide +kernel
  exact h o marker

/-- The line timers after a contention in the words of the statements (R118, R134, R135). -/
theorem Live.afterContention_eq {s : State} {p : PortId} {l : Live} {since dt k : Nat}
    (hk : s.now + dt = since + (k + 1) * s.charTime p) (back : ReadBack) (tx : Tx) :
    { l.afterContention (s.now + dt) (s.port p).rate back (decide (k = 0)) with rx := .hunt, tx := tx } =
      s.contendedLine p l since back dt tx := by
  have hstart : s.now + dt - s.charTime p = since + k * s.charTime p := by
    rw [hk, Nat.succ_mul]; omega
  have hc : 0 < s.charTime p := charTime_pos _
  have hfirst : (k = 0) = (s.now + dt - s.charTime p = since) := by
    rw [hstart]
    refine propext ⟨fun h => by rw [h]; omega, fun h => ?_⟩
    have : k * s.charTime p = 0 := by omega
    exact (Nat.mul_eq_zero.mp this).resolve_right (by omega)
  cases back with
  | good o m => rfl
  | unqualified low =>
    simp only [Live.afterContention, State.contendedLine, Live.highInContention, lastHigh?, Live.highBefore, Live.heldLow,
      decide_eq_true_eq, hfirst]
    rfl
  | lowStop o m low =>
    simp only [Live.afterContention, State.contendedLine, Live.highInContention, lastHigh?_lowStop, Live.highBefore,
      Live.heldLow, decide_eq_true_eq, hfirst]
    cases m with
    | true => rfl
    | false =>
      cases h : ((List.range 8).filter (fun j => o.getLsbD j)).getLast? with
      | none => simp only [Bool.false_eq_true, if_false, Option.map_none]; rfl
      | some j => simp only [Bool.false_eq_true, if_false, Option.map_some]; rfl

end Sys2Proof.Machine
end

