-- ==== Sys2Proof/Laws/Outcomes.lean ====
section
/-! SUPPORT. The cases of the shared operations: what each gives where it succeeds, and what it gives otherwise. -/

namespace Sys2Proof.Machine

/-! ### The pool (R93, R94, R97) -/

theorem Pool.buffer_set {P : Pool} (h : P.buffers.length = 48) (a b : BufId) (x : Buffer) :
    ({ P with buffers := P.buffers.set b.val x } : Pool).buffer a = if a = b then x else P.buffer a := by
  by_cases e : a = b
  · subst e
    simp [Pool.buffer, List.getD_eq_getElem?_getD, h]
  · have : b.val ≠ a.val := fun he => e (Fin.ext he.symm)
    simp [Pool.buffer, List.getD_eq_getElem?_getD, List.getElem?_set_ne this, e]

/-- A change of reference counts alone leaves every buffer's octets as they were. -/
theorem Pool.octets_set_refs (P : Pool) (a b : BufId) (n : Nat) :
    ((({ P with buffers := P.buffers.set b.val { P.buffer b with refs := n } } : Pool).buffer a).octets) =
      (P.buffer a).octets := by
  by_cases hlt : b.val < P.buffers.length
  · by_cases e : a = b
    · subst e
      simp [Pool.buffer, List.getD_eq_getElem?_getD, hlt]
    · have : b.val ≠ a.val := fun he => e (Fin.ext he.symm)
      simp [Pool.buffer, List.getD_eq_getElem?_getD, List.getElem?_set_ne this]
  · have : P.buffers.set b.val { P.buffer b with refs := n } = P.buffers :=
      List.set_eq_of_length_le (Nat.le_of_not_lt hlt)
    simp only [Pool.buffer] at this ⊢
    rw [this]

@[simp] theorem Pool.octets_retain (P : Pool) (a b : BufId) : ((P.retain b).buffer a).octets = (P.buffer a).octets :=
  Pool.octets_set_refs P a b _

@[simp] theorem Pool.octets_release (P : Pool) (a b : BufId) : ((P.release b).buffer a).octets = (P.buffer a).octets := by
  unfold Pool.release
  split
  · rfl
  · split
    · exact Pool.octets_set_refs P a b 0
    · exact Pool.octets_set_refs P a b _

theorem Pool.refs_retain {P : Pool} (h : P.buffers.length = 48) (a b : BufId) :
    ((P.retain b).buffer a).refs = if a = b then (P.buffer b).refs + 1 else (P.buffer a).refs := by
  unfold Pool.retain
  rw [Pool.buffer_set h]
  split <;> rfl

theorem Pool.refs_release {P : Pool} (h : P.buffers.length = 48) (a b : BufId) :
    ((P.release b).buffer a).refs = if a = b then (P.buffer b).refs - 1 else (P.buffer a).refs := by
  unfold Pool.release
  split
  · split
    · rename_i e; subst e; omega
    · rfl
  · split
    · rename_i h1
      have := Pool.buffer_set h a b { P.buffer b with refs := 0 }
      simp only [Pool.buffer] at this h1 ⊢
      rw [this]
      split
      · rw [h1]
      · rfl
    · rw [Pool.buffer_set h]
      split <;> rfl

@[simp] theorem Pool.length_retain (P : Pool) (b : BufId) : (P.retain b).buffers.length = P.buffers.length := by
  simp [Pool.retain]

@[simp] theorem Pool.length_release (P : Pool) (b : BufId) : (P.release b).buffers.length = P.buffers.length := by
  unfold Pool.release
  split
  · rfl
  · split <;> simp

@[simp] theorem Pool.length_store (P : Pool) (b : BufId) (o : Octet) :
    (P.store b o).buffers.length = P.buffers.length := by
  simp [Pool.store]

/-- Nothing is released. -/
theorem Pool.Released.refl (P : Pool) : Pool.Released P P (fun _ => 0) := by
  refine ⟨fun a => ⟨rfl, rfl⟩, ⟨[], by simp, List.nodup_nil, fun a => by simp; omega⟩, ?_⟩
  have : ¬ (P.free.length < 8 ∧ 8 ≤ P.free.length) := by omega
  simp [this]

/-- One reference is released. -/
theorem Pool.released_release {P : Pool} (h : P.buffers.length = 48) (b : BufId) :
    Pool.Released P (P.release b) (fun a => holds a (some b)) := by
  refine ⟨fun a => ⟨Pool.octets_release P a b, ?_⟩, ?_, ?_⟩
  · rw [Pool.refs_release h]
    unfold holds
    by_cases e : a = b
    · subst e; simp
    · simp [e, Ne.symm e]
  · by_cases h1 : (P.buffer b).refs = 1
    · refine ⟨[b], by simp [Pool.release, h1], by simp, fun a => ?_⟩
      unfold holds
      by_cases e : a = b
      · subst e; simp [h1]
      · simp [e, Ne.symm e]; omega
    · refine ⟨[], ?_, List.nodup_nil, fun a => ?_⟩
      · unfold Pool.release; split <;> simp
      · unfold holds
        by_cases e : a = b
        · subst e; simp; omega
        · simp [Ne.symm e]; omega
  · unfold Pool.release
    split
    · have : ¬ (P.free.length < 8 ∧ 8 ≤ P.free.length) := by omega
      simp [this]
    · split
      · have : (P.free.length + 1 = 8) ↔ (P.free.length < 8 ∧ 8 ≤ P.free.length + 1) := by omega
        simp [this]
      · have : ¬ (P.free.length < 8 ∧ 8 ≤ P.free.length) := by omega
        simp [this]

/-- Releases follow each other. -/
theorem Pool.Released.trans {P Q R : Pool} {m n : BufId → Nat} (h1 : Pool.Released P Q m) (h2 : Pool.Released Q R n) :
    Pool.Released P R (fun a => m a + n a) := by
  obtain ⟨hb1, ⟨l1, hf1, hn1, hm1⟩, ha1⟩ := h1
  obtain ⟨hb2, ⟨l2, hf2, hn2, hm2⟩, ha2⟩ := h2
  refine ⟨fun a => ⟨(hb2 a).1.trans (hb1 a).1, ?_⟩, ⟨l1 ++ l2, by rw [hf2, hf1, List.append_assoc], ?_, fun a => ?_⟩, ?_⟩
  · rw [(hb2 a).2, (hb1 a).2, Nat.sub_sub]
  · refine List.nodup_append'.mpr ⟨hn1, hn2, fun a h h' => ?_⟩
    have g1 := (hm1 a).mp h
    have g2 := (hm2 a).mp h'
    rw [(hb1 a).2] at g2
    omega
  · rw [List.mem_append, hm1, hm2, (hb1 a).2]
    show _ ↔ 0 < (P.buffer a).refs ∧ (P.buffer a).refs ≤ m a + n a
    omega
  · rw [ha2, ha1, Bool.or_assoc]
    congr 1
    have e1 : Q.free.length = P.free.length + l1.length := by rw [hf1]; simp
    have e2 : R.free.length = Q.free.length + l2.length := by rw [hf2]; simp
    rw [Bool.eq_iff_iff]
    simp only [Bool.or_eq_true, decide_eq_true_eq]
    omega

@[simp] theorem State.length_releaseAll (s : State) (bs : List BufId) :
    (s.releaseAll bs).pool.buffers.length = s.pool.buffers.length := by
  induction bs generalizing s with
  | nil => rfl
  | cons b bs ih => exact (ih (s.release b)).trans (Pool.length_release s.pool b)

/-- An optional reference is released. -/
theorem State.released_releaseOpt {s : State} (h : s.pool.buffers.length = 48) (r : Option BufId) :
    Pool.Released s.pool (s.releaseOpt r).pool (fun a => holds a r) := by
  cases r with
  | none => exact Pool.Released.refl s.pool
  | some b => exact Pool.released_release h b

/-- One reference is released for each buffer of a list. -/
theorem State.released_releaseAll {s : State} (h : s.pool.buffers.length = 48) (bs : List BufId) :
    Pool.Released s.pool (s.releaseAll bs).pool (fun a => sumOver (fun b => holds a (some b)) bs) := by
  induction bs generalizing s with
  | nil => exact Pool.Released.refl s.pool
  | cons b bs ih =>
    have h' : (s.release b).pool.buffers.length = 48 := (Pool.length_release s.pool b).trans h
    exact (Pool.released_release h b).trans (ih h')

/-! ### Claims (R95, R97) -/

theorem State.claim_refused {s : State} {p : PortId} (h : s.pool.free.length < claimNeeds p) :
    s.claim p = (none, s) := by
  simp [State.claim, h]

theorem State.claim_granted {s : State} {p : PortId} {b : BufId} {rest : List BufId} (hf : s.pool.free = b :: rest)
    (h : claimNeeds p ≤ s.pool.free.length) (hq : rest ≠ [] ∨ s.pool.armed = false) :
    s.claim p = (some b, { s with pool := s.pool.grant b rest }) := by
  have e : (rest.isEmpty && s.pool.armed) = false := by
    rcases hq with hq | hq
    · cases rest with
      | nil => exact absurd rfl hq
      | cons _ _ => rfl
    · simp [hq]
  simp only [State.claim, hf, e]
  rw [hf] at h
  rw [if_neg (Nat.not_lt.mpr h)]
  simp

theorem State.claim_last {s : State} {p : PortId} {b : BufId} (hf : s.pool.free = [b])
    (h : claimNeeds p ≤ 1) (ha : s.pool.armed = true) :
    s.claim p = (some b, State.raise { s with pool := s.pool.grant b [] } .poolEmpty 0) := by
  have e : ¬ (1 < claimNeeds p) := Nat.not_lt.mpr h
  simp [State.claim, hf, ha, e]

/-! ### Returns and refusals (R28, R30, R31) -/

theorem State.admits_releaseOpt (s : State) (r : Option BufId) (i : TrunkItem) :
    (s.releaseOpt r).admits i = s.admits i := by
  rw [State.releaseOpt_frame]; rfl

theorem State.refuse_of_admits {s : State} {x : SlotNo} {e : Exchange} {r : Reason} (d : Direct)
    (h : s.admits (.refusalReturn x (e.refusal r)) = true) :
    s.refuse x e d r =
      (((s.releaseOpt e.request).enqueue (.refusalReturn x (e.refusal r))).count (.refusals r)).setRecord x
        (some { e with request := none, mode := .direct { d with phase := .returning } }) := by
  simp [State.refuse, State.admits_releaseOpt, h]

theorem State.refuse_of_full {s : State} {x : SlotNo} {e : Exchange} {r : Reason} (d : Direct)
    (h : s.admits (.refusalReturn x (e.refusal r)) = false) :
    s.refuse x e d r = ((s.releaseOpt e.request).count .returnsLost).setRecord x none := by
  simp [State.refuse, State.admits_releaseOpt, h]

theorem State.returnFrame_of_admits {s : State} {x : SlotNo} {b : BufId} (e : Exchange) (d : Direct)
    (h : s.admits (.frameReturn x b) = true) :
    s.returnFrame x e d b = ((s.releaseOpt e.request).enqueue (.frameReturn x b)).setRecord x
      (some { e with request := none, mode := .direct { d with phase := .returning } }) := by
  simp [State.returnFrame, State.admits_releaseOpt, h]

theorem State.returnFrame_of_full {s : State} {x : SlotNo} {b : BufId} (e : Exchange) (d : Direct)
    (h : s.admits (.frameReturn x b) = false) :
    s.returnFrame x e d b = (((s.releaseOpt e.request).release b).count .returnsLost).setRecord x none := by
  simp [State.returnFrame, State.admits_releaseOpt, h]

theorem State.refuseAtOnce_of_admits {s : State} {r : RefusalItem} (b : BufId) (h : s.admits (.immediate r) = true) :
    s.refuseAtOnce b r = ((s.release b).enqueue (.immediate r)).count (.refusals r.reason) := by
  have : (s.release b).admits (.immediate r) = true := h
  simp [State.refuseAtOnce, this]

theorem State.refuseAtOnce_of_full {s : State} {r : RefusalItem} (b : BufId) (h : s.admits (.immediate r) = false) :
    s.refuseAtOnce b r = (s.release b).count .immediateDiscards := by
  have : (s.release b).admits (.immediate r) = false := h
  simp [State.refuseAtOnce, this]

/-! ### Alerts (R176, R179) -/

theorem State.offerAlert_of_due {s : State} {e : AlertEntry} {rest : List AlertEntry} (hl : s.alerts.list = e :: rest)
    (hd : s.alerts.dest ≠ 0) (ho : s.alerts.offered = false) (ha : s.admits (.alert (s.alertItem e)) = true) :
    s.offerAlert =
      { s with
        trunkQueue := s.trunkQueue ++ [.alert (s.alertItem e)]
        alerts := { s.alerts with offered := true } } := by
  unfold State.offerAlert
  split
  · rename_i h; rw [hl] at h; cases h
  · rename_i f r h
    rw [hl] at h
    cases h
    rw [if_pos ⟨hd, ho, ha⟩]
    rfl

theorem State.offerAlert_of_not_due {s : State}
    (h : s.alerts.list = [] ∨ s.alerts.dest = 0 ∨ s.alerts.offered = true ∨ s.isActive .p0 = false) :
    s.offerAlert = s := by
  unfold State.offerAlert
  split
  · rfl
  · rename_i e r hl
    rw [if_neg]
    rintro ⟨h1, h2, h3⟩
    rcases h with h | h | h | h
    · rw [hl] at h; cases h
    · exact h1 h
    · rw [h] at h2; cases h2
    · simp [State.admits, h] at h3

@[simp] theorem AlertUnit.add_dest (u : AlertUnit) (k : AlertKind) (a : Octet) : (u.add k a).dest = u.dest := by
  unfold AlertUnit.add
  split
  · rfl
  · split <;> rfl

@[simp] theorem AlertUnit.add_offered (u : AlertUnit) (k : AlertKind) (a : Octet) : (u.add k a).offered = u.offered := by
  unfold AlertUnit.add
  split
  · rfl
  · split <;> rfl

/-- Two effects of one instant are taken in one of the two orders, with or without a draw (log 11). -/
theorem State.bothOrders_cases (s : State) (effect alert : State → State) :
    s.bothOrders effect alert = alert (effect s) ∨
    s.bothOrders effect alert = effect (alert { s with choices := s.choices + 1 }) ∨
    s.bothOrders effect alert = alert (effect { s with choices := s.choices + 1 }) := by
  unfold State.bothOrders
  split
  · exact Or.inl rfl
  · split
    · exact Or.inr (Or.inl rfl)
    · exact Or.inr (Or.inr rfl)

/-! ### The end of a RESTART's response (R155, R172) -/

theorem State.settleRestart_of_clear {s : State} (h : s.mgmt.restart = false) (straps : Straps) :
    s.settleRestart straps = s := by
  simp [State.settleRestart, h]

theorem State.settleRestart_of_set {s : State} (h : s.mgmt.restart = true) (hp : s.mgmt.phase = .idle)
    (straps : Straps) : s.settleRestart straps = s.resetAt straps := by
  simp [State.settleRestart, h, hp]

end Sys2Proof.Machine
end

