-- ==== Sys2Proof/Tests/Slice0.lean ====
section
/-! SUPPORT. The model's own tests: ill-formed commands, small steps checked against the spec's figures, and for each
statement with premises a state and operands that meet them. -/

open Sys2Proof Sys2Proof.Machine

namespace Sys2Proof.Tests

set_option Elab.async false

/-! ### Helpers -/

/-- The state that a command answers. -/
def after (r : Host.Outcome State Fault Refusal) : State :=
  match r with
  | .next t => t
  | .fault _ => .reset
  | .refused _ => .reset

/-- A character time at the rate of the test parts: no line of theirs has been busy for so long. -/
def oneChar : Nat := charTime 6

/-- The time `dt` later, with the strap levels that the test parts sampled at their reset. -/
def strapsKept (dt : Nat) : StrapTime := { dt := dt, straps := { addr := 1, start := true, rate := 3 } }

/-- The time `dt` later, with no character in progress on the line, and with one. -/
def quiet (dt : Nat) : LineTime := { dt := dt, busy := false }
def midCharacter (dt : Nat) : LineTime := { dt := dt, busy := true }

/-- A part with all ports ACTIVE at the highest strap rate and own address 0xF1. -/
def plain : State := .resetWith { addr := 1, start := true, rate := 3 }

/-- A management request header from requester 0xF8. -/
def hdr (len : Octet) : Header := { src := 0xF8, tag := 5, urgent := false, len := len }

/-- The octets of a frame with its check. -/
def frame (dest src ctl : Octet) (payload : List Octet) : List Octet :=
  withCheck ([dest, src, ctl, natOctet payload.length] ++ payload)

/-- A good frame from 0xF8 to 0x12 of kind REQUEST, tag 0. -/
def request0 : List Octet := frame 0x12 0xF8 0x01 []

/-- The part with that frame in buffer 1. -/
def filled : State :=
  { plain with pool := { plain.pool with
      buffers := plain.pool.buffers.set 1 { octets := request0, refs := 1 }, free := 0 :: allBuffers.drop 2 } }

/-- Port `p` collects the given octets in buffer 0, which the free list does not hold. -/
def holding (s : State) (p : PortId) (os : List Octet) : State :=
  { s.setLive p { Live.fresh 0 with rx := .collect 0 } with
    pool := { buffers := s.pool.buffers.set 0 { octets := os, refs := 1 }, free := s.pool.free.erase 0, armed := true } }

/-- Port `p` has collected all of a frame but its last octet. -/
def nearEnd (s : State) (p : PortId) (f : List Octet) : State := holding s p f.dropLast

/-- What works in a port while it collects in buffer 0. -/
def collecting : Live := { Live.fresh 0 with rx := .collect 0 }

/-- The last octet of a frame. -/
def lastOf (f : List Octet) : Octet := f.getLastD 0

/-- A station table with one ACTIVE entry, for the addresses 0x10 to 0x1F. -/
def loaded (s : State) (a : Action) : State :=
  { s with table := { s.table with active := s.table.active.set 0 (some { base := 0x10, mask := 0xF0, action := a }) } }

/-- The same with the FORWARD action to branch 1. -/
def forwarding : State := loaded plain (.forward .b1 20 1)

/-- The key of a request from 0xF8 to 0x12 with tag 0. -/
def key0 : Key := { requester := 0xF8, station := 0x12, tag := 0 }

/-- A DIRECT exchange of that key on branch 1, its request in buffer 1. -/
def direct0 (phase : DirectPhase) (attempts : Nat) : Exchange :=
  { key := key0, urgent := false, window := 20, request := if phase = .returning then none else some 1
    mode := .direct { phase := phase, port := .b1, viaLearned := true, retries := 1, attempts := attempts } }

/-- A PROBE exchange of that key whose set is branch 1. -/
def probe0 (phase : ProbePhase) (pending : Bool) : Exchange :=
  { key := key0, urgent := false, window := 20, request := if phase = .probing then some 1 else none
    mode := .probe { phase := phase, pending := pending, set := { b1 := true, b2 := false, b3 := false } } }

/-- A part with the given exchange in record 0. -/
def exchanging (e : Exchange) : State := filled.setRecord 0 (some e)

/-- Slot 1 is held by record 0. -/
def slotted (e : Exchange) (k : SlotKind) (deadline : Option Nat) : State :=
  (exchanging e).setSlot .b1 (some { exch := 0, kind := k, deadline := deadline })

/-- Record 0 is in the repeat holder of branch 1, after its window expired. -/
def repeating0 : State := ((exchanging (direct0 .repeating 1)).setHolder .b1 (some 0)).setLastTimedOut .b1 (some (key0, 0))

/-- Port `p` sends the given item since instant 0. -/
def sending (s : State) (p : PortId) (i : TxItem) (contentions : Nat) : State :=
  s.setLive p { Live.fresh 0 with tx := .send { item := i, contentions := contentions } 0 (s.itemFrame i) }

theorem noRecords {s : State} (h : s.records = List.replicate 16 none) (x : SlotNo) : s.record x = none := by
  simp only [State.record, h, List.getD_eq_getElem?_getD, List.getElem?_replicate]
  split <;> rfl

theorem keyFree_of_noRecords {s : State} (h : s.records = List.replicate 16 none) (k : Key) : s.KeyFree k :=
  ⟨by rw [h]; rfl, fun x e he => by rw [noRecords h x] at he; cases he⟩

theorem lowestFree_of_noRecords {s : State} (h : s.records = List.replicate 16 none) : s.LowestFree 0 :=
  ⟨by rw [h]; rfl, noRecords h 0, fun y hy => absurd hy (Nat.not_lt_zero _)⟩

theorem emptyQueueSound : QueueSound [] := ⟨by decide, List.Pairwise.nil⟩

theorem queuesSound_of_empty {s : State} (h : ∀ b, (s.branch b).queue = []) : s.BranchQueuesSound :=
  fun b => ⟨by rw [h b]; exact emptyQueueSound, fun _ => h b⟩

/-- A state in which a management request is accepted. -/
theorem free_of {s : State} {h : Header} (h1 : s.hears .p0 = true) (h2 : s.validSource h = true)
    (h3 : s.mgmt.phase = .idle) (h4 : s.admits .response = true) : s.UnitFree h := ⟨h1, h2, h3, h4⟩

theorem plain_free (len : Octet) : plain.UnitFree (hdr len) := free_of rfl rfl rfl rfl

/-- A character whose start bit is not read back differs from the one sent. -/
theorem readsOther_unqualified {s : State} {p : PortId} {since dt : Nat} {frame : List Octet} (hn : 0 < frame.length)
    (ht : s.now + dt = since + (0 + 1) * s.charTime p) : s.ReadsOther p since frame (.unqualified 0) dt :=
  ⟨0, frame[0], List.getElem?_eq_getElem hn, ht, by simp⟩

/-! ### Ill-formed commands -/

theorem test_request_header_checks :
    (Instr.identify 0 { hdr 1 with src := 0x00 }).wellFormed = false ∧
    (Instr.identify 0 { hdr 1 with src := 0xFF }).wellFormed = false ∧
    (Instr.readStatus 0 (hdr 57)).wellFormed = false ∧
    (Instr.flush 0 (hdr 0)).wellFormed = false ∧ (Instr.flush 0 (hdr 56)).wellFormed = true := by decide

theorem test_badOperation_checks :
    (Instr.badOperation 0 (hdr 1) 0x01).wellFormed = false ∧ (Instr.badOperation 0 (hdr 1) 0x10).wellFormed = false ∧
    (Instr.badOperation 0 (hdr 57) 0x11).wellFormed = false ∧
    (Instr.badOperation 0 (hdr 0) 0x01).wellFormed = true ∧ (Instr.badOperation 0 (hdr 1) 0x11).wellFormed = true := by
  decide

theorem test_oversizeLen_check :
    (Instr.oversizeLen 0 .p0 56).wellFormed = false ∧ (Instr.oversizeLen 0 .p0 57).wellFormed = true := by decide

theorem test_no_word_spells_a_command : decodeTableWord 8 0 = none ∧ State.reset.withFetchWord 8 0 = State.reset :=
  ⟨rfl, rfl⟩

/-! ### The spec's own figures -/

/-- 07, R143: the check of the nine digits. -/
theorem test_check_value : check [0x31, 0x32, 0x33, 0x34, 0x35, 0x36, 0x37, 0x38, 0x39] = 0x906E#16 := by decide +kernel

/-- 00_scope.md and chapter 10: at 115 200 bit/s a character takes 95.5 µs, at the highest rate code one eighth of it. -/
theorem test_character_times : charTime 4 = 35200 ∧ charTime 7 = 4400 ∧ timeUnit * 10000 = second := by decide

/-- 01, Examples of entry validation. -/
theorem test_entry_validation :
    (entryOf 0x10 0xF0 1 1 20 1).isSome = true ∧ (entryOf 0xE0 0xF0 2 0 0 0).isSome = true ∧
    (entryOf 0xF0 0xF8 1 3 20 0).isSome = true ∧ (entryOf 0x80 0x80 3 0 0 0).isSome = false ∧
    (entryOf 0x01 0x01 2 0 0 0).isSome = false ∧ (entryOf 0x12 0xF0 1 2 20 0).isSome = false ∧
    (entryOf 0x00 0x00 2 0 0 0).isSome = false ∧ (entryOf 0x30 0xF0 1 2 0 0).isSome = false := by decide +kernel

/-- The table of 01, Example of resolution. -/
def exampleTable : State :=
  { plain with table := { plain.table with
      active := [some { base := 0x10, mask := 0xF0, action := .forward .b1 20 1 },
        some { base := 0x18, mask := 0xF8, action := .forward .b2 30 0 },
        some { base := 0x1C, mask := 0xFF, action := .block },
        some { base := 0x40, mask := 0xC0, action := .onTrunk },
        some { base := 0xF2, mask := 0xFF, action := .forward .b3 40 2 },
        some { base := 0x18, mask := 0xF8, action := .forward .b3 30 0 }]
      learned := [some { addr := 0x90, port := .b2, mark := .valid 0 },
        some { addr := 0x91, port := .b1, mark := .conflict .b3 }] } }

theorem test_resolution_example :
    exampleTable.resolve 0x12 = .forward .b1 20 1 false ∧ exampleTable.resolve 0x1A = .forward .b2 30 0 false ∧
    exampleTable.resolve 0x1C = .block ∧ exampleTable.resolve 0x55 = .onTrunk ∧
    exampleTable.resolve 0xF2 = .forward .b3 40 2 false ∧ exampleTable.resolve 0x90 = .forward .b2 50 1 true ∧
    exampleTable.resolve 0x91 = .conflict ∧ exampleTable.resolve 0xA0 = .probe ∧
    exampleTable.resolve 0xF1 = .ignore ∧ exampleTable.resolve 0xFA = .ignore := by decide +kernel

/-- 07, the frames of one table write, on a part at 0xF2. -/
def tableWrite : List Octet := frame 0xF2 0xF9 0x61 [0x06, 4, 1, 0x20, 0xF8, 1, 3, 30, 2]

def atF2 : State := .resetWith { addr := 2, start := true, rate := 3 }

theorem test_table_write :
    tableWrite.length = 15 ∧
    (after (exec (.frameEnd oneChar .p0 (lastOf tableWrite)) (nearEnd atF2 .p0 tableWrite))).mgmt.response =
      [0xF9, 0xF2, 0x62, 3, 0x06, 0, 4] ∧
    (after (exec (.frameEnd oneChar .p0 (lastOf tableWrite)) (nearEnd atF2 .p0 tableWrite))).table.shadow[4]? =
      some (some { base := 0x20, mask := 0xF8, action := .forward .b3 30 2 }) := by decide +kernel

/-- 10.2: the swap of a COMMIT removes the learned entries that the new bank covers. -/
theorem test_commit_removes_covered :
    (after (exec (.commit 0 (hdr 3) 7)
      { plain with table := { plain.table with
          generation := 7
          shadow := [some { base := 0x10, mask := 0xF0, action := .forward .b1 20 1 },
            some { base := 0x20, mask := 0xF8, action := .forward .b2 30 0 },
            some { base := 0x18, mask := 0xF8, action := .forward .b3 20 1 }]
          learned := [some { addr := 0x25, port := .b2, mark := .valid 1 },
            some { addr := 0x26, port := .b2, mark := .conflict .b3 },
            some { addr := 0x90, port := .b1, mark := .valid 0 }] } })).table.learned =
      [none, none, some { addr := 0x90, port := .b1, mark := .valid 0 }] := by decide +kernel

/-- 10.4: the further answer on branch 1 marks the conflict and its alert is offered. -/
def conflictFrame : List Octet := frame 0xF8 0x61 0x42 []

def conflictBefore : State :=
  let s := plain.setRecord 0 (some
    { key := { requester := 0xF8, station := 0x61, tag := 4 }, urgent := false, window := 40, request := none
      mode := .probe { phase := .settling, pending := true, set := { b1 := true, b2 := false, b3 := false } } })
  nearEnd (({ s with
      trunkQueue := [.frameReturn 0 20], alerts := { s.alerts with dest := 0xF8 } }.setLearned
    (s.table.learned.set 0 (some { addr := 0x61, port := .b3, mark := .valid 0 }))).setSlot .b1
    (some { exch := 0, kind := .probe, deadline := some 0 })) .p1 conflictFrame

theorem test_conflict_example :
    let t := after (exec (.frameEnd oneChar .p1 (lastOf conflictFrame)) conflictBefore)
    t.table.learned[0]? = some (some { addr := 0x61, port := .b3, mark := .conflict .b1 }) ∧
    t.trunkQueue = [.frameReturn 0 20, .alert
      { dest := 0xF8, entry := { kind := .addressConflict, subject := 0x61, repeats := 1 }, overflow := false, generation := 0 }] ∧
    t.bridgeCounter .conflicts = 1 ∧ t.faultAsserted = true ∧ (t.branch .b1).slot = none ∧
    t.record 0 = some
      { key := { requester := 0xF8, station := 0x61, tag := 4 }, urgent := false, window := 40, request := none
        mode := .probe { phase := .settling, pending := true, set := emptySet } } := by decide +kernel

/-- 10.5: the trunk fault. -/
def trunkFaultBefore : State :=
  let ex := fun (n : BitVec 4) (r : Option BufId) (m : Mode) => (some
    { key := { requester := 0xF8, station := 0x20, tag := n }, urgent := false, window := 20, request := r, mode := m } : Option Exchange)
  let dir := fun (p : BranchId) (ph : DirectPhase) => Mode.direct
    { phase := ph, port := p, viaLearned := false, retries := 0, attempts := 1 }
  let refusal : RefusalItem := { requester := 0xF8, station := 0x20, tag := 1, urgent := false, reason := .timeout }
  { plain.setLive .p0 { Live.fresh 0 with tx := .backoff { item := .trunk (.refusalReturn 1 refusal), contentions := 1 } } with
    records := [ex 0 none (dir .b1 .returning), ex 1 none (dir .b1 .returning), ex 2 (some 1) (dir .b2 .awaiting),
      ex 3 none (.probe { phase := .settling, pending := true, set := { b1 := false, b2 := false, b3 := true } }),
      ex 4 (some 2) (dir .b1 .queued)] ++ List.replicate 11 none
    trunkQueue := [.frameReturn 0 5, .response, .frameReturn 3 9]
    mgmt := { phase := .answering, response := [], restart := false }
    alerts := { list := [], overflow := false, dest := 0xF8, offered := false } }

theorem test_trunk_fault_example :
    let t := after (exec (.stuckLine (strapsKept (4 * charTime 6)) .p0 7) trunkFaultBefore)
    t.record 0 = none ∧ t.record 1 = none ∧ t.record 2 = trunkFaultBefore.record 2 ∧
    t.record 4 = trunkFaultBefore.record 4 ∧ (exchangeStateCode (t.record 3)) = 6 ∧
    t.trunkQueue = [] ∧ t.mgmt.phase = .idle ∧ t.bridgeCounter .returnsLost = 3 ∧ t.portCounter .p0 .faults = 1 ∧
    t.portCounter .p0 .abandoned = 0 ∧ t.faultAsserted = true ∧
    t.alerts = { list := [{ kind := .portFault, subject := 0, repeats := 1 }], overflow := false, dest := 0xF8, offered := false } := by
  decide +kernel

/-! ### States and operands that meet the premises: steps, formats, the station table -/

theorem test_step_premises : State.reset.pending = [] ∧ step State.reset = .next State.reset := ⟨rfl, rfl⟩

theorem test_altered_octet_premises : (0x00 : Octet) ≠ 0x01 ∧ check [0x00] ≠ check [0x01] := by decide +kernel

/-- Two matching entries of different specificity, and two of equal specificity. -/
def entryA : Entry := { base := 0x10, mask := 0xF0, action := .block }
def entryB : Entry := { base := 0x12, mask := 0xFF, action := .onTrunk }

theorem test_loaded_premises :
    let t := { plain.table with active := [some entryA, some entryB] }
    let u := { plain.table with active := [some entryA, some entryA] }
    (t.active[1]? = some (some entryB) ∧ (0x12 : Octet) &&& entryB.mask = entryB.base ∧
      (∀ (j : Nat) (f : Entry), t.active[j]? = some (some f) → (0x12 : Octet) &&& f.mask = f.base →
        maskBits f.mask < maskBits entryB.mask ∨ (maskBits f.mask = maskBits entryB.mask ∧ 1 ≤ j))) ∧
    (u.active[0]? = some (some entryA) ∧ (0x12 : Octet) &&& entryA.mask = entryA.base ∧
      (∀ (j : Nat) (f : Entry), u.active[j]? = some (some f) → (0x12 : Octet) &&& f.mask = f.base →
        maskBits f.mask < maskBits entryA.mask ∨ (maskBits f.mask = maskBits entryA.mask ∧ 0 ≤ j))) := by
  refine ⟨⟨rfl, by decide, ?_⟩, ⟨rfl, by decide, ?_⟩⟩
  · intro j f hj _
    match j, hj with
    | 0, hj => cases hj; decide
    | 1, hj => cases hj; decide
    | n + 2, hj => cases hj
  · intro j f hj _
    match j, hj with
    | 0, hj => cases hj; decide
    | 1, hj => cases hj; decide
    | n + 2, hj => cases hj

theorem test_learned_step_premises :
    let e : Learned := { addr := 0x90, port := .b2, mark := .valid 0 }
    let l : List (Option Learned) := [none, some e]
    (∀ f, some f ∈ l → f.addr ≠ 0x91) ∧ some e ∈ l ∧ (∀ f, some f ∈ l → f.addr = 0x90 → f = e) := by
  refine ⟨?_, by decide, ?_⟩ <;> intro f hf <;> simp at hf <;> subst hf <;> simp

theorem test_teach_premises :
    let e : Learned := { addr := 0x90, port := .b2, mark := .valid 2 }
    let c : Learned := { addr := 0x91, port := .b2, mark := .conflict .b3 }
    ([some e, none, some c] : List (Option Learned)).Pairwise differentAddress ∧
    covers [some entryA] 0x1F = true ∧ covers [some entryA] 0x20 = false ∧
    (∀ f, some f ∈ [some e, none] → f.addr ≠ 0x20) ∧ ([some e, none] : List (Option Learned))[1]? = some none ∧
    none ∉ ([some e, some c] : List (Option Learned)) ∧ (([some e, some c] : List (Option Learned))[0]?).bind ageAt = some 2 ∧
    (∀ (j best : Nat), (([some e, some c] : List (Option Learned))[j]?).bind ageAt = some best → best < 2 ∨ (best = 2 ∧ 0 ≤ j)) ∧
    (∀ o, o ∈ ([some c] : List (Option Learned)) → ageAt o = none) := by
  refine ⟨?_, by decide, by decide, ?_, rfl, by decide, rfl, ?_, ?_⟩
  · refine List.Pairwise.cons ?_ (List.Pairwise.cons ?_ (List.Pairwise.cons ?_ List.Pairwise.nil)) <;>
      intro a ha x y hx hy <;> simp at ha
    · rcases ha with rfl | rfl
      · cases hy
      · cases hx; cases hy; decide
    · subst ha; cases hx
  · intro f hf; simp at hf; subst hf; decide
  · intro j best h
    match j, h with
    | 0, h => cases h; decide
    | 1, h => cases h
    | n + 2, h => cases h
  · intro o ho; simp at ho; subst ho; rfl

/-! ### Management requests -/

theorem test_request_premises :
    plain.UnitFree (hdr 1) ∧ (hdr 1).len = 1 ∧ plain.UnitFree (hdr 2) ∧ (hdr 2).len = 2 ∧
    plain.UnitFree (hdr 3) ∧ (hdr 3).len = 3 ∧ plain.UnitFree (hdr 6) ∧ plain.UnitFree (hdr 7) ∧ plain.UnitFree (hdr 9) :=
  ⟨plain_free 1, rfl, plain_free 2, rfl, plain_free 3, rfl, plain_free 6, plain_free 7, plain_free 9⟩

theorem test_readStatus_premises :
    plain.records.length = 16 ∧ (after (exec (.readStatus 0 (hdr 1)) plain)).mgmt.response.length = 25 := by decide +kernel

theorem test_readPort_premises :
    3 < (4 : Octet).toNat ∧ portNumber .p3 = 3 ∧ portNumber .p0 = 0 ∧ 1 < (2 : Octet).toNat ∧ (1 : Octet).toNat ≤ 1 ∧
    (after (exec (.readPort 0 (hdr 3) 3 1) plain)).mgmt.response.length = 37 := by decide +kernel

theorem test_readBridge_premises :
    1 < (2 : Octet).toNat ∧ (1 : Octet).toNat ≤ 1 ∧
    (after (exec (.readBridge 0 (hdr 2) 1) plain)).mgmt.response.length = 48 := by decide +kernel

theorem test_readExchanges_bounds :
    (after (exec (.readExchanges 0 (hdr 3) 15 1) plain)).mgmt.response.length = 16 ∧
    ((after (exec (.readExchanges 0 (hdr 3) 16 1) plain)).mgmt.response.getD 5 0) = 3 ∧
    ((after (exec (.readExchanges 0 (hdr 3) 0 7) plain)).mgmt.response.getD 5 0) = 4 ∧
    ((after (exec (.readExchanges 0 (hdr 3) 11 6) plain)).mgmt.response.getD 5 0) = 3 := by decide +kernel

theorem test_readLearned_bounds :
    (after (exec (.readLearned 0 (hdr 3) 24 8) plain)).mgmt.response.length = 48 ∧
    ((after (exec (.readLearned 0 (hdr 3) 32 1) plain)).mgmt.response.getD 5 0) = 3 ∧
    ((after (exec (.readLearned 0 (hdr 3) 0 9) plain)).mgmt.response.getD 5 0) = 4 ∧
    ((after (exec (.readLearned 0 (hdr 3) 25 8) plain)).mgmt.response.getD 5 0) = 3 := by decide +kernel

theorem test_writeEntry_premises :
    63 < (64 : Octet).toNat ∧ (63 : Octet).toNat ≤ 63 ∧ 1 < (2 : Octet).toNat ∧
    entryRefused 0xF0 0xF0 2 0 0 0 ∧ entryRefused 0xF0 0xF8 1 0 1 0 ∧ entryRefused 0xF0 0xF8 1 3 1 4 ∧
    ¬ entryRefused 0xF0 0xF8 2 4 0 4 ∧ ¬ entryRefused 0x01 0xFF 3 4 0 4 ∧ ¬ entryRefused 0xF7 0xFF 1 3 1 3 ∧
    branchNumber .b3 = 3 ∧ (3 : Fin 4).val = (3 : Octet).toNat := by
  refine ⟨by decide, by decide, by decide, ?_, ?_, ?_, ?_, ?_, ?_, rfl, rfl⟩ <;> (unfold entryRefused; decide)

theorem test_commit_premises : (1 : Word) ≠ plain.table.generation ∧ (0 : Word) = plain.table.generation := by decide

/-- A unit that copies since instant 0. -/
def copying (job : CopyJob) : State := { plain with mgmt := { plain.mgmt with phase := .working (hdr 3) job 0 } }

theorem test_copy_premises :
    (copying .commit).mgmt.phase = .working (hdr 3) .commit 0 ∧ (copying .commit).mgmt.restart = false ∧
    (copying .commit).now + timeUnit ≤ 0 + timeUnit ∧ (copying .prepare).admits .response = true ∧
    ((copying .prepare).setLine .p0 (.fault 0)).isActive .p0 = false := by decide

theorem test_setPort_premises :
    3 < (4 : Octet).toNat ∧ branchNumber .b1 = 1 ∧ (plain.port .p1).line ≠ .disabled ∧
    ((plain.setLine .p3 .disabled).port (branchPort .b3)).line = .disabled ∧
    (plain.setLine .p3 .disabled).UnitFree (hdr 7) ∧
    ((after (exec (.setPort 0 (hdr 7) 3 7 15 1 1 1) (plain.setLine .p3 .disabled))).port .p3).guard = 15 :=
  ⟨by decide, by decide, by decide, by decide, free_of rfl rfl rfl rfl, by decide +kernel⟩

theorem test_portControl_premises :
    portNumber .p0 = 0 ∧ ((plain.setLine .p3 .disabled).port (branchPort .b3)).line = .disabled ∧
    ((plain.setLine .p3 (.fault 0)).port (branchPort .b3)).line = .fault 0 ∧
    (plain.setLine .p3 .disabled).UnitFree (hdr 3) ∧ (plain.setLine .p3 (.fault 0)).UnitFree (hdr 3) :=
  ⟨rfl, rfl, rfl, free_of rfl rfl rfl rfl, free_of rfl rfl rfl rfl⟩

/-- A DIRECT exchange queued on branch 1, and one record free. -/
def queued0 : State :=
  (exchanging (direct0 .queued 0)).setQueue .b1 [{ kind := .request 0, urgent := false, buf := 1 }]

theorem test_teardown_premises :
    queued0.UnitFree (hdr 3) ∧ queued0.UnitFree (hdr 1) ∧ (queued0.port (branchPort .b1)).line = .active (.fresh 0) ∧
    queued0.records.length = 16 ∧ queued0.pool.buffers.length = 48 ∧
    classCount queued0.trunkQueue .exchange +
      (queued0.refusalsFor (fun d => decide (d.port = .b1) && d.onBranch) .portDown).length = 1 ∧
    (after (exec (.portControlDisable 0 (hdr 3) 1) queued0)).trunkQueue =
      [.refusalReturn 0 { requester := 0xF8, station := 0x12, tag := 0, urgent := false, reason := .portDown }, .response] ∧
    (after (exec (.flush 0 (hdr 1)) queued0)).trunkQueue =
      [.refusalReturn 0 { requester := 0xF8, station := 0x12, tag := 0, urgent := false, reason := .flushed }, .response] :=
  ⟨free_of rfl rfl rfl rfl, free_of rfl rfl rfl rfl, rfl, rfl, rfl, by decide +kernel, by decide +kernel, by decide +kernel⟩

/-- Branch 1 sends the request of record 0, which is queued and holds its slot. -/
def sendingRequest : State :=
  sending (slotted (direct0 .queued 0) .request none) .p1 (.branch { kind := .request 0, urgent := false, buf := 1 }) 0

/-- R121: the character in progress is completed, also where the port is enabled and disabled again meanwhile. -/
theorem test_teardown_leaves_character :
    let t := after (exec (.portControlDisable 100 (hdr 3) 1) sendingRequest)
    let again := after (exec (.portControlDisable 10 (hdr 3) 1)
      { after (exec (.portControlEnable 10 (hdr 3) 1) { t with mgmt := plain.mgmt }) with mgmt := plain.mgmt })
    (t.port .p1).tail = some { since := 0, frame := request0, rate := 6, stop := charTime 6 } ∧
    t.driverEnabled .p1 = true ∧ (again.port .p1).tail = (t.port .p1).tail ∧ again.driverEnabled .p1 = true ∧
    (again.advance (charTime 6)).driverEnabled .p1 = false := by decide +kernel

/-- R67: a PROBING exchange whose last branch is torn down is a probe miss, and its buffer is released. -/
theorem test_teardown_counts_probe_misses :
    let s := slotted (probe0 .probing false) .probe (some 0)
    let t := after (exec (.portControlDisable 0 (hdr 3) 1) s)
    s.missesWithout .b1 = 1 ∧ s.heldThrough .b1 (.fresh 0) 1 = 1 ∧ t.bridgeCounter .probeMisses = 1 ∧
    t.pool.free = s.pool.free ++ [1] := by decide +kernel

def listedAlert : AlertEntry := { kind := .portFault, subject := 1, repeats := 1 }

/-- An entry is listed, and no destination is set. -/
def alerting (s : State) : State := { s with alerts := { s.alerts with list := [listedAlert] } }

theorem test_setBridge_premises :
    (alerting plain).UnitFree (hdr 6) ∧ (alerting plain).alerts.list = listedAlert :: [] ∧ (0xF8 : Octet) ≠ 0 ∧
    (alerting plain).alerts.offered = false ∧ classCount (alerting plain).trunkQueue .alert = 0 ∧
    plain.alerts.list = [] ∧ plain.ownAddress = 0xF1 ∧ (3 : Fin 4).val = (3 : Octet).toNat ∧
    ¬ (1 < (1 : Octet).toNat ∨ (1 : Octet) = 0 ∨ 3 < (3 : Octet).toNat ∨ (0xF8 : Octet) = (alerting plain).ownAddress) :=
  ⟨free_of rfl rfl rfl rfl, rfl, by decide, rfl, rfl, rfl, by decide, rfl, by decide⟩

/-- P0 sends the response of a RESTART. -/
def restarting (contentions : Nat) : State :=
  sending { plain with mgmt := { phase := .answering, response := [0xF8, 0xF1, 0x52, 2, 0x10, 0], restart := true } } .p0
    (.trunk .response) contentions

theorem test_restart_premises :
    let s := restarting 7
    let l := Live.fresh 0
    let q : State := { plain with mgmt := s.mgmt, trunkQueue := [.response] }
    s.live? .p0 = some { l with tx := .send { item := .trunk .response, contentions := 7 } 0 (s.itemFrame (.trunk .response)) } ∧
    s.mgmt.restart = true ∧ (s.itemFrame (.trunk .response)).length = 8 ∧
    0 + 8 * s.charTime .p0 ≤ s.now + 8 * charTime 6 ∧ 7 ≤ 7 ∧
    s.ReadsOther .p0 0 (s.itemFrame (.trunk .response)) (.unqualified 0) oneChar ∧
    .response ∈ q.trunkQueue ∧ q.live? .p0 = some l ∧ q.LowLongEnough .p0 l (4 * charTime 6) :=
  ⟨by decide +kernel, rfl, by decide +kernel, by decide, by decide, readsOther_unqualified (by decide +kernel) (by decide), by decide,
    rfl, by unfold State.LowLongEnough; decide⟩

/-- R172: the reset after a RESTART samples the straps again. -/
theorem test_restart_samples_straps :
    let moved : Straps := { addr := 5, start := false, rate := 1 }
    let t := after (exec (.transmissionComplete { dt := 8 * charTime 6, straps := moved } .p0) (restarting 0))
    t.ownAddress = 0xF5 ∧ t.strapPins = moved ∧ (t.port .p0).rate = 3 ∧ (t.port .p1).line = .disabled := by decide +kernel

theorem test_form_premises :
    plain.UnitFree (hdr 0) ∧ (hdr 0).len = 0 ∧ plain.UnitFree (hdr 2) ∧ (hdr 2).len ≠ 0 ∧ (hdr 2).len ≠ 1 ∧
    requestOf (.identify 0 (hdr 2)) = some (0, hdr 2, 0x01) ∧ ((0x01, 1) : Octet × Octet) ∈ lenTable ∧
    ((0x00 : Octet) = 0 ∨ 0x10 < (0x00 : Octet).toNat) ∧ 0x10 < (0x11 : Octet).toNat :=
  ⟨plain_free 0, rfl, plain_free 2, by decide, by decide, rfl, by decide, by decide, by decide⟩

/-- The unit waits for its response to be sent. -/
def answering : State := { plain with mgmt := { plain.mgmt with phase := .answering }, trunkQueue := [.response] }

def busyRefusal : RefusalItem := { requester := 0xF8, station := 0xF1, tag := 5, urgent := false, reason := .busy }

theorem test_busy_premises :
    requestOf (.flush 0 (hdr 1)) = some (0, hdr 1, 0x0F) ∧ answering.hears .p0 = true ∧
    answering.validSource (hdr 1) = true ∧ answering.mgmt.phase ≠ .idle ∧
    (∀ r, .busy r ∉ answering.trunkQueue) ∧ classCount answering.trunkQueue .management < 2 ∧
    (∃ r, .busy r ∈ ({ answering with trunkQueue := [.response, .busy busyRefusal] } : State).trunkQueue) ∧
    (after (exec (.flush 0 (hdr 1)) answering)).trunkQueue = [.response, .busy busyRefusal] ∧
    (after (exec (.badOperation 0 (hdr 1) 0x11) answering)).trunkQueue = [.response, .busy busyRefusal] ∧
    ((hdr 0).len = 0 ∨ (0x11 : Octet) = 0 ∨ 0x10 < (0x11 : Octet).toNat) := by
  refine ⟨rfl, rfl, rfl, by decide, ?_, by decide, ⟨busyRefusal, by decide⟩, by decide +kernel, by decide +kernel, by decide⟩
  intro r h
  simp [answering] at h

/-! ### Receivers -/

theorem test_marked_premises :
    let few := { plain with pool := { plain.pool with free := [7, 8] } }
    let one := { plain with pool := { plain.pool with free := [7] } }
    plain.Hears .p0 (.fresh 0) oneChar ∧ (Live.fresh 0).rx = .hunt ∧ plain.pool.buffers.length = 48 ∧
    (few.pool.free = 7 :: [8] ∧ 1 ≤ few.pool.free.length ∧ ([8] : List BufId) ≠ []) ∧
    (one.pool.free = 7 :: [] ∧ 1 ≤ one.pool.free.length ∧ one.pool.armed = true) ∧
    (few.Hears .p0 (.fresh 0) oneChar ∧ few.pool.free.length < 9) ∧
    (after (exec (.markedCharacter oneChar .p1 5) one)).alerts.list = [{ kind := .poolEmpty, subject := 0, repeats := 1 }] := by
  unfold State.Hears State.Listens; decide +kernel

theorem test_marked_in_progress_premises :
    ((holding plain .p0 [1, 2]).Hears .p0 collecting oneChar ∧ collecting.rx = .collect 0) ∧
    ((plain.setRx .p0 (.fresh 0) (.discard 1 none)).Hears .p0 { Live.fresh 0 with rx := .discard 1 none } oneChar) := by
  unfold State.Hears State.Listens; decide +kernel

theorem test_marker0_premises :
    ((holding plain .p0 [1, 2, 3]).Hears .p0 collecting oneChar ∧ (holding plain .p0 [1, 2, 3]).pool.buffers.length = 48 ∧
      ((holding plain .p0 [1, 2, 3]).octets 0).length = 3 ∧ 56 < (57 : Octet).toNat ∧
      ¬ (((holding plain .p0 [1, 2, 3]).octets 0 ++ [56]).length = 4 ∧ 56 < (56 : Octet).toNat)) ∧
    ¬ (4 < [1, 2, 3, (56 : Octet)].length ∧ [1, 2, 3, (56 : Octet)].length = (([1, 2, 3, 56] : List Octet).getD 3 0).toNat + 6) ∧
    (plain.Hears .p0 (.fresh 0) oneChar ∧ (Live.fresh 0).rx = .hunt) ∧
    ((plain.setRx .p1 (.fresh 0) (.discard 2 none)).Hears .p1 { Live.fresh 0 with rx := .discard 2 none } oneChar) ∧
    ((plain.setRx .p1 (.fresh 0) (.discard 3 none)).Hears .p1 { Live.fresh 0 with rx := .discard 3 none } oneChar ∧
      (56 : Octet).toNat ≤ 56) ∧
    ((plain.setRx .p1 (.fresh 0) (.discard 4 (some 0))).Hears .p1 { Live.fresh 0 with rx := .discard 4 (some 0) } oneChar ∧
      4 + 1 ≠ (0 : Octet).toNat + 6) ∧
    ((plain.setRx .p1 (.fresh 0) (.discard 61 (some 56))).Hears .p1 { Live.fresh 0 with rx := .discard 61 (some 56) } oneChar ∧
      61 + 1 = (56 : Octet).toNat + 6) := by
  unfold State.Hears State.Listens; decide +kernel

/-- A malformed frame: its SRC is its DEST. -/
def malformed0 : List Octet := frame 0x12 0x12 0x01 []

/-- A frame with a bad check. -/
def spoiled0 : List Octet := [0x12, 0xF8, 0x01, 0, 0, 0]

theorem test_frameEnd_premises :
    ((nearEnd plain .p0 spoiled0).Hears .p0 collecting oneChar ∧ (nearEnd plain .p0 spoiled0).pool.buffers.length = 48 ∧
      ((nearEnd plain .p0 spoiled0).octets 0 ++ [lastOf spoiled0]).length =
        (((nearEnd plain .p0 spoiled0).octets 0 ++ [lastOf spoiled0]).getD 3 0).toNat + 6 ∧
      goodCheck ((nearEnd plain .p0 spoiled0).octets 0 ++ [lastOf spoiled0]) = false) ∧
    ((nearEnd plain .p2 malformed0).GoodFrameEnds oneChar .p2 collecting 0 (lastOf malformed0) (frameOf malformed0) ∧
      (frameOf malformed0).malformed = true) ∧
    ((nearEnd plain .p2 request0).GoodFrameEnds oneChar .p2 collecting 0 (lastOf request0) (frameOf request0) ∧
      (frameOf request0).malformed = false) := by
  unfold State.GoodFrameEnds State.Hears State.Listens; decide +kernel

/-- P0 collects on a line that stays low until the instant 90 000, after a framing error. -/
def lowLine : State := plain.setLive .p0 { Live.fresh 0 with idleFrom := 90000, highFrom := 90000, rx := .discard 4 (some 9) }

theorem test_early_end_premises :
    ((holding plain .p0 [1, 2]).Hears .p0 collecting oneChar ∧ collecting.rx = .collect 0 ∧
      (collecting.busy || false) = false ∧ (collecting.busy || true) = true) ∧
    collecting.idleFrom + 2 * plain.charTime .p0 < plain.now + (2 * charTime 6 + 1) ∧
    plain.now + 2 * charTime 6 ≤ collecting.idleFrom + 2 * plain.charTime .p0 ∧
    lowLine.Listens .p0 { Live.fresh 0 with idleFrom := 90000, highFrom := 90000, rx := .discard 4 (some 9) } ∧
    lowLine.now + 90000 < 90000 + lowLine.sampleTime .p0 := by
  unfold State.Hears State.Listens; decide +kernel

/-- R113, R124: a start bit qualified before the gap expires keeps the frame alive, and a character that would have
begun on a line still low is not taken. -/
theorem test_busy_line :
    let s := holding plain .p0 [1, 2]
    let kept := after (exec (.gapExpiry (midCharacter (3 * charTime 6)) .p0) s)
    kept.octets 0 = [1, 2] ∧ kept.portCounter .p0 .truncated = 0 ∧
    (after (exec (.gapExpiry (quiet 0) .p0) kept)).portCounter .p0 .truncated = 0 ∧
    (after (exec (.gapExpiry (quiet (3 * charTime 6)) .p0) s)).portCounter .p0 .truncated = 1 ∧
    (after (exec (.markedCharacter 90000 .p0 1) lowLine)).portCounter .p0 .nobufDrops = 0 ∧
    ((after (exec (.markedCharacter 90000 .p0 1) lowLine)).live? .p0).map (·.rx) = some (.discard 4 (some 9)) := by
  decide +kernel

/-! ### Frames that end on the trunk -/

/-- A frame to the trunk port of the given state, all but its last octet. -/
abbrev TrunkEnd (s : State) (f : List Octet) : Prop :=
  (nearEnd s .p0 f).GoodFrameEnds oneChar .p0 collecting 0 (lastOf f) (frameOf f) ∧ (frameOf f).malformed = false

/-- A management request to 0xF1 with the given payload. -/
def toUnit (payload : List Octet) : List Octet := frame 0xF1 0xF8 0x01 payload

theorem test_unit_frame_premises :
    (TrunkEnd plain (toUnit []) ∧ (frameOf (toUnit [])).payload = [] ∧ (frameOf (toUnit [])).kind = .request ∧
      (frameOf (toUnit [])).dest = plain.ownAddress) ∧
    (TrunkEnd plain (toUnit [0x07, 2]) ∧ (frameOf (toUnit [0x07, 2])).payload = [0x07, 2]) ∧
    (TrunkEnd plain (toUnit [0x0A, 2, 0]) ∧ (frameOf (toUnit [0x0A, 2, 0])).payload = [0x0A, 2, 0]) ∧
    (TrunkEnd plain (toUnit [0x0D, 3, 2]) ∧ (frameOf (toUnit [0x0D, 3, 2])).payload = [0x0D, 3, 2]) ∧
    (TrunkEnd plain (toUnit [0x11]) ∧ (frameOf (toUnit [0x11])).payload ≠ [] ∧ 0x10 < ((0x11 : Octet)).toNat) ∧
    (after (exec (.frameEnd oneChar .p0 (lastOf (toUnit [0x0D, 4, 2]))) (nearEnd plain .p0 (toUnit [0x0D, 4, 2])))).mgmt.response =
      [0xF8, 0xF1, 0x02, 2, 0x0D, 3] := by
  unfold TrunkEnd State.GoodFrameEnds State.Hears State.Listens; decide +kernel

theorem test_unit_frame_free_premises :
    ((State.atFrameEnd (nearEnd plain .p0 (toUnit [0x07, 2])) oneChar .p0 collecting 0 (lastOf (toUnit [0x07, 2]))).release 0).UnitFree
      { src := 0xF8, tag := 0, urgent := false, len := 2 } := by
  unfold State.UnitFree; decide +kernel

theorem test_ignored_premises :
    (TrunkEnd plain (frame 0xF8 0xF9 0x02 []) ∧ 0xF8 ≤ (frameOf (frame 0xF8 0xF9 0x02 [])).dest.toNat) ∧
    (TrunkEnd plain (frame 0xF1 0xF9 0x03 []) ∧ (frameOf (frame 0xF1 0xF9 0x03 [])).kind ≠ .request) ∧
    (TrunkEnd plain (frame 0xF7 0xF9 0x02 []) ∧ (frameOf (frame 0xF7 0xF9 0x02 [])).ToStation plain.ownAddress) ∧
    (TrunkEnd (loaded plain .onTrunk) request0 ∧ (loaded plain .onTrunk).resolve 0x12 = .onTrunk) ∧
    (TrunkEnd (loaded plain .block) (frame 0x12 0xF8 0x00 []) ∧ (loaded plain .block).resolve 0x12 = .block) := by
  unfold TrunkEnd State.GoodFrameEnds State.Hears State.Listens Frame.ToStation; decide +kernel

theorem test_notice_premises :
    (TrunkEnd plain (frame 0xFF 0xF8 0x08 []) ∧ (frameOf (frame 0xFF 0xF8 0x08 [])).kind = .notice ∧
      (frameOf (frame 0xFF 0xF8 0x08 [])).dest = 0xFF) ∧
    (TrunkEnd forwarding (frame 0x1F 0xF8 0x00 []) ∧
      (nearEnd forwarding .p0 (frame 0x1F 0xF8 0x00 [])).resolve 0x1F = .forward .b1 20 1 false) ∧
    (TrunkEnd plain (frame 0x1F 0xF8 0x00 []) ∧ (nearEnd plain .p0 (frame 0x1F 0xF8 0x00 [])).resolve 0x1F = .probe) ∧
    ((nearEnd plain .p0 (frame 0xFF 0xF8 0x08 [])).pool.buffer 0).refs = 1 ∧
    (after (exec (.frameEnd oneChar .p0 (lastOf (frame 0xFF 0xF8 0x08 []))) (nearEnd plain .p0 (frame 0xFF 0xF8 0x08 [])))).pool.buffer 0 =
      { octets := frame 0xFF 0xF8 0x08 [], refs := 3 } := by
  unfold TrunkEnd State.GoodFrameEnds State.Hears State.Listens; decide +kernel

theorem test_notice_queues_premise : (nearEnd plain .p0 request0).BranchQueuesSound :=
  queuesSound_of_empty (fun b => by cases b <;> rfl)

theorem test_forwarded_premises :
    TrunkEnd forwarding request0 ∧ (frameOf request0).ToStation forwarding.ownAddress ∧ (frameOf request0).kind = .request ∧
    (nearEnd forwarding .p0 request0).resolve (frameOf request0).dest = .forward .b1 20 1 false ∧
    (nearEnd forwarding .p0 request0).isActive .p1 = true ∧
    ((nearEnd forwarding .p0 request0).branch .b1).queue.length < 8 := by
  unfold TrunkEnd State.GoodFrameEnds State.Hears State.Listens Frame.ToStation; decide +kernel

theorem test_opening_record_premises :
    (nearEnd forwarding .p0 request0).KeyFree key0 ∧ (nearEnd forwarding .p0 request0).LowestFree 0 ∧
    QueueSound ((nearEnd forwarding .p0 request0).branch .b1).queue :=
  ⟨keyFree_of_noRecords rfl _, lowestFree_of_noRecords rfl, emptyQueueSound⟩

/-- Every record in use, by exchanges of other keys. -/
def full : State := { forwarding with records := allSlots.map (fun x => some
  { key := { requester := 0xF9, station := 0x12, tag := BitVec.ofNat 4 x.val }, urgent := false, window := 20
    request := none, mode := (direct0 .returning 1).mode }) }

/-- A branch queue without room. -/
def crowded : State :=
  forwarding.setQueue .b1 (List.replicate 8 { kind := .notice, urgent := false, buf := 2 })

theorem test_refused_premises :
    (TrunkEnd ({ forwarding with records := (exchanging (direct0 .queued 0)).records }) request0 ∧
      (exchanging (direct0 .queued 0)).record 0 = some (direct0 .queued 0) ∧ (direct0 .queued 0).key = key0) ∧
    (TrunkEnd (loaded plain .block) request0 ∧ classCount (loaded plain .block).trunkQueue .immediate < 4) ∧
    (TrunkEnd full request0 ∧ (∀ x, full.record x ≠ none)) ∧
    (TrunkEnd crowded request0 ∧ 8 ≤ (crowded.branch .b1).queue.length ∧ crowded.record 0 = none) ∧
    (TrunkEnd (forwarding.setLine .p1 .disabled) request0 ∧ (forwarding.setLine .p1 .disabled).isActive .p1 = false) ∧
    4 ≤ classCount (List.replicate 4 (.immediate busyRefusal)) .immediate := by
  unfold TrunkEnd State.GoodFrameEnds State.Hears State.Listens; decide +kernel

theorem test_refused_outcomes :
    (after (exec (.frameEnd oneChar .p0 (lastOf request0)) (nearEnd full .p0 request0))).bridgeCounter (.refusals .noExchange) = 1 ∧
    (after (exec (.frameEnd oneChar .p0 (lastOf request0)) (nearEnd crowded .p0 request0))).bridgeCounter (.refusals .queueFull) = 1 ∧
    (after (exec (.frameEnd oneChar .p0 (lastOf request0)) (nearEnd (forwarding.setLine .p1 .disabled) .p0 request0))).bridgeCounter
      (.refusals .portDown) = 1 := by decide +kernel

theorem test_refused_key_premises : (nearEnd full .p0 request0).KeyFree key0 ∧ (nearEnd crowded .p0 request0).KeyFree key0 := by
  refine ⟨⟨rfl, ?_⟩, keyFree_of_noRecords rfl _⟩
  intro x e h
  have : ∀ x : SlotNo, ((nearEnd full .p0 request0).record x).map (fun e => decide (e.key = key0)) = some false := by
    decide +kernel
  have hx := this x
  rw [h] at hx
  simpa using hx

theorem test_probe_premises :
    TrunkEnd plain request0 ∧ (nearEnd plain .p0 request0).resolve (frameOf request0).dest = .probe ∧
    countBranches (fun q => (nearEnd plain .p0 request0).isActive (branchPort q) &&
      ((nearEnd plain .p0 request0).branch q).probeMember &&
      decide (((nearEnd plain .p0 request0).branch q).queue.length < 8)) = 3 := by
  unfold TrunkEnd State.GoodFrameEnds State.Hears State.Listens; decide +kernel

theorem test_probe_record_premises :
    (nearEnd plain .p0 request0).KeyFree key0 ∧ (nearEnd plain .p0 request0).LowestFree 0 :=
  ⟨keyFree_of_noRecords rfl _, lowestFree_of_noRecords rfl⟩

theorem test_probe_skipped :
    let s := nearEnd (((plain.setLine .p1 .disabled).setLine .p2 .disabled).setLine .p3 (.fault 0)) .p0 request0
    (after (exec (.frameEnd oneChar .p0 (lastOf request0)) s)).bridgeCounter .probesSkipped = 1 := by decide +kernel

/-! ### Frames that end on a branch -/

/-- The answer of 0x12 to 0xF8 with tag 0. -/
def answer0 : List Octet := frame 0xF8 0x12 0x02 []

/-- A frame to port P1 of the given state, all but its last octet. -/
abbrev BranchEnd (s : State) (f : List Octet) : Prop :=
  (nearEnd s .p1 f).GoodFrameEnds oneChar .p1 collecting 0 (lastOf f) (frameOf f) ∧ (frameOf f).malformed = false

theorem test_answer_premises :
    (let s := nearEnd (slotted (direct0 .awaiting 1) .request (some 0)) .p1 answer0
     BranchEnd (slotted (direct0 .awaiting 1) .request (some 0)) answer0 ∧ (frameOf answer0).kind = .response ∧
      s.record 0 = some (direct0 .awaiting 1) ∧ (direct0 .awaiting 1).key = (frameOf answer0).answerKey ∧
      (s.branch .b1).slot = some { exch := 0, kind := .request, deadline := some 0 } ∧
      s.admits (.frameReturn 0 0) = true ∧ (s.setLine .p0 (.fault 0)).isActive .p0 = false) ∧
    (let s := nearEnd repeating0 .p1 answer0
     BranchEnd repeating0 answer0 ∧ s.record 0 = some (direct0 .repeating 1) ∧ (s.branch .b1).slot = none ∧
      (s.branch .b1).holder = some 0 ∧ (s.branch .b1).lastTimedOut = some (key0, 0)) := by
  unfold BranchEnd State.GoodFrameEnds State.Hears State.Listens; decide +kernel

/-- Record 0 is queued again after its window expired. -/
def requeued : State := queued0.setLastTimedOut .b1 (some (key0, 0))

theorem test_unanswering_premises :
    (BranchEnd plain (frame 0xF8 0x12 0x00 []) ∧ (frameOf (frame 0xF8 0x12 0x00 [])).kind = .notice) ∧
    (BranchEnd plain answer0 ∧ (plain.branch .b1).lastTimedOut = none) ∧
    (BranchEnd requeued answer0 ∧ (requeued.branch .b1).lastTimedOut = some (key0, 0) ∧
      (requeued.record 0).map (·.key) = some key0) ∧
    (BranchEnd (plain.setLastTimedOut .b1 (some (key0, 0))) answer0 ∧ plain.record 0 = none) ∧
    (after (exec (.frameEnd oneChar .p1 (lastOf answer0)) (nearEnd requeued .p1 answer0))).portCounter .p1 .late = 1 ∧
    (after (exec (.frameEnd oneChar .p1 (lastOf answer0)) (nearEnd requeued .p1 answer0))).portCounter .p1 .unsolicited = 1 := by
  unfold BranchEnd State.GoodFrameEnds State.Hears State.Listens; decide +kernel

theorem test_unanswering_slot_premises :
    (nearEnd plain .p1 answer0).SlotSilent .b1 key0 ∧ (nearEnd requeued .p1 answer0).SlotSilent .b1 key0 ∧
    (nearEnd (slotted (direct0 .queued 0) .request none) .p1 answer0).SlotSilent .b1 key0 := by
  refine ⟨fun sl e h => ?_, fun sl e h => ?_, fun sl e h he => ?_⟩
  · cases h
  · cases h
  · cases h
    cases he
    exact Or.inr (by show DirectPhase.queued ≠ DirectPhase.awaiting; decide)

theorem test_first_answer_premises :
    let s := nearEnd (slotted (probe0 .probing false) .probe (some 0)) .p1 answer0
    BranchEnd (slotted (probe0 .probing false) .probe (some 0)) answer0 ∧ (frameOf answer0).kind = .response ∧
    (s.branch .b1).slot = some { exch := 0, kind := .probe, deadline := some 0 } ∧
    s.record 0 = some (probe0 .probing false) ∧ (probe0 .probing false).key = (frameOf answer0).answerKey ∧
    s.admits (.frameReturn 0 0) = true ∧ (s.setLine .p0 (.fault 0)).isActive .p0 = false ∧
    (after (exec (.frameEnd oneChar .p1 (lastOf answer0)) s)).table.learned[0]? =
      some (some { addr := 0x12, port := .b1, mark := .valid 0 }) ∧
    (after (exec (.frameEnd oneChar .p1 (lastOf answer0)) s)).pool.free = s.pool.free ++ [1] ∧
    (after (exec (.frameEnd oneChar .p1 (lastOf answer0)) (s.setLine .p0 (.fault 0)))).pool.free = s.pool.free ++ [1, 0] := by
  unfold BranchEnd State.GoodFrameEnds State.Hears State.Listens; decide +kernel

theorem test_further_answer_premises :
    let s := nearEnd (slotted (probe0 .settling true) .probe (some 0)) .p1 answer0
    BranchEnd (slotted (probe0 .settling true) .probe (some 0)) answer0 ∧
    (s.branch .b1).slot = some { exch := 0, kind := .probe, deadline := some 0 } ∧
    s.record 0 = some (probe0 .settling true) ∧ (probe0 .settling true).key = (frameOf answer0).answerKey := by
  unfold BranchEnd State.GoodFrameEnds State.Hears State.Listens; decide +kernel

/-! ### Lines -/

theorem test_stuck_branch_premises :
    let down := queued0.setLine .p0 (.fault 0)
    queued0.live? .p1 = some (.fresh 0) ∧ queued0.LowLongEnough .p1 (.fresh 0) (4 * charTime 6) ∧
    ¬ queued0.LowLongEnough .p1 (.fresh 0) (4 * charTime 6 - 1) ∧
    queued0.records.length = 16 ∧ queued0.pool.buffers.length = 48 ∧ queued0.isActive .p0 = true ∧
    classCount queued0.trunkQueue .exchange +
      (queued0.refusalsFor (fun d => decide (d.port = .b1) && d.onBranch) .portDown).length ≤ 16 ∧
    (after (exec (.stuckLine (strapsKept (4 * charTime 6)) .p1 0) queued0)).bridgeCounter (.refusals .portDown) = 1 ∧
    down.live? .p1 = some (.fresh 0) ∧ down.isActive .p0 = false ∧
    (after (exec (.stuckLine (strapsKept (4 * charTime 6)) .p1 0) down)).bridgeCounter .returnsLost = 1 ∧
    (after (exec (.stuckLine (strapsKept (4 * charTime 6)) .p1 0) down)).record 0 = none := by
  unfold State.LowLongEnough; decide +kernel

/-- The request of record 0 as an item that branch 1 sends. -/
def reqItem : TxItem := .branch { kind := .request 0, urgent := false, buf := 1 }

/-- What the detection of a stuck line on P1 at the instant `t` leaves: P1 in FAULT or not. -/
def detects (t : Nat) (u : State) : Bool := (after (exec (.stuckLine (strapsKept (t - u.now)) .p1 0) u)).inFault .p1

/-- R118: the detection counts from the latest known high. In SEND that is the stop bit of a character that was
read back as it was sent, and nothing on the line before the end of the first character. -/
theorem test_stuck_line_needs_low :
    let s := plain.setLive .p1 { Live.fresh 0 with idleFrom := 50000, highFrom := 50000 }
    let c : Current := { item := reqItem, contentions := 0 }
    let u := fun since => filled.setLive .p1 { Live.fresh 0 with tx := .send c since request0 }
    detects (4 * charTime 6) s = true ∧ detects (4 * charTime 6 + 20000) s = false ∧
    detects (50000 + 4 * charTime 6) s = true ∧
    detects (4 * charTime 6) (u 0) = false ∧ detects (4 * charTime 6) (u (2 * charTime 6)) = false ∧
    detects (4 * charTime 6) (u (3 * charTime 6 + 100)) = true ∧
    ((after (exec (.stuckLine (strapsKept (4 * charTime 6)) .p1 0) (u (3 * charTime 6 + 100)))).port .p1).tail =
      some { since := 3 * charTime 6 + 100, frame := request0, rate := 6, stop := 4 * charTime 6 + 100 } := by decide +kernel

/-- R117, R118: a line held low since the enabling is detected 4 character times later, whatever the contention in
between, and not before; a bit of the contended character that was read high starts the timer again. -/
theorem test_stuck_line_through_backoff :
    let s := filled.setLive .p1 { Live.fresh 0 with
      tx := .send { item := reqItem, contentions := 0 } (2 * charTime 6) request0 }
    let heldLow := fun back => after (exec (.contention (strapsKept (3 * charTime 6)) .p1 back) s)
    let low := 10 * charTime 6
    detects (4 * charTime 6) (heldLow (.unqualified low)) = true ∧
    detects (4 * charTime 6 - 1) (heldLow (.unqualified low)) = false ∧
    detects (4 * charTime 6) (heldLow (.lowStop 0 false low)) = true ∧
    detects (4 * charTime 6 - 1) (heldLow (.lowStop 0 false low)) = false ∧
    detects (6 * charTime 6) (heldLow (.lowStop 0x12 false low)) = false ∧
    detects (7 * charTime 6) (heldLow (.lowStop 0x12 false low)) = true ∧
    detects (6 * charTime 6) (heldLow (.good 0x13 true)) = false ∧
    detects (7 * charTime 6) (heldLow (.good 0x13 true)) = true := by decide +kernel

theorem test_fault_premises :
    let s := plain.setLine .p0 (.fault 0)
    let b := plain.setLine .p2 (.fault 0)
    let listening := fun u : State => { u with alerts := { u.alerts with dest := 0xF8 } }
    (s.port .p0).line = .fault 0 ∧ s.now + (32 * charTime 6 - 1) < 0 + 32 * s.charTime .p0 ∧
    0 + 32 * s.charTime .p0 ≤ s.now + 32 * charTime 6 ∧ s.alerts.dest = 0 ∧
    s.now + 399 < 0 + bitTime (s.port .p0).rate / 2 ∧ 0 + bitTime (s.port .p0).rate / 2 ≤ s.now + 400 ∧
    (let d := listening s
     (d.port .p0).line = .fault 0 ∧ d.alerts.dest ≠ 0 ∧ d.alerts.offered = false ∧ d.trunkQueue = [] ∧
      (∃ e, (d.alerts.add .portRecovered 0).list.head? = some e)) ∧
    (let d := listening b
     (d.port .p2).line = .fault 0 ∧ PortId.p2 ≠ .p0 ∧ d.isActive .p0 = true ∧ d.alerts.dest ≠ 0 ∧
      d.alerts.offered = false ∧ d.alerts.list = [] ∧ classCount d.trunkQueue .alert = 0) ∧
    (let d := listening (b.setLine .p0 (.fault 0))
     (d.port .p2).line = .fault 0 ∧ PortId.p2 ≠ .p0 ∧ d.isActive .p0 = false ∧ d.alerts.dest ≠ 0) :=
  ⟨rfl, by decide, by decide, rfl, by decide, by decide, ⟨rfl, by decide, rfl, rfl, ⟨_, rfl⟩⟩, ⟨rfl, by decide, rfl, by decide, rfl, rfl, rfl⟩,
    ⟨rfl, by decide, rfl, by decide⟩⟩

/-- R119: on a line known to be low until an instant, no restart comes before half a bit time of high line and low, and
the recovery comes 32 character times after the latest return to high. -/
theorem test_recovery_counts_high_line :
    let s := plain.setLine .p2 (.fault 50000)
    let restarted := fun (dt low : Nat) => after (exec (.recoveryTimerRestart dt .p2 low) s)
    let recovered := fun (dt : Nat) (u : State) => (after (exec (.recovery dt .p2) u)).isActive .p2
    ((restarted 1000 0).port .p2).line = .fault 50000 ∧ ((restarted 50399 0).port .p2).line = .fault 50000 ∧
    ((restarted 50400 600).port .p2).line = .fault 51000 ∧
    recovered (49000 + 32 * charTime 6 - 1) (restarted 1000 0) = false ∧
    recovered (49000 + 32 * charTime 6) (restarted 1000 0) = true ∧
    recovered (600 + 32 * charTime 6 - 1) (restarted 50400 600) = false ∧
    recovered (600 + 32 * charTime 6) (restarted 50400 600) = true := by decide +kernel

theorem test_listed_alert_premises :
    let e : AlertEntry := { kind := .poolEmpty, subject := 0, repeats := 255 }
    ([listedAlert, e].Pairwise differentAlert) ∧ [listedAlert, e][1]? = some e ∧
    (∀ x, x ∈ [listedAlert] → ¬ (x.kind = .poolEmpty ∧ x.subject = 0)) ∧ [listedAlert].length < 8 ∧
    8 ≤ (List.replicate 8 listedAlert).length := by
  refine ⟨?_, rfl, ?_, by decide, by decide⟩
  · refine List.Pairwise.cons ?_ (List.Pairwise.cons (by simp) List.Pairwise.nil)
    intro a ha
    simp at ha
    subst ha
    exact Or.inl (by decide)
  · intro x hx
    simp at hx
    subst hx
    decide

/-! ### Transmitters -/

/-- The pins of O47: a port in SEND, a port with the rest of a character of an earlier teardown, a silent port. -/
theorem test_pin_premises :
    let late := sendingRequest.advance (charTime 6 + 300)
    let torn := (plain.setPort .p1 { plain.port .p1 with
      tail := some { since := 0, frame := request0, rate := 6, stop := charTime 6 } }).advance 300
    let done := torn.advance (charTime 6)
    (late.live? .p1 = some { Live.fresh 0 with
        tx := .send { item := .branch { kind := .request 0, urgent := false, buf := 1 }, contentions := 0 } 0 request0 } ∧
      request0[1]? = some 0xF8 ∧ 0 + (11 * 1 + 0) * bitTime 6 ≤ late.now ∧ late.now < 0 + (11 * 1 + 0 + 1) * bitTime 6 ∧
      late.transmitPin .p1 = false) ∧
    (torn.live? .p1 = some (.fresh 0) ∧ torn.now < charTime 6 ∧ torn.driverEnabled .p1 = true) ∧
    (done.live? .p1 = some (.fresh 0) ∧ charTime 6 ≤ done.now ∧ done.driverEnabled .p1 = false ∧
      done.transmitPin .p1 = true) := by decide +kernel

theorem test_take_premises :
    (let s := { plain with trunkQueue := [.response] }
     s.live? .p0 = some (.fresh 0) ∧ (Live.fresh 0).tx = .idle ∧ (Live.fresh 0).rx = .hunt ∧ s.trunkQueue = .response :: [] ∧
      s.now + (4 * charTime 6 - 1) < (Live.fresh 0).idleFrom + (s.port .p0).guard.toNat * s.charTime .p0 ∧
      ¬ (s.now + 4 * charTime 6 < (Live.fresh 0).idleFrom + (s.port .p0).guard.toNat * s.charTime .p0) ∧
      ((Live.fresh 0).busy || false) = false ∧ ((Live.fresh 0).busy || true) = true) ∧
    (queued0.live? .p1 = some (.fresh 0) ∧ (queued0.branch .b1).slot = none ∧ (queued0.branch .b1).holder = none ∧
      (queued0.branch .b1).queue = { kind := .request 0, urgent := false, buf := 1 } :: []) ∧
    (repeating0.live? .p1 = some (.fresh 0) ∧ (repeating0.branch .b1).slot = none ∧ (repeating0.branch .b1).holder = some 0 ∧
      repeating0.record 0 = some (direct0 .repeating 1) ∧ (direct0 .repeating 1).request = some 1) ∧
    ((slotted (direct0 .awaiting 1) .request (some 0)).branch .b1).slot ≠ none ∧
    (sending plain .p0 (.trunk .response) 0).live? .p0 ≠ some (.fresh 0) := by decide +kernel

/-- R132: an item taken while a character is in progress waits in DEFER; R129: a taking that sends at once ends the frame
that another talker has paused in, under a guard of 1. -/
theorem test_take_ends_in_defer_or_send :
    let s := { plain with trunkQueue := [.response] }
    let u := ({ filled with trunkQueue := [.passUp 1] }.setPort .p0 { filled.port .p0 with guard := 1 })
    let v := holding u .p0 [1, 2]
    ((after (exec (.takeItem (midCharacter (4 * charTime 6)) .p0) s)).live? .p0).map (·.tx) =
      some (.defer { item := .trunk .response, contentions := 0 }) ∧
    ((after (exec (.takeItem (quiet (4 * charTime 6)) .p0) s)).live? .p0).map (fun l => l.tx.sending?.isSome) = some true ∧
    (after (exec (.takeItem (quiet (charTime 6)) .p0) v)).portCounter .p0 .truncated = 1 ∧
    (after (exec (.takeItem (quiet (charTime 6)) .p0) v)).driverEnabled .p0 = true := by decide +kernel

/-- Port P0 waits with a management response as its current item. -/
def waiting0 (back : Bool) (rx : Rx) : State :=
  plain.setLive .p0 { Live.fresh 0 with
    rx := rx
    tx := if back then .backoff { item := .trunk .response, contentions := 1 }
      else .defer { item := .trunk .response, contentions := 0 } }

theorem test_wait_premises :
    ((waiting0 false .hunt).live? .p0 =
        some { Live.fresh 0 with tx := .defer { item := .trunk .response, contentions := 0 } } ∧
      (plain.port .p0).guard.toNat = 4 ∧ 0 + 4 * plain.charTime .p0 ≤ plain.now + 4 * charTime 6 ∧
      plain.now + (4 * charTime 6 - 1) < 0 + 4 * plain.charTime .p0) ∧
    ((waiting0 true (.collect 0)).live? .p0 =
        some { Live.fresh 0 with rx := .collect 0, tx := .backoff { item := .trunk .response, contentions := 1 } } ∧
      (plain.port .p0).guard.toNat + 1 + plain.addr.toNat = 6 ∧ 0 + 6 * plain.charTime .p0 ≤ plain.now + 6 * charTime 6) := by
  decide +kernel

theorem test_wait_ends_in_send :
    (after (exec (.deferWaitEnd (quiet (4 * charTime 6)) .p0) (waiting0 false .hunt))).driverEnabled .p0 = true ∧
    (after (exec (.deferWaitEnd (quiet (4 * charTime 6 - 1)) .p0) (waiting0 false .hunt))).driverEnabled .p0 = false ∧
    (after (exec (.deferWaitEnd (midCharacter (4 * charTime 6)) .p0) (waiting0 false .hunt))).driverEnabled .p0 = false := by decide +kernel

/-- The other items of the claims on the end of a transmission, each with a state it is sent in. -/
def probeItem : TxItem := .branch { kind := .probe 0, urgent := false, buf := 1 }
def noticeItem : TxItem := .branch { kind := .notice, urgent := false, buf := 1 }
def returnItem : TxItem := .trunk (.refusalReturn 0 { busyRefusal with reason := .timeout })
def alertItem0 : AlertItem := { dest := 0xF8, entry := listedAlert, overflow := false, generation := 0 }

theorem test_contention_premises :
    let s := sending filled .p1 noticeItem 6
    s.live? .p1 = some { Live.fresh 0 with tx := .send { item := noticeItem, contentions := 6 } 0 (s.itemFrame noticeItem) } ∧
    s.ReadsOther .p1 0 (s.itemFrame noticeItem) (.unqualified 0) oneChar ∧ 6 < 7 ∧
    (after (exec (.contention (strapsKept oneChar) .p1 (.unqualified 0)) s)).portCounter .p1 .contentions = 1 :=
  ⟨by decide +kernel, readsOther_unqualified (by decide +kernel) (by decide), by decide, by decide +kernel⟩

/-- R134: no contention inside a character, nor after the frame, nor where the character is read back as it was sent; and
one where the octet, the marker or the stop bit differs. -/
theorem test_contention_compares :
    let s := sending filled .p1 noticeItem 0
    let found := fun (dt : Nat) (back : ReadBack) =>
      (after (exec (.contention (strapsKept dt) .p1 back) s)).portCounter .p1 .contentions
    found (charTime 6 + 1) (.unqualified 0) = 0 ∧ found (7 * charTime 6) (.unqualified 0) = 0 ∧ found 0 (.unqualified 0) = 0 ∧
    found (charTime 6) (.good 0x12 true) = 0 ∧ found (2 * charTime 6) (.good 0xF8 false) = 0 ∧
    found (charTime 6) (.good 0x13 true) = 1 ∧ found (charTime 6) (.good 0x12 false) = 1 ∧
    found (2 * charTime 6) (.lowStop 0xF8 false 0) = 1 ∧ found (6 * charTime 6) (.unqualified 0) = 1 := by decide +kernel

theorem test_no_contention_premise :
    let s := sending filled .p1 noticeItem 0
    ¬ s.ReadsOther .p1 0 (s.itemFrame noticeItem) (.unqualified 0) 1 := by
  intro s
  rintro ⟨k, o, -, ht, -⟩
  have : (0 : Nat) + 1 = 0 + (k + 1) * 8800 := ht
  omega

/-- What works in a port that sends the item since instant 0. -/
def sendingLive (s : State) (i : TxItem) (n : Nat) : Live :=
  { Live.fresh 0 with tx := .send { item := i, contentions := n } 0 (s.itemFrame i) }

/-- The port sends the item in the state: its 8th contention can come at the end of one character, and its completion at
the end of the frame. -/
abbrev Sends (s : State) (p : PortId) (i : TxItem) : Prop :=
  (sending s p i 7).live? p = some (sendingLive s i 7) ∧ 0 < (s.itemFrame i).length ∧
  (sending s p i 7).now + oneChar = 0 + (0 + 1) * (sending s p i 7).charTime p ∧
  0 + (s.itemFrame i).length * (sending s p i 7).charTime p ≤ (sending s p i 7).now + (s.itemFrame i).length * charTime 6

theorem test_sending_reads_other {s : State} {p : PortId} {i : TxItem} (h : Sends s p i) :
    (sending s p i 7).ReadsOther p 0 (s.itemFrame i) (.unqualified 0) oneChar := readsOther_unqualified h.2.1 h.2.2.1

theorem test_transmission_end_premises :
    Sends filled .p1 noticeItem ∧ Sends plain .p0 (.trunk (.busy busyRefusal)) ∧ Sends filled .p0 (.trunk (.passUp 1)) ∧
    (Sends filled .p1 reqItem ∧ filled.slotHeldBy .b1 0 .request = false) ∧
    (Sends (slotted (direct0 .queued 0) .request none) .p1 reqItem ∧
      (slotted (direct0 .queued 0) .request none).slotHeldBy .b1 0 .request = true ∧
      (slotted (direct0 .queued 0) .request none).record 0 = some (direct0 .queued 0) ∧
      (sending (slotted (direct0 .queued 0) .request none) .p1 reqItem 7).admits
        (.refusalReturn 0 { requester := 0xF8, station := 0x12, tag := 0, urgent := false, reason := .contention }) = true ∧
      ((sending (slotted (direct0 .queued 0) .request none) .p1 reqItem 7).setLine .p0 (.fault 0)).isActive .p0 = false) ∧
    (Sends (slotted (probe0 .probing false) .probe none) .p1 probeItem ∧
      (slotted (probe0 .probing false) .probe none).slotHeldBy .b1 0 .probe = true ∧
      (slotted (probe0 .probing false) .probe none).record 0 = some (probe0 .probing false)) ∧
    (Sends (exchanging (direct0 .returning 1)) .p0 returnItem ∧
      (exchanging (direct0 .returning 1)).record 0 = some (direct0 .returning 1)) ∧
    (Sends answering .p0 (.trunk .response) ∧ answering.mgmt.restart = false) ∧
    (Sends (alerting plain) .p0 (.trunk (.alert alertItem0)) ∧ (alerting plain).alerts.list = listedAlert :: []) := by
  decide +kernel

theorem test_abandonment :
    let s := slotted (probe0 .probing false) .probe none
    (after (exec (.contention (strapsKept (charTime 6)) .p1 (.unqualified 0))
      (sending s .p1 probeItem 7))).bridgeCounter .probeMisses = 1 ∧
    (after (exec (.contention (strapsKept (charTime 6)) .p0 (.unqualified 0))
      (sending (exchanging (direct0 .returning 1)) .p0 returnItem 7))).bridgeCounter .returnsLost = 1 := by decide +kernel

theorem test_completion :
    let s := slotted (direct0 .queued 0) .request none
    let n := (s.itemFrame reqItem).length * charTime 6
    ((after (exec (.transmissionComplete (strapsKept n) .p1) (sending s .p1 reqItem 0))).branch .b1).slot =
      some { exch := 0, kind := .request, deadline := some n } ∧
    (after (exec (.transmissionComplete (strapsKept (8 * charTime 6)) .p0)
      (sending (exchanging (direct0 .returning 1)) .p0 returnItem 0))).record 0 = none := by decide +kernel

/-! ### Timed events -/

theorem test_window_premises :
    let s := slotted (direct0 .awaiting 1) .request (some 0)
    let u := slotted (direct0 .awaiting 2) .request (some 0)
    (s.branch .b1).slot = some { exch := 0, kind := .request, deadline := some 0 } ∧
    s.record 0 = some (direct0 .awaiting 1) ∧ u.record 0 = some (direct0 .awaiting 2) ∧
    (0 + 20 * timeUnit ≤ s.now + 20 * timeUnit ∧ s.now + (21 * timeUnit - 1) < 0 + (20 + 1) * timeUnit) ∧
    ¬ (0 + 20 * timeUnit ≤ s.now + (20 * timeUnit - 1)) ∧ ¬ (s.now + 21 * timeUnit < 0 + (20 + 1) * timeUnit) ∧
    u.admits (.refusalReturn 0 { requester := 0xF8, station := 0x12, tag := 0, urgent := false, reason := .timeout }) = true ∧
    (u.setLine .p0 (.fault 0)).isActive .p0 = false ∧
    ((after (exec (.windowExpiry (20 * timeUnit) .b1) s)).branch .b1).holder = some 0 ∧
    (after (exec (.windowExpiry (21 * timeUnit - 1) .b1) u)).bridgeCounter (.refusals .timeout) = 1 := by decide +kernel

theorem test_probe_window_premises :
    let s := slotted (probe0 .probing false) .probe (some 0)
    let u := slotted (probe0 .settling true) .probe (some 0)
    (s.branch .b1).slot = some { exch := 0, kind := .probe, deadline := some 0 } ∧
    s.record 0 = some (probe0 .probing false) ∧ u.record 0 = some (probe0 .settling true) ∧
    (after (exec (.probeWindowExpiry (20 * timeUnit) .b1) s)).bridgeCounter .probeMisses = 1 := by decide +kernel

theorem test_ageing_premises :
    plain.table.ageing ≠ 0 ∧ plain.table.ageingFrom + plain.table.ageing.toNat * second ≤ plain.now + 60 * second ∧
    plain.now + (60 * second - 1) < plain.table.ageingFrom + plain.table.ageing.toNat * second ∧
    (after (exec (.ageingExpiry (60 * second))
      (plain.setLearned [some { addr := 0x10, port := .b1, mark := .valid 3 }, some { addr := 0x11, port := .b1, mark := .valid 2 },
        some { addr := 0x12, port := .b1, mark := .conflict .b2 }]))).table.learned =
      [none, some { addr := 0x11, port := .b1, mark := .valid 3 }, some { addr := 0x12, port := .b1, mark := .conflict .b2 }] := by
  decide +kernel

/-! ### Invariants -/

/-- A part with one waiting command, for the premises of the invariants. -/
def waitingCommand : State := { plain with pending := [.takeItem (quiet 0) .p0] }

theorem test_invariant_table_premises :
    waitingCommand.BanksSound ∧ waitingCommand.LearnedSound ∧ waitingCommand.KeysDistinct ∧
    step waitingCommand = .next { plain with now := 0 } := by
  refine ⟨⟨⟨rfl, ?_⟩, ⟨rfl, ?_⟩⟩, ⟨rfl, ?_, ?_⟩, ⟨rfl, ?_⟩, rfl⟩
  · intro e h; exact absurd (List.eq_of_mem_replicate h) (by simp)
  · intro e h; exact absurd (List.eq_of_mem_replicate h) (by simp)
  · exact List.pairwise_replicate.mpr (Or.inr (fun x y hx => by cases hx))
  · intro e h; exact absurd (List.eq_of_mem_replicate h) (by simp)
  · exact List.pairwise_replicate.mpr (Or.inr (fun x y hx => by cases hx))

theorem test_invariant_queue_premises : waitingCommand.BranchQueuesSound ∧ waitingCommand.TrunkQueueSound := by
  refine ⟨queuesSound_of_empty (fun b => by cases b <;> rfl), by decide, fun c => by cases c <;> decide, by decide, by decide, ?_⟩
  intro h
  exact absurd h (by decide)

theorem test_invariant_unit_premises :
    waitingCommand.TrunkPortSound ∧ waitingCommand.UnitSound ∧ waitingCommand.OfferSound ∧ waitingCommand.AlertsSound ∧
    waitingCommand.OfferDue := by
  have hb : waitingCommand.BranchesSendBranch := fun b => by cases b <;> rfl
  exact ⟨⟨by decide, rfl⟩, ⟨hb, by decide, by decide⟩, ⟨hb, by decide, by decide⟩, ⟨by decide, List.Pairwise.nil⟩,
    fun h => absurd rfl h⟩

theorem test_invariant_engine_premises : waitingCommand.EngineSound ∧ waitingCommand.PoolSound := by
  refine ⟨⟨rfl, fun b => by cases b <;> rfl, fun x => ?_, fun b => ?_⟩, ?_, rfl, rfl, by decide +kernel, ?_, ?_⟩
  · unfold State.RecordSound
    rw [noRecords rfl x]
    refine ⟨fun b k => ?_, fun b => ?_, ?_⟩
    · cases b <;> cases k <;> exact ⟨rfl, rfl⟩
    · intro h; cases b <;> cases h
    · rfl
  · cases b <;> exact ⟨trivial, by decide, by decide⟩
  · intro p l h hs
    cases p <;> (cases h; rfl)
  · decide +kernel
  · decide +kernel

theorem test_stuck_trunk_premises :
    waitingCommand.live? .p0 = some (.fresh 0) ∧ waitingCommand.LowLongEnough .p0 (.fresh 0) (4 * charTime 6) ∧
    ¬ waitingCommand.LowLongEnough .p0 (.fresh 0) (4 * charTime 6 - 1) ∧
    waitingCommand.mgmt.restart = false ∧ waitingCommand.EngineSound ∧ waitingCommand.UnitSound ∧ waitingCommand.OfferSound :=
  ⟨rfl, by unfold State.LowLongEnough; decide, by unfold State.LowLongEnough; decide, rfl,
    test_invariant_engine_premises.1, test_invariant_unit_premises.2.1,
    test_invariant_unit_premises.2.2.1⟩

end Sys2Proof.Tests
end

section
/-! PROOFS. The management operations of the station table: WRITE-ENTRY (R2, R163). -/

namespace Sys2Proof.Machine

/-! ### Octets that name a branch (R149) -/

@[simp] theorem branchOfOctet_branchNumber (b : BranchId) : branchOfOctet (branchNumber b) = some b := by
  cases b <;> rfl

theorem branchOfOctet_eq_none_iff (port : Octet) :
    branchOfOctet port = none ↔ port.toNat < 1 ∨ 3 < port.toNat := by
  have hcases : port = 0 ∨ port = 1 ∨ port = 2 ∨ port = 3 ∨ 3 < port.toNat := by bv_omega
  rcases hcases with rfl | rfl | rfl | rfl | hbig
  · decide
  · decide
  · decide
  · decide
  · have h0 : port ≠ 0 := by rintro rfl; simp at hbig
    have h1 : port ≠ 1 := by rintro rfl; simp at hbig
    have h2 : port ≠ 2 := by rintro rfl; simp at hbig
    have h3 : port ≠ 3 := by rintro rfl; simp at hbig
    simp only [branchOfOctet, portOfOctet, if_neg h0, if_neg h1, if_neg h2, if_neg h3, Option.bind_none, hbig, or_true]

/-! ### The entry that a WRITE-ENTRY carries (R2) -/

theorem actionOf_local (port window retries : Octet) : actionOf 2 port window retries = some .onTrunk := rfl

theorem actionOf_block (port window retries : Octet) : actionOf 3 port window retries = some .block := rfl

theorem actionOf_forward {window retries : Octet} {r : Fin 4} (b : BranchId) (hw : window ≠ 0)
    (hr : r.val = retries.toNat) : actionOf 1 (branchNumber b) window retries = some (.forward b window r) := by
  have hlt : retries.toNat < 4 := hr ▸ r.isLt
  have hfin : (⟨retries.toNat, hlt⟩ : Fin 4) = r := Fin.ext hr.symm
  simp only [actionOf, ↓reduceIte, branchOfOctet_branchNumber, if_neg hw, dif_pos hlt, hfin]

/-- A FORWARD action is refused for its port, its window or its retries. -/
theorem actionOf_forward_eq_none_iff (port window retries : Octet) :
    actionOf 1 port window retries = none ↔
      port.toNat < 1 ∨ 3 < port.toNat ∨ window = 0 ∨ 3 < retries.toNat := by
  rw [← or_assoc, ← branchOfOctet_eq_none_iff]
  cases hb : branchOfOctet port with
  | none => simp only [actionOf, ↓reduceIte, hb, true_or]
  | some b =>
    by_cases hw : window = 0
    · simp only [actionOf, ↓reduceIte, hb, hw, true_or, or_true]
    · by_cases hr : retries.toNat < 4
      · simp only [actionOf, ↓reduceIte, hb, dif_pos hr, hw, reduceCtorEq, false_or, false_iff]
        omega
      · simp only [actionOf, ↓reduceIte, hb, if_neg hw, dif_neg hr, true_iff]
        omega

theorem actionOf_of_other {action : Octet} (h1 : action ≠ 1) (h2 : action ≠ 2) (h3 : action ≠ 3)
    (port window retries : Octet) : actionOf action port window retries = none := by
  rw [actionOf, if_neg h1, if_neg h2, if_neg h3]

theorem actionOf_eq_none_iff (action port window retries : Octet) :
    actionOf action port window retries = none ↔
      (action ≠ 1 ∧ action ≠ 2 ∧ action ≠ 3) ∨
      (action = 1 ∧ (port.toNat < 1 ∨ 3 < port.toNat ∨ window = 0 ∨ 3 < retries.toNat)) := by
  by_cases h1 : action = 1
  · subst h1
    rw [actionOf_forward_eq_none_iff]
    exact ⟨fun hbad => .inr ⟨rfl, hbad⟩, fun h => h.elim (fun h => absurd rfl h.1) And.right⟩
  · by_cases h2 : action = 2
    · subst h2
      rw [actionOf_local]
      simp
    · by_cases h3 : action = 3
      · subst h3
        rw [actionOf_block]
        simp
      · simp only [actionOf_of_other h1 h2 h3, ne_eq, h1, h2, h3, not_false_eq_true, and_self, true_or]

/-- A WRITE-ENTRY with valid flag 1 carries no entry exactly where R2 step 3 refuses it. -/
theorem entryOf_eq_none_iff (base mask action port window retries : Octet) :
    entryOf base mask action port window retries = none ↔ entryRefused base mask action port window retries := by
  unfold entryOf entryRefused
  rw [← actionOf_eq_none_iff]
  split_ifs with hbase hlow hhigh htop
  · exact iff_of_true rfl (.inl hbase)
  · exact iff_of_true rfl (.inr (.inl hlow))
  · exact iff_of_true rfl (.inr (.inr (.inl hhigh)))
  · exact iff_of_true rfl (.inr (.inr (.inr (.inl htop))))
  · simp only [Option.map_eq_none_iff, hbase, hlow, hhigh, htop, false_or]

theorem entryOf_of_not_refused {base mask action port window retries : Octet} {a : Action}
    (hr : ¬ entryRefused base mask action port window retries) (ha : actionOf action port window retries = some a) :
    entryOf base mask action port window retries = some { base := base, mask := mask, action := a } := by
  unfold entryRefused at hr
  push Not at hr
  obtain ⟨hbase, hlow, hhigh, htop, -⟩ := hr
  rw [entryOf, if_neg (not_not.mpr hbase), if_neg (Nat.not_lt.mpr hlow), if_neg (Nat.not_lt.mpr hhigh),
    if_neg (Nat.not_lt.mpr htop), ha, Option.map_some]

/-- An entry that is not refused as FORWARD has a window (R2). -/
theorem window_ne_zero_of_not_refused {base mask port window retries : Octet}
    (hr : ¬ entryRefused base mask 1 port window retries) : window ≠ 0 := by
  rintro rfl
  exact hr (by simp [entryRefused])

/-! ### Requests of the right length, and responses beside a change of the table -/

/-- A request whose LEN is the one of its code passes the checks of its form (R153). -/
theorem State.withLen_of_len {h : Header} {code : Octet} (h0 : h.len ≠ 0) (hl : h.len = requestLen code) (s : State)
    (op : State → State) : s.withLen h code op = op s := by
  rw [State.withLen, if_neg h0, if_pos hl]

/-- An accepted request that changes the station table, and is answered. -/
theorem State.respond_table_of_free {s : State} {h : Header} (hu : s.UnitFree h) (dt : Nat) (T : Table) (code : Octet)
    (status : Status) (data : List Octet) :
    State.respond { s.advance dt with table := T } h code status data =
      { s.answered dt h code status.code data with table := T } := by
  have ha : State.admits { s.advance dt with table := T } .response = true := hu.2.2.2
  rw [State.respond_of_admits h code status data ha]
  rfl

/-! ### WRITE-ENTRY in the order of its checks (R2, R163) -/

section WriteEntry

variable {h : Header} {index valid base mask action port window retries : Octet} {s : State}

/-- The entry is written and the response carries the index. -/
theorem State.respond_writeShadow_of_free (hu : s.UnitFree h) (dt : Nat) (index : Octet) (e : Option Entry) :
    ((s.advance dt).writeShadow index e).respond h 0x06 .ok [index] =
      { s.answered dt h 0x06 0 [index] with
          table := { s.table with shadow := s.table.shadow.set index.toNat e } } :=
  State.respond_table_of_free hu dt _ 0x06 .ok [index]

theorem State.writeEntry_of_index_high (hl : h.len = 9) (hi : 63 < index.toNat) :
    s.writeEntry h index valid base mask action port window retries = s.respond h 0x06 .badIndex [] := by
  rw [State.writeEntry, State.withLen_of_len (by rw [hl]; decide) hl, if_pos hi]

theorem State.writeEntry_of_flag_high (hl : h.len = 9) (hi : index.toNat ≤ 63) (hv : 1 < valid.toNat) :
    s.writeEntry h index valid base mask action port window retries = s.respond h 0x06 .badValue [] := by
  rw [State.writeEntry, State.withLen_of_len (by rw [hl]; decide) hl, if_neg (Nat.not_lt.mpr hi), if_pos hv]

theorem State.writeEntry_invalid (hl : h.len = 9) (hi : index.toNat ≤ 63) :
    s.writeEntry h index 0 base mask action port window retries =
      (s.writeShadow index none).respond h 0x06 .ok [index] := by
  rw [State.writeEntry, State.withLen_of_len (by rw [hl]; decide) hl, if_neg (Nat.not_lt.mpr hi), if_neg (by decide),
    if_pos rfl]

theorem State.writeEntry_of_entry_refused (hl : h.len = 9) (hi : index.toNat ≤ 63)
    (he : entryOf base mask action port window retries = none) :
    s.writeEntry h index 1 base mask action port window retries = s.respond h 0x06 .badValue [] := by
  rw [State.writeEntry, State.withLen_of_len (by rw [hl]; decide) hl, if_neg (Nat.not_lt.mpr hi), if_neg (by decide),
    if_neg (by decide), he]

theorem State.writeEntry_of_entry {e : Entry} (hl : h.len = 9) (hi : index.toNat ≤ 63)
    (he : entryOf base mask action port window retries = some e) :
    s.writeEntry h index 1 base mask action port window retries =
      (s.writeShadow index (some e)).respond h 0x06 .ok [index] := by
  rw [State.writeEntry, State.withLen_of_len (by rw [hl]; decide) hl, if_neg (Nat.not_lt.mpr hi), if_neg (by decide),
    if_neg (by decide), he]

/-- An accepted WRITE-ENTRY runs at the instant of its arrival. -/
theorem exec_writeEntry_of_free (hu : s.UnitFree h) (dt : Nat) :
    exec (.writeEntry dt h index valid base mask action port window retries) s =
      .next ((s.advance dt).writeEntry h index valid base mask action port window retries) :=
  congrArg Host.Outcome.next (State.requestArrives_of_free hu dt _)

/-- A WRITE-ENTRY whose action R2 permits writes that action with its base and mask. -/
theorem exec_writeEntry_of_action {a : Action} (hu : s.UnitFree h) (hl : h.len = 9) (dt : Nat) (hi : index.toNat ≤ 63)
    (hr : ¬ entryRefused base mask action port window retries) (ha : actionOf action port window retries = some a) :
    exec (.writeEntry dt h index 1 base mask action port window retries) s =
      .next { s.answered dt h 0x06 0 [index] with
        table := { s.table with
          shadow := s.table.shadow.set index.toNat (some { base := base, mask := mask, action := a }) } } := by
  rw [exec_writeEntry_of_free hu, State.writeEntry_of_entry hl hi (entryOf_of_not_refused hr ha),
    State.respond_writeShadow_of_free hu]

end WriteEntry

/-- Settles O13: each check of R2 and R163 in its order decides one outcome of WRITE-ENTRY. -/
theorem writeEntryReplacesShadowEntry : Obligations.WriteEntryReplacesShadowEntry := by
  unfold Obligations.WriteEntryReplacesShadowEntry
  intro dt h index valid base mask action port window retries s hu hl run written
  have hrun : run = .next ((s.advance dt).writeEntry h index valid base mask action port window retries) :=
    exec_writeEntry_of_free hu dt
  refine ⟨?badIndex, ?badFlag, ?invalid, ?badEntry, ?valid⟩
  case badIndex =>
    intro hi
    rw [hrun, State.writeEntry_of_index_high hl hi, State.respond_of_free hu]
    rfl
  case badFlag =>
    intro hi hv
    rw [hrun, State.writeEntry_of_flag_high hl hi hv, State.respond_of_free hu]
    rfl
  case invalid =>
    rintro hi rfl
    rw [hrun, State.writeEntry_invalid hl hi, State.respond_writeShadow_of_free hu]
  case badEntry =>
    rintro hi rfl hr
    rw [hrun, State.writeEntry_of_entry_refused hl hi ((entryOf_eq_none_iff ..).mpr hr), State.respond_of_free hu]
    rfl
  case valid =>
    rintro hi rfl hr
    refine ⟨?onTrunk, ?block, ?forward⟩
    case onTrunk =>
      rintro rfl
      exact exec_writeEntry_of_action hu hl dt hi hr (actionOf_local ..)
    case block =>
      rintro rfl
      exact exec_writeEntry_of_action hu hl dt hi hr (actionOf_block ..)
    case forward =>
      rintro b r rfl rfl hretries
      exact exec_writeEntry_of_action hu hl dt hi hr (actionOf_forward b (window_ne_zero_of_not_refused hr) hretries)

end Sys2Proof.Machine
end

section
/-! PROOFS. Frames that end on a branch and answer a DIRECT exchange, or none (R37 to R42, R89, R90). -/

namespace Sys2Proof.Machine

/-! ### The case of R37 that a frame falls under -/

theorem Frame.isAnswer_iff (f : Frame) : f.isAnswer = true ↔ f.kind = .response ∨ f.kind = .refusal := by
  simp [Frame.isAnswer]

section AnswerCases

variable {s : State} {p : BranchId} {f : Frame} {x : SlotNo} {e : Exchange} {d : Direct}

/-- A frame of a kind that answers nothing is unsolicited (R37 case 1). -/
theorem State.answerCase_of_not_answer (h : f.isAnswer = false) : s.answerCase p f = .unsolicited := by
  rw [State.answerCase, if_neg (by simp [h])]

/-- What the slot recognises goes before the last-timed-out record (R37). -/
theorem State.answerCase_of_slotCase {c : AnswerCase} (ha : f.isAnswer = true) (h : s.slotCase p f = some c) :
    s.answerCase p f = c := by
  rw [State.answerCase, if_pos ha, h]

theorem State.answerCase_of_slotCase_none (ha : f.isAnswer = true) (h : s.slotCase p f = none) :
    s.answerCase p f = s.lateCase p f := by
  rw [State.answerCase, if_pos ha, h]

/-- The exchange engine goes by the slots, records and last-timed-out records of before the last octet. -/
theorem State.answerCase_atFrameEnd (s : State) (dt : Nat) (q : PortId) (l : Live) (b : BufId) (o : Octet)
    (p : BranchId) (f : Frame) : (s.atFrameEnd dt q l b o).answerCase p f = s.answerCase p f := rfl

/-! ### The slot (R37 cases 2 and 3) -/

theorem State.slotCase_of_no_slot (h : (s.branch p).slot = none) : s.slotCase p f = none := by
  simp only [State.slotCase, h]

/-- An AWAITING exchange is matched in its slot (R38). -/
theorem State.slotCase_of_awaiting {dl : Option Nat}
    (hs : (s.branch p).slot = some { exch := x, kind := .request, deadline := dl }) (hr : s.record x = some e)
    (hd : e.mode = .direct d) (hph : d.phase = .awaiting) (hk : e.key = f.answerKey) :
    s.slotCase p f = some (.matched x e d) := by
  simp only [State.slotCase, hs, hr, hd, hph, hk, and_self, if_true]

/-- A silent slot leaves the frame to the last-timed-out record. -/
theorem State.slotCase_of_silent (h : s.SlotSilent p f.answerKey) : s.slotCase p f = none := by
  cases hs : (s.branch p).slot with
  | none => exact State.slotCase_of_no_slot hs
  | some sl =>
    cases hr : s.record sl.exch with
    | none => simp only [State.slotCase, hs, hr]
    | some e =>
      have hsilent := h sl e hs hr
      cases hk : sl.kind <;> cases hm : e.mode <;> simp only [State.slotCase, hs, hr, hk, hm] at hsilent ⊢
      case request.direct d =>
        rw [if_neg]
        rintro ⟨hphase, hkey⟩
        exact hsilent.elim (absurd hkey) (absurd hphase)
      case probe.probe q =>
        rw [if_neg]
        rintro ⟨hkey, hruns⟩
        exact hsilent.elim (absurd hkey) (fun hstopped => by simp [hstopped] at hruns)

/-! ### The last-timed-out record (R37 case 4, R41, R42) -/

/-- A frame that does not have the key of the last-timed-out record is unsolicited. -/
theorem State.lateCase_of_other_key (h : ∀ k x, (s.branch p).lastTimedOut = some (k, x) → k ≠ f.answerKey) :
    s.lateCase p f = .unsolicited := by
  cases hl : (s.branch p).lastTimedOut with
  | none => simp only [State.lateCase, hl]
  | some kx => simp only [State.lateCase, hl, if_neg (h kx.1 kx.2 hl)]

/-- A late answer to the exchange in the repeat holder is accepted (R41). -/
theorem State.lateCase_of_repeating (hl : (s.branch p).lastTimedOut = some (f.answerKey, x))
    (hr : s.record x = some e) (hk : e.key = f.answerKey) (hd : e.mode = .direct d) (hph : d.phase = .repeating)
    (hh : (s.branch p).holder = some x) : s.lateCase p f = .lateAccepted x e d := by
  simp only [State.lateCase, hl, hr, hk, hd, hph, hh, and_self, if_true]

/-- A late answer to an exchange that is QUEUED on the branch again is unsolicited as well (R42). -/
theorem State.lateCase_of_queued (hl : (s.branch p).lastTimedOut = some (f.answerKey, x))
    (hr : s.record x = some e) (hk : e.key = f.answerKey) (hd : e.mode = .direct d) (hph : d.phase = .queued)
    (hp : d.port = p) : s.lateCase p f = .lateUnsolicited := by
  simp only [State.lateCase, hl, hr, hk, hd, hph, hp, reduceCtorEq, false_and, and_self, if_true, if_false]

/-- Every other late answer is discarded (R42): the record is FREE or has another key, or its exchange is neither
QUEUED on the branch nor in its repeat holder. -/
theorem State.lateCase_of_over (hl : (s.branch p).lastTimedOut = some (f.answerKey, x))
    (hover : ∀ e d, s.record x = some e → e.key = f.answerKey → e.mode = .direct d →
      ¬ (d.phase = .queued ∧ d.port = p) ∧ ¬ (d.phase = .repeating ∧ (s.branch p).holder = some x)) :
    s.lateCase p f = .lateDiscarded := by
  cases hr : s.record x with
  | none => simp only [State.lateCase, hl, hr, if_true]
  | some e =>
    by_cases hk : e.key = f.answerKey
    · cases hm : e.mode with
      | probe q => simp only [State.lateCase, hl, hr, hk, hm, if_true]
      | direct d =>
        obtain ⟨hqueued, hrepeating⟩ := hover e d hr hk hm
        simp only [State.lateCase, hl, hr, hk, hm, if_true, if_neg hqueued, if_neg hrepeating]
    · simp only [State.lateCase, hl, hr, if_neg hk, if_true]

end AnswerCases

/-! ### The frame at dispatch -/

section BranchFrame

variable {s : State} {p : BranchId} {f : Frame} {x : SlotNo} {e : Exchange} {d : Direct}

theorem State.branchFrame_of_matched (h : s.answerCase p f = .matched x e d) (b : BufId) :
    s.branchFrame p f b = s.matched p x e d f b := by
  rw [State.branchFrame, h]

theorem State.branchFrame_of_lateAccepted (h : s.answerCase p f = .lateAccepted x e d) (b : BufId) :
    s.branchFrame p f b = s.lateAccepted p x e d f b := by
  rw [State.branchFrame, h]

theorem State.branchFrame_of_lateUnsolicited (h : s.answerCase p f = .lateUnsolicited) (b : BufId) :
    s.branchFrame p f b = (s.countPort (branchPort p) .late).unsolicitedFrame p b := by
  rw [State.branchFrame, h]

theorem State.branchFrame_of_lateDiscarded (h : s.answerCase p f = .lateDiscarded) (b : BufId) :
    s.branchFrame p f b = (s.countPort (branchPort p) .late).release b := by
  rw [State.branchFrame, h]

theorem State.branchFrame_of_unsolicited (h : s.answerCase p f = .unsolicited) (b : BufId) :
    s.branchFrame p f b = s.unsolicitedFrame p b := by
  rw [State.branchFrame, h]

end BranchFrame

section BranchFrameEnd

variable {s : State} {dt : Nat} {l : Live} {b : BufId} {o : Octet} {f : Frame}

/-- A good frame that ends on a branch goes to the exchange engine (R88). -/
theorem frameEnd_eq_branchFrame {p : BranchId} (hg : s.GoodFrameEnds dt (branchPort p) l b o f)
    (hm : f.malformed = false) :
    exec (.frameEnd dt (branchPort p) o) s =
      .next ((s.atFrameEnd dt (branchPort p) l b o).branchFrame p f b) := by
  rw [frameEnd_of_wellFormed hg hm, portBranch_branchPort]

/-- The end of a frame leaves every port as ACTIVE as it was. -/
theorem State.GoodFrameEnds.isActive_eq {q : PortId} (hg : s.GoodFrameEnds dt q l b o f) (r : PortId) :
    (s.atFrameEnd dt q l b o).isActive r = s.isActive r := by
  obtain ⟨⟨⟨hlive, -⟩, -⟩, -⟩ := hg
  exact State.isActive_atFrameEnd hlive dt b o r

end BranchFrameEnd

/-! ### Returns (R31, R38, R41) -/

/-- The age refresh changes the learned entries at a RESPONSE of a via-learned exchange, and nothing else (R14). -/
theorem State.refreshFor_eq (s : State) (e : Exchange) (d : Direct) (f : Frame) :
    s.refreshFor e d f =
      { s with table := if d.viaLearned = true ∧ f.kind = .response then
          { s.table with learned := s.table.refresh e.key.station d.port } else s.table } := by
  by_cases h : d.viaLearned = true ∧ f.kind = .response
  · rw [State.refreshFor, if_pos (by simpa using h), if_pos h]
    rfl
  · rw [State.refreshFor, if_neg (by simpa using h), if_neg h]

theorem State.admits_of_trunk_down {s : State} (h : s.isActive .p0 = false) (i : TrunkItem) : s.admits i = false := by
  simp [State.admits, h]

/-- Settles O38: the slot, or else the last-timed-out record with the repeat holder, recognises the frame, and both
paths end in the return of the frame. -/
theorem answerIsReturned : Obligations.AnswerIsReturned := by
  unfold Obligations.AnswerIsReturned
  intro dt q l b o f x e d left s hg hm hkind hr hd hkey hwaits u freed
  have hans : f.isAnswer = true := f.isAnswer_iff.mpr hkind
  have hreturn : u.branchFrame q f b = ((u.setBranch q left).refreshFor e d f).returnFrame x e d b := by
    rcases hwaits with ⟨hphase, ⟨dl, hslot⟩, rfl⟩ | ⟨hphase, hslot, hholder, hlast, rfl⟩
    · have hcase : u.answerCase q f = .matched x e d :=
        (State.answerCase_atFrameEnd ..).trans
          (State.answerCase_of_slotCase hans (State.slotCase_of_awaiting hslot hr hd hphase hkey))
      exact State.branchFrame_of_matched hcase b
    · rw [hkey] at hlast
      have hcase : u.answerCase q f = .lateAccepted x e d :=
        (State.answerCase_atFrameEnd ..).trans
          ((State.answerCase_of_slotCase_none hans (State.slotCase_of_no_slot hslot)).trans
            (State.lateCase_of_repeating hlast hr hkey hd hphase hholder))
      exact State.branchFrame_of_lateAccepted hcase b
  have hadmits : ∀ T i, State.admits { u.setBranch q left with table := T } i = s.admits i :=
    fun _ => State.admits_congr (hg.isActive_eq .p0) rfl
  rw [frameEnd_eq_branchFrame hg hm, hreturn, State.refreshFor_eq]
  refine ⟨fun hroom => ?admitted, fun hdown => ?dropped⟩
  case admitted =>
    rw [State.returnFrame_of_admits e d ((hadmits ..).trans hroom)]
    rfl
  case dropped =>
    rw [State.returnFrame_of_full e d ((hadmits ..).trans (State.admits_of_trunk_down hdown _))]
    rfl

/-! ### Unsolicited frames (R89, R90) -/

/-- A passed-up frame is admitted by the room in its class alone (R105, R106). -/
theorem State.admits_passUp_iff (s : State) (b : BufId) :
    s.admits (.passUp b) = true ↔ s.isActive .p0 = true ∧ classCount s.trunkQueue .passUp < 5 := by
  have hplace : placeFree s.trunkQueue (.passUp b) = true := rfl
  rw [State.admits, Bool.and_eq_true, Bool.and_eq_true, decide_eq_true_iff, and_iff_left hplace]
  rfl

/-- What becomes of an unsolicited frame, by the policy of its branch and the room in the trunk queue; read in a state
`s` that has the branches, the trunk queue and the ACTIVE trunk of the state `v` that the frame finds. -/
theorem State.unsolicitedFrame_eq {s v : State} (hbranch : v.branches = s.branches)
    (hactive : v.isActive .p0 = s.isActive .p0) (hqueue : v.trunkQueue = s.trunkQueue) (p : BranchId) (b : BufId) :
    v.unsolicitedFrame p b =
      if (s.branch p).unsolicited = .drop then (v.countPort (branchPort p) .unsolicited).release b
      else if s.isActive .p0 = true ∧ classCount s.trunkQueue .passUp < 5 then
        (v.countPort (branchPort p) .unsolicited).enqueue (.passUp b)
      else ((v.countPort (branchPort p) .unsolicited).release b).countPort (branchPort p) .queueDrops := by
  have hpolicy : (v.branch p).unsolicited = (s.branch p).unsolicited := by
    rw [State.branch_eq, hbranch, State.branch_eq]
  have hadmits : (v.countPort (branchPort p) .unsolicited).admits (.passUp b) = s.admits (.passUp b) :=
    State.admits_congr ((State.isActive_countPort ..).trans hactive) hqueue _
  rw [State.unsolicitedFrame, hpolicy]
  cases (s.branch p).unsolicited with
  | drop => rw [if_pos rfl]
  | passUp => simp only [hadmits, State.admits_passUp_iff, reduceCtorEq, if_false]

/-- Settles O39: the kind, the slot and the last-timed-out record decide between unsolicited, late and unsolicited, and
late and discarded. -/
theorem unansweringBranchFrameIsCounted : Obligations.UnansweringBranchFrameIsCounted := by
  unfold Obligations.UnansweringBranchFrameIsCounted
  intro dt p l b o f s hg hm key run u unsolicited
  have hrun : run = .next (u.branchFrame p f b) := frameEnd_eq_branchFrame hg hm
  have hactive : u.isActive .p0 = s.isActive .p0 := hg.isActive_eq .p0
  have hunsolicited : ∀ v : State, v.branches = s.branches → v.isActive .p0 = s.isActive .p0 →
      v.trunkQueue = s.trunkQueue → v.unsolicitedFrame p b = unsolicited v :=
    fun _ hbranch hup hqueue => State.unsolicitedFrame_eq hbranch hup hqueue p b
  refine ⟨?nothingAnswered, ?lateAnswer⟩
  case nothingAnswered =>
    intro hnothing
    have hcase : u.answerCase p f = .unsolicited := by
      rw [State.answerCase_atFrameEnd]
      cases hans : f.isAnswer with
      | false => exact State.answerCase_of_not_answer hans
      | true =>
        rcases hnothing with hk | hk | ⟨hsilent, hother⟩
        · simp [Frame.isAnswer, hk] at hans
        · simp [Frame.isAnswer, hk] at hans
        · exact (State.answerCase_of_slotCase_none hans (State.slotCase_of_silent hsilent)).trans
            (State.lateCase_of_other_key hother)
    rw [hrun, State.branchFrame_of_unsolicited hcase, hunsolicited u rfl hactive rfl]
  case lateAnswer =>
    intro x hkind hsilent hlast late
    have hcase : u.answerCase p f = s.lateCase p f :=
      (State.answerCase_atFrameEnd ..).trans
        (State.answerCase_of_slotCase_none (f.isAnswer_iff.mpr hkind) (State.slotCase_of_silent hsilent))
    have hlate : late.isActive .p0 = s.isActive .p0 := (State.isActive_countPort ..).trans hactive
    refine ⟨fun e d hr hk hd hphase hport => ?queuedAgain, fun hover => ?discarded⟩
    case queuedAgain =>
      rw [hrun, State.branchFrame_of_lateUnsolicited (hcase.trans (State.lateCase_of_queued hlast hr hk hd hphase hport)),
        hunsolicited late rfl hlate rfl]
    case discarded =>
      rw [hrun, State.branchFrame_of_lateDiscarded (hcase.trans (State.lateCase_of_over hlast hover))]

end Sys2Proof.Machine
end

section
/-! PROOFS. Frames that end on a branch and answer a PROBE exchange: the handover to the station table, the alert of a
conflict, and the end of a SETTLING exchange (R61, R62, R65, R68). -/

namespace Sys2Proof.Machine

/-! ### The slot of a PROBE exchange (R37 case 3, R61) -/

section ProbeSlot

variable {s : State} {p : BranchId} {f : Frame} {x : SlotNo} {e : Exchange} {q : Probe} {start : Nat}

/-- An answer to a SETTLING exchange whose copy was sent in full is a further answer (R65). -/
theorem State.slotCase_of_settling
    (hs : (s.branch p).slot = some { exch := x, kind := .probe, deadline := some start }) (hr : s.record x = some e)
    (hq : e.mode = .probe q) (hph : q.phase = .settling) (hk : e.key = f.answerKey) :
    s.slotCase p f = some (.further x e q) := by
  simp only [State.slotCase, hs, hr, hq, hph, hk, Option.isSome_some, and_self, if_true]

theorem State.branchFrame_of_further (h : s.answerCase p f = .further x e q) (b : BufId) :
    s.branchFrame p f b = s.furtherAnswer p x e q b := by
  rw [State.branchFrame, h]

end ProbeSlot

/-! ### The handover to the station table (R11, R12, R13, R62) -/

/-- What the outcome of a handover counts (R11, R12, R13). -/
def LearnEvent.counted : LearnEvent → BridgeCounters → BridgeCounters
  | .nothing, c => c
  | .created, c => bridgeCounterBump c .learned
  | .refreshed, c => c
  | .conflicted, c => bridgeCounterBump c .conflicts

/-- A handover that does nothing leaves the learned entries as they were. -/
theorem Table.learn_places_of_nothing {t : Table} {a : Octet} {b : BranchId} (h : (t.learn a b).2 = .nothing) :
    (t.learn a b).1 = t.learned := by
  unfold Table.learn at h ⊢
  split at h
  case isTrue hcovered => rw [if_pos hcovered]
  case isFalse hfree =>
    rw [if_neg hfree]
    cases hfind : findLearned a t.learned with
    | none =>
      cases hempty : emptyPlace t.learned with
      | some i => simp [hfind, hempty] at h
      | none =>
        cases hold : oldestPlace t.learned with
        | some i => simp [hfind, hempty, hold] at h
        | none => rfl
    | some e =>
      cases hmark : e.mark with
      | conflict other => simp only [hmark]
      | valid age => by_cases hport : e.port = b <;> simp [hfind, hmark, hport] at h

/-- A handover changes the learned entries and counts its outcome, and nothing else. -/
theorem State.learn_eq (s : State) (a : Octet) (b : BranchId) :
    s.learn a b =
      { s with
        table := { s.table with learned := (s.table.learn a b).1 }
        counters := (s.table.learn a b).2.counted s.counters } := by
  unfold State.learn
  cases h : (s.table.learn a b).2 with
  | nothing => rw [Table.learn_places_of_nothing h]; rfl
  | created => rfl
  | refreshed => rfl
  | conflicted => rfl

/-! ### The alert of a conflict (R13, R176, R179) -/

/-- The offer of an alert leaves the alert list as it was. -/
@[simp] theorem State.offerAlert_list (s : State) : s.offerAlert.alerts.list = s.alerts.list := by
  unfold State.offerAlert
  split
  · rfl
  · split <;> rfl

/-- The offer of an alert leaves the other items of the trunk queue as they were. -/
@[simp] theorem State.offerAlert_otherItems (s : State) :
    s.offerAlert.trunkQueue.filter (fun i => !i.isAlert) = s.trunkQueue.filter (fun i => !i.isAlert) := by
  unfold State.offerAlert
  split
  · rfl
  · split
    · simp [State.enqueue, TrunkItem.isAlert]
    · rfl

@[simp] theorem State.raise_list (s : State) (k : AlertKind) (a : Octet) :
    (s.raise k a).alerts.list = (s.alerts.add k a).list :=
  State.offerAlert_list _

@[simp] theorem State.raise_otherItems (s : State) (k : AlertKind) (a : Octet) :
    (s.raise k a).trunkQueue.filter (fun i => !i.isAlert) = s.trunkQueue.filter (fun i => !i.isAlert) :=
  State.offerAlert_otherItems _

/-- The alert that a handover of address `a` raises (R13). -/
def State.alertConflict (s : State) (a : Octet) (event : LearnEvent) : State :=
  if event = .conflicted then s.raise .addressConflict a else s

theorem State.alertConflict_frame (s : State) (a : Octet) (event : LearnEvent) :
    s.alertConflict a event =
      { s with
        trunkQueue := (s.alertConflict a event).trunkQueue
        alerts := (s.alertConflict a event).alerts } := by
  unfold State.alertConflict
  split
  · rw [State.raise_frame]
  · rfl

theorem State.alertConflict_list (s : State) (a : Octet) (event : LearnEvent) :
    (s.alertConflict a event).alerts.list =
      if event = .conflicted then (s.alerts.add .addressConflict a).list else s.alerts.list := by
  unfold State.alertConflict
  split
  · exact State.raise_list ..
  · rfl

theorem State.alertConflict_otherItems (s : State) (a : Octet) (event : LearnEvent) :
    (s.alertConflict a event).trunkQueue.filter (fun i => !i.isAlert) = s.trunkQueue.filter (fun i => !i.isAlert) := by
  unfold State.alertConflict
  split
  · exact State.raise_otherItems ..
  · rfl

/-! ### The end of a SETTLING exchange (R68) -/

/-- What is left of a SETTLING exchange in its record (R68). -/
theorem State.settle_eq (s : State) (x : SlotNo) (e : Exchange) (q : Probe) :
    s.settle x e q =
      s.setRecord x (if setEmpty q.set = true ∧ q.pending = false then none else some { e with mode := .probe q }) := by
  unfold State.settle
  by_cases h : setEmpty q.set = true ∧ q.pending = false
  · rw [if_pos (by simpa using h), if_pos h]
  · rw [if_neg (by simpa using h), if_neg h]

/-- A record that is not FREE stands in the exchange table. -/
theorem State.lt_length_of_record {s : State} {x : SlotNo} {e : Exchange} (h : s.record x = some e) :
    x.val < s.records.length := by
  by_contra hge
  rw [State.record_eq, List.getD_eq_default _ _ (Nat.le_of_not_lt hge)] at h
  cases h

/-! ### A further answer (R65) -/

/-- A further answer in the state `s` of its frame end, before the alert: the slot is free, the station is learned, the
frame's buffer is released, and the record of `x` becomes `left`. -/
def State.furtherTaken (s : State) (p : BranchId) (x : SlotNo) (station : Octet) (b : BufId) (left : Option Exchange) :
    State :=
  { s with
    branches := branchSet s.branches p { s.branch p with slot := none }
    table := { s.table with learned := (s.table.learn station p).1 }
    counters := (s.table.learn station p).2.counted s.counters
    pool := s.pool.release b
    records := s.records.set x.val left }

theorem State.furtherAnswer_eq (s : State) (p : BranchId) (x : SlotNo) (e : Exchange) (q : Probe) (b : BufId) :
    s.furtherAnswer p x e q b =
      (s.furtherTaken p x e.key.station b
        (if setEmpty (branchSet q.set p false) = true ∧ q.pending = false then none
          else some { e with mode := .probe { q with set := branchSet q.set p false } })).alertConflict
        e.key.station (s.table.learn e.key.station p).2 := by
  simp only [State.furtherAnswer, State.settle_eq, State.learn_eq]
  rfl

/-- Settles O41: the slot recognises a further answer, whose whole effect is `furtherTaken` with the alert of R13. -/
theorem furtherProbeAnswerIsLearnedAndDiscarded : Obligations.FurtherProbeAnswerIsLearnedAndDiscarded := by
  unfold Obligations.FurtherProbeAnswerIsLearnedAndDiscarded
  intro dt p l b o f x start e q s hg hm hkind hslot hr hq hphase hkey u learnt
  have hcase : u.answerCase p f = .further x e q :=
    (State.answerCase_atFrameEnd ..).trans
      (State.answerCase_of_slotCase (f.isAnswer_iff.mpr hkind) (State.slotCase_of_settling hslot hr hq hphase hkey))
  have hrecord : ∀ left y, (u.furtherTaken p x e.key.station b left).record y = if y = x then left else s.record y :=
    fun left y => State.record_setRecord s x y left (State.lt_length_of_record hr)
  refine ⟨_, by rw [frameEnd_eq_branchFrame hg hm, State.branchFrame_of_further hcase, State.furtherAnswer_eq],
    ?record, ?otherRecords, ?branches, ?table, ?alertList, ?counters, ?otherItems, ?pool, ?ports, ?mgmt⟩
  case record =>
    rw [State.alertConflict_frame]
    exact (hrecord _ x).trans (if_pos rfl)
  case otherRecords =>
    intro y hy
    rw [State.alertConflict_frame]
    exact (hrecord _ y).trans (if_neg hy)
  case alertList => exact State.alertConflict_list ..
  case otherItems => exact State.alertConflict_otherItems ..
  case counters =>
    rw [State.alertConflict_frame]
    show learnt.2.counted s.counters = _
    cases learnt.2 <;> rfl
  case branches => rw [State.alertConflict_frame]; rfl
  case table => rw [State.alertConflict_frame]; rfl
  case pool => rw [State.alertConflict_frame]; rfl
  case ports => rw [State.alertConflict_frame]; rfl
  case mgmt => rw [State.alertConflict_frame]; rfl

end Sys2Proof.Machine
end

section
/-! PROOFS. The receivers of the ports: a marked character that ends the frame in progress (R126). -/

namespace Sys2Proof.Machine

/-! ### What works in a port, replaced again and beside a counter of the port -/

@[simp] theorem State.setLive_setLive (s : State) (p : PortId) (l m : Live) :
    (s.setLive p l).setLive p m = s.setLive p m := by
  simp [State.setLive, State.setLine]

@[simp] theorem State.live?_setLive (s : State) (p : PortId) (l : Live) : (s.setLive p l).live? p = some l := by
  simp [State.live?_eq]

theorem State.countPort_setLive (s : State) (p : PortId) (c : PortCounter) (l : Live) :
    (s.countPort p c).setLive p l = (s.setLive p l).countPort p c := by
  simp [State.countPort, State.setLive, State.setLine]

@[simp] theorem State.sampleTime_setRx (s : State) (p : PortId) (l : Live) (rx : Rx) :
    (s.setRx p l rx).sampleTime p = s.sampleTime p := by
  simp [State.sampleTime, State.setRx, State.setLive, State.setLine]

@[simp] theorem State.sampleTime_countPort (s : State) (p : PortId) (c : PortCounter) :
    (s.countPort p c).sampleTime p = s.sampleTime p := by
  simp [State.sampleTime, State.countPort]

@[simp] theorem State.live?_release (s : State) (b : BufId) (p : PortId) : (s.release b).live? p = s.live? p := rfl

@[simp] theorem State.sampleTime_release (s : State) (b : BufId) (p : PortId) :
    (s.release b).sampleTime p = s.sampleTime p := rfl

/-! ### The early end of a frame (R124, R125, R126, R129) -/

theorem State.endEarly_of_hunt {l : Live} (h : l.rx = .hunt) (s : State) (p : PortId) : s.endEarly p l = s := by
  simp [State.endEarly, h]

theorem State.endEarly_of_collect {l : Live} {b : BufId} (h : l.rx = .collect b) (s : State) (p : PortId) :
    s.endEarly p l = ((s.setRx p l .hunt).countPort p .truncated).release b := by
  simp [State.endEarly, h]

theorem State.endEarly_of_discard {l : Live} {n : Nat} {len : Option Octet} (h : l.rx = .discard n len) (s : State)
    (p : PortId) : s.endEarly p l = s.setRx p l .hunt := by
  simp [State.endEarly, h]

@[simp] theorem State.sampleTime_endEarly (s : State) (p : PortId) (l : Live) :
    (s.endEarly p l).sampleTime p = s.sampleTime p := by
  unfold State.endEarly
  split <;> simp

/-- The receiver is in HUNT after an early end, and nothing else at work in the port has changed. -/
theorem State.live?_endEarly {s : State} {p : PortId} {l : Live} (h : s.live? p = some l) :
    (s.endEarly p l).live? p = some { l with rx := .hunt } := by
  cases hrx : l.rx with
  | hunt => rw [State.endEarly_of_hunt hrx, h, ← hrx]
  | collect b => simp [State.endEarly_of_collect hrx, State.setRx]
  | discard n len => simp [State.endEarly_of_discard hrx, State.setRx]

/-- The early end of a frame and the line timers of the character that ends it can be set in either order. -/
theorem State.endEarly_setLive {l m : Live} (h : m.rx = l.rx) (s : State) (p : PortId) :
    (s.setLive p m).endEarly p m = (s.endEarly p l).setLive p { m with rx := .hunt } := by
  cases hrx : l.rx with
  | hunt => rw [State.endEarly_of_hunt hrx, State.endEarly_of_hunt (h.trans hrx), ← hrx, ← h]
  | collect b =>
    calc (s.setLive p m).endEarly p m
        = ((s.setLive p { m with rx := .hunt }).countPort p .truncated).release b := by
          rw [State.endEarly_of_collect (h.trans hrx), State.setRx, State.setLive_setLive]
      _ = (((s.setRx p l .hunt).countPort p .truncated).setLive p { m with rx := .hunt }).release b := by
          rw [State.countPort_setLive, State.setRx, State.setLive_setLive]
      _ = (s.endEarly p l).setLive p { m with rx := .hunt } := by
          rw [State.endEarly_of_collect hrx]; rfl
  | discard n len =>
    simp [State.endEarly_of_discard hrx, State.endEarly_of_discard (h.trans hrx), State.setRx]

/-! ### A marked character (R122, R126) -/

theorem State.marked_of_hunt {m : Live} (h : m.rx = .hunt) (s : State) (p : PortId) (o : Octet) :
    s.marked p o m = (s.setLive p m).startFrame p m o := by
  rw [State.marked, State.endEarly_of_hunt h, ← h]

/-- A marked character acts as in HUNT on the state that the early end of the frame in progress leaves. -/
theorem State.marked_endEarly {l m : Live} (h : m.rx = l.rx) (s : State) (p : PortId) (o : Octet) :
    s.marked p o m = (s.endEarly p l).marked p o { m with rx := .hunt } := by
  rw [State.marked_of_hunt (m := { m with rx := .hunt }) rfl, State.marked, State.endEarly_setLive h]

theorem exec_markedCharacter_of_hears {s : State} {p : PortId} {l : Live} {dt : Nat} (hl : s.Hears p l dt) (o : Octet) :
    exec (.markedCharacter dt p o) s = .next ((s.advance dt).marked p o (l.heard (s.now + dt))) :=
  congrArg Host.Outcome.next (State.character_of_hears hl _)

/-- A port that takes a character still takes it, at the same instant, when the frame in progress has ended early. -/
theorem State.Hears.endEarly {s : State} {p : PortId} {l : Live} {dt : Nat} (hl : s.Hears p l dt) :
    ((s.advance dt).endEarly p l).Hears p { l with rx := .hunt } 0 := by
  obtain ⟨⟨hlive, hquiet⟩, htime⟩ := hl
  refine ⟨⟨State.live?_endEarly hlive, hquiet⟩, ?_⟩
  rw [State.sampleTime_endEarly, State.endEarly_now]
  exact htime

/-- A marked character ends the frame in progress and then acts as in HUNT, at the same instant (R126). -/
theorem exec_markedCharacter_endEarly {s : State} {p : PortId} {l : Live} {dt : Nat} (hl : s.Hears p l dt) (o : Octet) :
    exec (.markedCharacter dt p o) s = exec (.markedCharacter 0 p o) ((s.advance dt).endEarly p l) := by
  rw [exec_markedCharacter_of_hears hl, exec_markedCharacter_of_hears hl.endEarly, State.endEarly_now]
  exact congrArg Host.Outcome.next (State.marked_endEarly (l := l) (m := l.heard (s.now + dt)) rfl (s.advance dt) p o)

/-- Settles O28: what the early end of the frame is in COLLECT and in DISCARD. -/
theorem markedCharacterEndsFrameInProgress : Obligations.MarkedCharacterEndsFrameInProgress := by
  unfold Obligations.MarkedCharacterEndsFrameInProgress
  intro dt p o l s hl
  constructor
  · intro b hcollect
    rw [exec_markedCharacter_endEarly hl, State.endEarly_of_collect hcollect]
  · intro n len hdiscard
    rw [exec_markedCharacter_endEarly hl, State.endEarly_of_discard hdiscard]

end Sys2Proof.Machine
end

section
/-! PROOFS. The management operations that report: IDENTIFY, READ-STATUS, READ-BRIDGE, READ-EXCHANGES, READ-ENTRY and
READ-LEARNED (R157, R158, R160 to R162, R166). -/

namespace Sys2Proof.Machine

/-! ### An accepted request (R153, R154) -/

section Request

variable {s : State} {h : Header} {code : Octet}

/-- A command that hands the unit a request of the right length runs the request's operation at the instant of its
arrival, where the request is accepted. -/
theorem exec_request_of_free {c : Instr} {dt : Nat} {op : State → State}
    (hc : exec c s = .next ((s.advance dt).requestArrives h (fun t => t.withLen h code op))) (hu : s.UnitFree h)
    (hl : h.len = requestLen code) (h0 : requestLen code ≠ 0) : exec c s = .next (op (s.advance dt)) := by
  rw [hc, State.requestArrives_of_free hu, State.withLen_of_len (hl ▸ h0) hl]

/-- An operation that leaves the trunk alone leaves the place of its response free. -/
theorem State.respond_of_trunk_kept (t : State) (hu : s.UnitFree h) (ha : t.isActive .p0 = s.isActive .p0)
    (hq : t.trunkQueue = s.trunkQueue) (status : Status) (data : List Octet) :
    t.respond h code status data = t.answered 0 h code status.code data := by
  obtain ⟨-, -, -, hadmits⟩ := hu
  exact State.respond_of_admits h code status data ((State.admits_congr ha hq .response).trans hadmits)

/-- An accepted request that changes the bridge counters, and is answered. -/
theorem State.respond_counters_of_free (hu : s.UnitFree h) (dt : Nat) (c : BridgeCounters) (status : Status)
    (data : List Octet) :
    State.respond { s.advance dt with counters := c } h code status data =
      { s.answered dt h code status.code data with counters := c } :=
  State.respond_of_trunk_kept { s.advance dt with counters := c } hu rfl rfl status data

end Request

/-- A choice octet that is not above 1 is 0 or 1. -/
theorem octet_eq_zero_or_one {o : Octet} (h : o.toNat ≤ 1) : o = 0 ∨ o = 1 := by bv_omega

/-- An octet above a bound is none of the values up to it. -/
theorem octet_ne_of_le_of_lt {o k : Octet} {n : Nat} (hk : k.toNat ≤ n) (h : n < o.toNat) : o ≠ k := by
  rintro rfl
  omega

/-! ### The counts of READ-STATUS (R150, R185) -/

theorem exchangeStateCode_cases (r : Option Exchange) :
    exchangeStateCode r = 0 ∨ exchangeStateCode r = 1 ∨ exchangeStateCode r = 2 ∨ exchangeStateCode r = 3 ∨
    exchangeStateCode r = 4 ∨ exchangeStateCode r = 5 ∨ exchangeStateCode r = 6 := by
  rcases r with _ | ⟨_, _, _, _, ⟨phase, _⟩ | ⟨phase, _⟩⟩
  · decide
  · cases phase <;> simp [exchangeStateCode]
  · cases phase <;> simp [exchangeStateCode]

/-- How many records of a list are in the state of a code. -/
def codeCount (rs : List (Option Exchange)) (code : Octet) : Nat :=
  (rs.filter (fun r => decide (exchangeStateCode r = code))).length

theorem State.stateCount_eq_codeCount (s : State) (code : Octet) : s.stateCount code = codeCount s.records code := rfl

theorem codeCount_cons (r : Option Exchange) (rs : List (Option Exchange)) (code : Octet) :
    codeCount (r :: rs) code = codeCount rs code + (if exchangeStateCode r = code then 1 else 0) := by
  by_cases h : exchangeStateCode r = code <;> simp [codeCount, h]

/-- Every record is counted under one of the seven codes. -/
theorem sum_codeCount (rs : List (Option Exchange)) :
    codeCount rs 0 + codeCount rs 1 + codeCount rs 2 + codeCount rs 3 + codeCount rs 4 + codeCount rs 5 +
      codeCount rs 6 = rs.length := by
  induction rs with
  | nil => rfl
  | cons r rs ih =>
    have hone : (if exchangeStateCode r = 0 then 1 else 0) + (if exchangeStateCode r = 1 then 1 else 0) +
        (if exchangeStateCode r = 2 then 1 else 0) + (if exchangeStateCode r = 3 then 1 else 0) +
        (if exchangeStateCode r = 4 then 1 else 0) + (if exchangeStateCode r = 5 then 1 else 0) +
        (if exchangeStateCode r = 6 then 1 else 0) = 1 := by
      rcases exchangeStateCode_cases r with h | h | h | h | h | h | h <;> rw [h] <;> rfl
    simp only [codeCount_cons, List.length_cons]
    omega

theorem isConflict_iff (o : Option Learned) :
    isConflict o = true ↔ ∃ e other, o = some e ∧ e.mark = .conflict other := by
  rcases o with _ | ⟨addr, port, age | other⟩ <;> simp [isConflict]

theorem isLearned_of_isConflict {o : Option Learned} (h : isConflict o = true) : isLearned o = true := by
  obtain ⟨e, -, rfl, -⟩ := (isConflict_iff o).mp h
  rfl

theorem Table.conflictCount_le_learnedCount (t : Table) : t.conflictCount ≤ t.learnedCount :=
  (List.monotone_filter_right t.learned (fun _ => isLearned_of_isConflict)).length_le

theorem Table.conflictCount_pos_iff (t : Table) :
    0 < t.conflictCount ↔ ∃ e other, some e ∈ t.learned ∧ e.mark = .conflict other := by
  simp only [Table.conflictCount, List.length_pos_iff_exists_mem, List.mem_filter, isConflict_iff]
  constructor
  · rintro ⟨-, hmem, e, other, rfl, hmark⟩
    exact ⟨e, other, hmem, hmark⟩
  · rintro ⟨e, other, hmem, hmark⟩
    exact ⟨some e, hmem, e, other, rfl, hmark⟩

theorem State.inFault_iff (s : State) (p : PortId) : s.inFault p = true ↔ ∃ since, (s.port p).line = .fault since := by
  unfold State.inFault
  cases (s.port p).line <;> simp

/-- FAULT_N is asserted for a port in FAULT or for a CONFLICT entry (R185, R186). -/
theorem State.faultAsserted_iff (s : State) :
    s.faultAsserted = true ↔ (∃ p since, (s.port p).line = .fault since) ∨
      ∃ e other, some e ∈ s.table.learned ∧ e.mark = .conflict other := by
  have hport : (∃ p, s.inFault p = true) ↔
      s.inFault .p0 = true ∨ s.inFault .p1 = true ∨ s.inFault .p2 = true ∨ s.inFault .p3 = true := by
    constructor
    · rintro ⟨p, hp⟩
      cases p <;> simp [hp]
    · rintro (hp | hp | hp | hp) <;> exact ⟨_, hp⟩
  simp only [← State.inFault_iff, hport, ← Table.conflictCount_pos_iff, State.faultAsserted, Bool.or_eq_true,
    decide_eq_true_eq, or_assoc]

/-! ### The octets of an exchange record (R150) -/

/-- The fourth octet of a record: its tag, with one bit for each flag above it. -/
theorem flags_append_tag (tag : BitVec 4) (urgent viaLearned pending probe : Bool) :
    BitVec.ofBool probe ++ (BitVec.ofBool pending ++ (BitVec.ofBool viaLearned ++ (BitVec.ofBool urgent ++ tag))) =
      (tag.setWidth 8 + (if urgent then 16 else 0) + (if viaLearned then 32 else 0) + (if pending then 64 else 0) +
        (if probe then 128 else 0) : Octet) := by
  revert tag urgent viaLearned pending probe
  decide

theorem exchangeOctets_of_direct {e : Exchange} {d : Direct} (h : e.mode = .direct d) :
    exchangeOctets (some e) =
      [exchangeStateCode (some e), e.key.requester, e.key.station,
       e.key.tag.setWidth 8 + (if e.urgent then 16 else 0) + (if d.viaLearned then 32 else 0),
       branchNumber d.port, e.window, natOctet d.retries.val, natOctet d.attempts] := by
  simp only [exchangeOctets, h, flags_append_tag, Bool.false_eq_true, if_false, add_zero, List.cons_append,
    List.nil_append]

theorem exchangeOctets_of_probe {e : Exchange} {q : Probe} (h : e.mode = .probe q) :
    exchangeOctets (some e) =
      [exchangeStateCode (some e), e.key.requester, e.key.station,
       e.key.tag.setWidth 8 + (if e.urgent then 16 else 0) + (if q.pending then 64 else 0) + 128,
       probeSetOctet q.set, e.window, 0, 0] := by
  simp only [exchangeOctets, h, flags_append_tag, Bool.false_eq_true, if_false, if_true, add_zero,
    List.cons_append, List.nil_append]

/-! ### The statements -/

/-- Settles O7: the accepted request is answered with the fixed data, the own address and the generation. -/
theorem identifyAnswers : Obligations.IdentifyAnswers := by
  unfold Obligations.IdentifyAnswers
  intro dt h s hu hl
  rw [exec_request_of_free (c := .identify dt h) (code := 0x01) rfl hu hl (by decide), State.respond_of_free hu]
  rfl

/-- Settles O8: the response carries what the part holds at acceptance, and the counts agree because every record has
one state, a CONFLICT entry is a learned entry, and FAULT_N reads the same ports and entries. -/
theorem readStatusAnswers : Obligations.ReadStatusAnswers := by
  unfold Obligations.ReadStatusAnswers
  constructor
  · intro dt h s hu hl
    rw [exec_request_of_free (c := .readStatus dt h) (code := 0x02) rfl hu hl (by decide), State.respond_of_free hu]
    rfl
  · intro s hrecords
    simp only [State.stateCount_eq_codeCount]
    exact ⟨(sum_codeCount s.records).trans hrecords, s.table.conflictCount_le_learnedCount, s.faultAsserted_iff⟩

/-- Settles O10: the counters are read at the instant at which clear flag 1 sets them to 0. -/
theorem readBridgeAnswers : Obligations.ReadBridgeAnswers := by
  unfold Obligations.ReadBridgeAnswers
  intro dt h clear s hu hl
  rw [exec_request_of_free (c := .readBridge dt h clear) (code := 0x04) rfl hu hl (by decide)]
  constructor
  · intro hclear
    rw [if_neg (octet_ne_of_le_of_lt (by decide) hclear), if_neg (octet_ne_of_le_of_lt (by decide) hclear),
      State.respond_of_free hu]
    rfl
  · intro hclear
    rcases octet_eq_zero_or_one hclear with rfl | rfl
    · rw [if_pos rfl, State.respond_of_free hu]
      rfl
    · rw [if_neg (by decide), if_pos rfl, State.respond_counters_of_free hu]
      rfl

/-- Settles O11: the checks stand in the order of R161, and the octets of each record in the layout of R150. -/
theorem readExchangesAnswers : Obligations.ReadExchangesAnswers := by
  unfold Obligations.ReadExchangesAnswers
  intro dt h first count s hu hl
  rw [exec_request_of_free (c := .readExchanges dt h first count) (code := 0x0B) rfl hu hl (by decide)]
  simp only [State.respond_of_free hu]
  split_ifs with hfirst hcount hlast
  · rfl
  · rfl
  · rfl
  · refine congrArg (fun f => Host.Outcome.next (s.answered dt h 0x0B 0
      ([first, count] ++ ((s.records.drop first.toNat).take count.toNat).flatMap f))) (funext fun r => ?_)
    cases r with
    | none => rfl
    | some e =>
      obtain ⟨key, urgent, window, request, d | q⟩ := e
      · exact exchangeOctets_of_direct rfl
      · exact exchangeOctets_of_probe rfl

/-- Settles O12: the bank is checked before the index, and the octets are those of the entry read. -/
theorem readEntryAnswers : Obligations.ReadEntryAnswers := by
  unfold Obligations.ReadEntryAnswers
  intro dt h bank index s hu hl
  rw [exec_request_of_free (c := .readEntry dt h bank index) (code := 0x05) rfl hu hl (by decide)]
  simp only [State.respond_of_free hu]
  split_ifs with hbank hindex hactive <;> rfl

/-- Settles O17: the checks stand in the order of R166, and the octets of each place in the layout of R150. -/
theorem readLearnedAnswers : Obligations.ReadLearnedAnswers := by
  unfold Obligations.ReadLearnedAnswers
  intro dt h first count s hu hl
  rw [exec_request_of_free (c := .readLearned dt h first count) (code := 0x09) rfl hu hl (by decide)]
  simp only [State.respond_of_free hu]
  split_ifs with hfirst hcount hlast
  · rfl
  · rfl
  · rfl
  · refine congrArg (fun f => Host.Outcome.next (s.answered dt h 0x09 0
      ([first, count] ++ ((s.table.learned.drop first.toNat).take count.toNat).flatMap f))) (funext fun o => ?_)
    cases o with
    | none => rfl
    | some e => rfl

end Sys2Proof.Machine
end

section
/-! PROOFS. The management operations that change settings: SET-PORT and SET-BRIDGE (R168, R170). -/

namespace Sys2Proof.Machine

/-! ### Octets that name a port (R149) -/

@[simp] theorem portOfOctet_portNumber (p : PortId) : portOfOctet (portNumber p) = some p := by
  cases p <;> rfl

@[simp] theorem portOfOctet_branchNumber (b : BranchId) : portOfOctet (branchNumber b) = some (branchPort b) :=
  portOfOctet_portNumber (branchPort b)

theorem portOfOctet_of_high {o : Octet} (h : 3 < o.toNat) : portOfOctet o = none := by
  have hne : ∀ k : Octet, k.toNat ≤ 3 → o ≠ k := fun _ hk => octet_ne_of_le_of_lt hk h
  rw [portOfOctet, if_neg (hne 0 (by decide)), if_neg (hne 1 (by decide)), if_neg (hne 2 (by decide)),
    if_neg (hne 3 (by decide))]

/-! ### SET-PORT (R115, R168) -/

theorem unsolicitedOfOctet_eq {o : Octet} (h : o.toNat ≤ 1) :
    unsolicitedOfOctet o = if o = 1 then .passUp else .drop := by
  rcases octet_eq_zero_or_one h with rfl | rfl <;> rfl

/-- The settings of a branch leave the trunk as ACTIVE as it was. -/
theorem State.isActive_trunk_configure (s : State) (b : BranchId) (rate guard unsolicited broadcast probe : Octet) :
    (s.configure b rate guard unsolicited broadcast probe).isActive .p0 = s.isActive .p0 := by
  cases b <;> rfl

/-- The five settings are taken, and the response carries the port number. -/
theorem State.respond_configure_of_free {s : State} {h : Header} (hu : s.UnitFree h) (dt : Nat) (b : BranchId)
    (port rate guard broadcast probe : Octet) {unsolicited : Octet} (hun : unsolicited.toNat ≤ 1) :
    ((s.advance dt).configure b rate guard unsolicited broadcast probe).respond h 0x0C .ok [port] =
      { s.answered dt h 0x0C 0 [port] with
        ports := portSet s.ports (branchPort b)
          { s.port (branchPort b) with rate := rate.setWidth 3, guard := guard.setWidth 4 }
        branches := branchSet s.branches b
          { s.branch b with
            unsolicited := if unsolicited = 1 then .passUp else .drop
            broadcastPass := decide (broadcast = 1)
            probeMember := decide (probe = 1) } } := by
  rw [State.respond_of_trunk_kept _ hu (State.isActive_trunk_configure (s.advance dt) ..) rfl,
    ← unsolicitedOfOctet_eq hun]
  rfl

/-- Settles O19: the port octet decides first, then the state of the branch, then the five values. -/
theorem setPortReplacesSettings : Obligations.SetPortReplacesSettings := by
  unfold Obligations.SetPortReplacesSettings
  intro dt h port rate guard unsolicited broadcast probe s hu hl run
  have hrun := exec_request_of_free (c := .setPort dt h port rate guard unsolicited broadcast probe) (code := 0x0C)
    (s := s) rfl hu hl (by decide)
  refine ⟨?badIndex, ?trunk, ?branch⟩
  case badIndex =>
    intro hport
    rw [portOfOctet_of_high hport] at hrun
    exact hrun.trans (congrArg _ (State.respond_of_free hu dt 0x0C .badIndex []))
  case trunk =>
    rintro rfl
    exact hrun.trans (congrArg _ (State.respond_of_free hu dt 0x0C .notPermitted []))
  case branch =>
    rintro b rfl
    simp only [portOfOctet_branchNumber, portBranch_branchPort] at hrun
    constructor
    · intro hline
      rw [if_pos (show ((s.advance dt).port (branchPort b)).line ≠ .disabled from hline)] at hrun
      exact hrun.trans (congrArg _ (State.respond_of_free hu dt 0x0C .portActive []))
    · intro hline
      rw [if_neg (not_not.mpr (show ((s.advance dt).port (branchPort b)).line = .disabled from hline))] at hrun
      refine hrun.trans (congrArg _ (ite_congr rfl ?badValue ?taken))
      case badValue => exact fun _ => State.respond_of_free hu dt 0x0C .badValue []
      case taken =>
        intro hgood
        push Not at hgood
        obtain ⟨-, -, -, hun, -, -⟩ := hgood
        exact State.respond_configure_of_free hu dt b _ rate guard broadcast probe hun

/-! ### SET-BRIDGE (R16, R20, R170, R178, R179) -/

/-- An alert is admitted behind a response where it was admitted ahead of it: they are of different classes. -/
theorem classCount_alert_append_response (q : List TrunkItem) :
    classCount (q ++ [.response]) .alert = classCount q .alert := by
  simp [classCount, TrunkItem.cls]

theorem State.admits_alert_iff (s : State) (a : AlertItem) :
    s.admits (.alert a) = true ↔ s.isActive .p0 = true ∧ classCount s.trunkQueue .alert = 0 := by
  simp [State.admits, TrunkItem.cls, TrunkClass.limit, placeFree, TrunkItem.isResponse, TrunkItem.isBusy]

theorem State.isActive_of_unitFree {s : State} {h : Header} (hu : s.UnitFree h) : s.isActive .p0 = true := by
  obtain ⟨-, -, -, hadmits⟩ := hu
  by_contra hdown
  rw [State.admits_of_trunk_down (by simpa using hdown)] at hadmits
  cases hadmits

/-- What SET-BRIDGE refuses (R170). -/
def State.bridgeRefused (s : State) (policy window retries dest : Octet) : Prop :=
  1 < policy.toNat ∨ window = 0 ∨ 3 < retries.toNat ∨ dest = s.ownAddress

/-- The check as the operation makes it, on the number that the window octet holds. -/
theorem State.bridgeRefused_iff (s : State) {policy window retries dest : Octet} :
    s.bridgeRefused policy window retries dest ↔
      1 < policy.toNat ∨ window.toNat = 0 ∨ 3 < retries.toNat ∨ dest = s.ownAddress :=
  or_congr_right (or_congr_left BitVec.toNat_eq)

/-- The part with the five values of a SET-BRIDGE and its response (R16, R170). -/
def State.bridgeTaken (s : State) (dt : Nat) (h : Header) (policy window : Octet) (r : Fin 4) (ageing dest : Octet) :
    State :=
  { s.answered dt h 0x0E 0 [] with
    table := { s.table with
      policy := if policy = 1 then .probe else .ignore
      probeWindow := window
      learnedRetries := r
      ageing := ageing
      ageingFrom := if ageing = s.table.ageing then s.table.ageingFrom else s.now + dt }
    alerts := { s.alerts with dest := dest } }

section SetBridge

variable {s : State} {h : Header} {dt : Nat} {policy window retries ageing dest : Octet}

theorem State.respond_configureBridge_of_free (hu : s.UnitFree h) {r : Fin 4} (hp : policy.toNat ≤ 1)
    (hr : r.val = retries.toNat) :
    ((s.advance dt).configureBridge policy window retries ageing dest).respond h 0x0E .ok [] =
      s.bridgeTaken dt h policy window r ageing dest := by
  have hpolicy : (if policy = 0 then UnknownPolicy.ignore else .probe) = if policy = 1 then .probe else .ignore := by
    rcases octet_eq_zero_or_one hp with rfl | rfl <;> rfl
  have hretries : Fin.ofNat 4 retries.toNat = r := by rw [← hr]; exact Fin.ofNat_val_eq_self r
  rw [State.respond_of_trunk_kept ((s.advance dt).configureBridge policy window retries ageing dest) hu rfl rfl,
    State.configureBridge, hpolicy, hretries]
  rfl

/-- The check of the five values, and its two outcomes (R170). -/
theorem exec_setBridge_of_free (hu : s.UnitFree h) (hl : h.len = 6) :
    exec (.setBridge dt h policy window retries ageing dest) s =
      .next (if 1 < policy.toNat ∨ window.toNat = 0 ∨ 3 < retries.toNat ∨ dest = s.ownAddress then
        s.answered dt h 0x0E 4 []
      else (((s.advance dt).configureBridge policy window retries ageing dest).respond h 0x0E .ok []).offerAlert) := by
  rw [exec_request_of_free (c := .setBridge dt h policy window retries ageing dest) (code := 0x0E) rfl hu hl
      (by decide),
    State.respond_of_free hu]
  rfl

theorem exec_setBridge_of_refused (hu : s.UnitFree h) (hl : h.len = 6)
    (hbad : s.bridgeRefused policy window retries dest) :
    exec (.setBridge dt h policy window retries ageing dest) s = .next (s.answered dt h 0x0E 4 []) := by
  rw [exec_setBridge_of_free hu hl, if_pos (s.bridgeRefused_iff.mp hbad)]

theorem exec_setBridge_of_not_refused (hu : s.UnitFree h) (hl : h.len = 6)
    (hgood : ¬ s.bridgeRefused policy window retries dest) {r : Fin 4} (hr : r.val = retries.toNat) :
    exec (.setBridge dt h policy window retries ageing dest) s =
      .next (s.bridgeTaken dt h policy window r ageing dest).offerAlert := by
  have hpolicy : policy.toNat ≤ 1 := Nat.le_of_not_lt fun hhigh => hgood (.inl hhigh)
  rw [exec_setBridge_of_free hu hl, if_neg (hgood ∘ s.bridgeRefused_iff.mpr),
    State.respond_configureBridge_of_free hu hpolicy hr]

end SetBridge

/-- Settles O22: an alert that the new destination makes due finds the trunk ACTIVE and, behind the response, the
place of its class as free as before. -/
theorem setBridgeTakesAllFiveValues : Obligations.SetBridgeTakesAllFiveValues := by
  unfold Obligations.SetBridgeTakesAllFiveValues
  intro dt h policy window retries ageing dest s hu hl run bad
  refine ⟨exec_setBridge_of_refused hu hl, ?_⟩
  intro hgood r hr taken
  have hrun : run = .next taken.offerAlert := exec_setBridge_of_not_refused hu hl hgood hr
  constructor
  · intro hquiet
    have hnotDue : taken.alerts.list = [] ∨ taken.alerts.dest = 0 ∨ taken.alerts.offered = true ∨
        taken.isActive .p0 = false := hquiet.imp_right (Or.imp_right .inl)
    rw [hrun, State.offerAlert_of_not_due hnotDue]
  · intro e rest hlist hdest hoffered hplace
    have hadmits : taken.admits (.alert (taken.alertItem e)) = true :=
      (State.admits_alert_iff taken _).mpr
        ⟨State.isActive_of_unitFree (s := s) hu, (classCount_alert_append_response s.trunkQueue).trans hplace⟩
    rw [hrun, State.offerAlert_of_due (s := taken) hlist hdest hoffered hadmits]
    simp [taken, State.answered, State.alertItem]

end Sys2Proof.Machine
end

section
/-! PROOFS. The alert list (R175, R176). -/

namespace Sys2Proof.Machine

theorem differentAlert_iff {a b : AlertEntry} :
    differentAlert a b ↔ ¬ (a.kind = b.kind ∧ a.subject = b.subject) := not_and_or.symm

theorem differentAlert_symm {a b : AlertEntry} (h : differentAlert a b) : differentAlert b a :=
  h.imp Ne.symm Ne.symm

/-- The repeat count in the words of R176: it stays at 255 once it has reached 255. -/
theorem bumpRepeats_eq (r : Octet) : bumpRepeats r = if r = 255 then 255 else r + 1 := by
  by_cases hfull : r = 255
  · subst hfull
    rfl
  · rw [if_neg hfull]
    exact if_neg hfull

/-! ### An entry at the raising of an alert -/

/-- What becomes of a listed entry when the alert of kind `k` and subject `a` merges into the list (R176). -/
def AlertEntry.merged (k : AlertKind) (a : Octet) (e : AlertEntry) : AlertEntry :=
  if e.kind = k ∧ e.subject = a then { e with repeats := bumpRepeats e.repeats } else e

theorem AlertEntry.merged_same (e : AlertEntry) :
    AlertEntry.merged e.kind e.subject e = { e with repeats := bumpRepeats e.repeats } :=
  if_pos ⟨rfl, rfl⟩

theorem AlertEntry.merged_other {e x : AlertEntry} (h : differentAlert x e) :
    AlertEntry.merged e.kind e.subject x = x :=
  if_neg (differentAlert_iff.mp h)

/-- As no two entries share kind and subject, a merge changes the one place of the entry that it meets. -/
theorem map_merged_eq_set {l : List AlertEntry} (hl : l.Pairwise differentAlert) {i : Nat} {e : AlertEntry}
    (he : l[i]? = some e) :
    l.map (AlertEntry.merged e.kind e.subject) = l.set i { e with repeats := bumpRepeats e.repeats } := by
  induction l generalizing i with
  | nil => simp at he
  | cons x xs ih =>
    obtain ⟨hhead, htail⟩ := List.pairwise_cons.mp hl
    cases i with
    | zero =>
      obtain rfl : x = e := by simpa using he
      have hothers : ∀ y ∈ xs, AlertEntry.merged x.kind x.subject y = y :=
        fun y hy => AlertEntry.merged_other (differentAlert_symm (hhead y hy))
      have hxs : xs.map (AlertEntry.merged x.kind x.subject) = xs :=
        (List.map_congr_left hothers).trans (List.map_id xs)
      rw [List.map_cons, AlertEntry.merged_same, hxs, List.set_cons_zero]
    | succ i =>
      have he : xs[i]? = some e := by simpa using he
      have hx : AlertEntry.merged e.kind e.subject x = x :=
        AlertEntry.merged_other (hhead e (List.mem_of_getElem? he))
      rw [List.map_cons, hx, ih htail he, List.set_cons_succ]

/-! ### The three cases of a raising (R176) -/

section Raising

variable {u : AlertUnit} {k : AlertKind} {a : Octet}

theorem AlertUnit.add_of_listed {e : AlertEntry} (he : e ∈ u.list) :
    u.add e.kind e.subject = { u with list := u.list.map (AlertEntry.merged e.kind e.subject) } :=
  if_pos (List.any_eq_true.mpr ⟨e, he, by simp⟩)

theorem AlertUnit.add_of_not_listed (h : ∀ e, e ∈ u.list → ¬ (e.kind = k ∧ e.subject = a)) :
    u.add k a =
      if u.list.length < 8 then { u with list := u.list ++ [{ kind := k, subject := a, repeats := 1 }] }
      else { u with overflow := true } :=
  if_neg (by simpa using h)

end Raising

/-- Settles O46, by the three cases of R176. -/
theorem raisedAlertIsListed : Obligations.RaisedAlertIsListed := by
  unfold Obligations.RaisedAlertIsListed
  intro u k subject hdistinct
  constructor
  · rintro i e he rfl rfl
    rw [AlertUnit.add_of_listed (List.mem_of_getElem? he), map_merged_eq_set hdistinct he, bumpRepeats_eq]
  · intro hnew
    rw [AlertUnit.add_of_not_listed hnew]
    exact ⟨fun hroom => if_pos hroom, fun hfull => if_neg (Nat.not_lt.mpr hfull)⟩

end Sys2Proof.Machine
end

section
/-! PROOFS. What a command can do: the inversion of `exec`, and from it the induction over a step. -/

namespace Sys2Proof.Machine

/-! ### Management requests, as rows and as payloads (R147, R153, log 5) -/

/-- The payload octets of the request that a management row stands for (R147). -/
def requestPayload : Instr → List Octet
  | .identify _ _ => [0x01]
  | .readStatus _ _ => [0x02]
  | .readPort _ _ port clear => [0x03, port, clear]
  | .readBridge _ _ clear => [0x04, clear]
  | .readEntry _ _ bank index => [0x05, bank, index]
  | .writeEntry _ _ index valid base mask action port window retries =>
    [0x06, index, valid, base, mask, action, port, window, retries]
  | .prepareShadowClear _ _ => [0x07, 0]
  | .prepareShadowCopy _ _ => [0x07, 1]
  | .commit _ _ expected => [0x08, expected.lo, expected.hi]
  | .readLearned _ _ first count => [0x09, first, count]
  | .forgetAddress _ _ a => [0x0A, 0, a]
  | .forgetAll _ _ => [0x0A, 1]
  | .readExchanges _ _ first count => [0x0B, first, count]
  | .setPort _ _ port rate guard unsolicited broadcast probe =>
    [0x0C, port, rate, guard, unsolicited, broadcast, probe]
  | .portControlEnable _ _ port => [0x0D, port, 1]
  | .portControlDisable _ _ port => [0x0D, port, 0]
  | .setBridge _ _ policy window retries ageing dest => [0x0E, policy, window, retries, ageing, dest]
  | .flush _ _ => [0x0F]
  | .restart _ _ => [0x10]
  | .badOperation _ _ code => [code]
  | _ => []

/-- The payload octets of a row, read as the management unit reads them: 0 behind the last. -/
def payloadAt (c : Instr) (i : Nat) : Octet := (requestPayload c).getD i 0

/-- A request with LEN 0 names no operation, whatever row it stands for (R153). -/
theorem State.operate_of_len_zero {h : Header} (h0 : h.len = 0) (s : State) (q : Nat → Octet) :
    s.operate h q = s.respond h 0 .badOperation [] := by
  rw [State.operate, if_pos h0, State.badOperation, if_pos h0]

theorem State.withLen_of_len_zero {h : Header} (h0 : h.len = 0) (s : State) (code : Octet) (op : State → State) :
    s.withLen h code op = s.respond h 0 .badOperation [] := by
  rw [State.withLen, if_pos h0]

/-- The two octets of an expected generation make the generation again (R141). -/
theorem Word.hi_append_lo (w : Word) : w.hi ++ w.lo = w := by
  unfold Word.hi Word.lo
  ext i hi
  simp only [BitVec.getElem_append, BitVec.getElem_setWidth, BitVec.getLsbD_ushiftRight]
  split
  · exact BitVec.getLsbD_eq_getElem hi
  · rw [← BitVec.getLsbD_eq_getElem hi]
    congr 1
    omega

/-- The operation of a row is the one that its payload names (R147). -/
theorem exec_request_eq_operate {c : Instr} {dt : Nat} {h : Header} {code : Octet} (hc : requestOf c = some (dt, h, code))
    (s : State) :
    exec c s = .next ((s.advance dt).requestArrives h (fun t => t.operate h (payloadAt c))) := by
  by_cases h0 : h.len = 0
  case pos =>
    cases c <;> cases hc <;>
      refine congrArg (fun op => Host.Outcome.next ((s.advance dt).requestArrives h op)) (funext fun t => ?_) <;>
      exact (State.withLen_of_len_zero h0 t _ _).trans (State.operate_of_len_zero h0 t _).symm
  case neg =>
    cases c <;> cases hc <;>
      refine congrArg (fun op => Host.Outcome.next ((s.advance dt).requestArrives h op)) (funext fun t => ?_) <;>
      rw [State.operate, if_neg h0]
    case commit expected =>
      exact congrArg (t.commit h) (Word.hi_append_lo expected).symm
    all_goals rfl

theorem isOperationCode_iff (code : Octet) : isOperationCode code = true ↔ 1 ≤ code.toNat ∧ code.toNat ≤ 16 := by
  simp [isOperationCode]

/-- A code outside R147 names no operation (R153). -/
theorem State.operate_of_no_code {h : Header} (h0 : h.len ≠ 0) {q : Nat → Octet} (hq : isOperationCode (q 0) = false)
    (s : State) : s.operate h q = s.badOperation h (q 0) := by
  have hout : ¬ (1 ≤ (q 0).toNat ∧ (q 0).toNat ≤ 16) := by rw [← isOperationCode_iff, hq]; decide
  rw [State.operate, if_neg h0]
  split
  case h_17 => rfl
  all_goals
    rename_i hcode
    exact absurd hcode (by omega)

theorem exec_badOperation_eq_operate {dt : Nat} {h : Header} {code : Octet}
    (hc : h.len = 0 ∨ isOperationCode code = false) (s : State) :
    exec (.badOperation dt h code) s = .next ((s.advance dt).requestArrives h
      (fun t => t.operate h (payloadAt (.badOperation dt h code)))) := by
  refine congrArg Host.Outcome.next ((if_pos hc).trans
    (congrArg ((s.advance dt).requestArrives h) (funext fun t => ?_)))
  by_cases h0 : h.len = 0
  · rw [State.operate_of_len_zero h0, State.badOperation, if_pos h0]
  · exact (State.operate_of_no_code h0 (q := payloadAt (.badOperation dt h code)) (hc.resolve_left h0) t).symm

/-- A BAD_OPERATION that names an operation is no such request (log 24). -/
theorem exec_badOperation_of_code {h : Header} {code : Octet} (h0 : h.len ≠ 0) (hcode : isOperationCode code = true)
    (dt : Nat) (s : State) : exec (.badOperation dt h code) s = .next (s.advance dt) :=
  congrArg Host.Outcome.next (if_neg (not_or.mpr ⟨h0, by rw [hcode]; decide⟩))

/-! ### The effects of commands -/

/-- What a command can do to the part, once the clock has moved on and the line has been seen. -/
inductive State.Does (u : State) : State → Prop where
  | nothing : u.Does u
  | refusesBusy (h : Header) : u.mgmt.phase ≠ .idle → u.Does (u.refuseBusy h)
  | operates (h : Header) (q : Nat → Octet) : u.hears .p0 = true → u.mgmt.phase = .idle → u.Does (u.operate h q)
  | copies (h : Header) (job : CopyJob) (since : Nat) : u.mgmt.phase = .working h job since → u.Does (u.copyDone h job)
  | marked (p : PortId) (l m : Live) (o : Octet) : u.Listens p l → m.rx = l.rx → m.tx = l.tx → u.Does (u.marked p o m)
  | unmarked (p : PortId) (l m : Live) (o : Octet) : u.Listens p l → m.rx = l.rx → m.tx = l.tx →
      u.Does (u.unmarked p o m)
  | endsEarly (p : PortId) (l m : Live) : u.Listens p l → m.rx = l.rx → m.tx = l.tx →
      u.Does ((u.setLive p m).endEarly p m)
  | stuck (p : PortId) (l : Live) (high : Nat) (straps : Straps) : u.live? p = some l → u.Does (u.stuck p high straps)
  | recovers (p : PortId) (since : Nat) : (u.port p).line = .fault since → u.Does (u.recover p)
  | restartsRecovery (p : PortId) (since again : Nat) : (u.port p).line = .fault since →
      u.Does (u.setLine p (.fault again))
  | windowExpires (b : BranchId) (sl : Slot) (start : Nat) (e : Exchange) (d : Direct) : (u.branch b).slot = some sl →
      sl.deadline = some start → u.record sl.exch = some e → e.mode = .direct d →
      u.Does (u.windowExpired b sl.exch e d)
  | probeExpires (b : BranchId) (sl : Slot) (start : Nat) (e : Exchange) (q : Probe) : (u.branch b).slot = some sl →
      sl.deadline = some start → u.record sl.exch = some e → e.mode = .probe q →
      u.Does ((u.setSlot b none).loseBranch sl.exch e q b)
  | ages : u.Does (State.age { u with table := { u.table with ageingFrom := u.now } })
  | takes (p : PortId) : u.Does (u.takeItem p)
  | startsSend (p : PortId) (l : Live) (c : Current) : u.live? p = some l → l.tx.current? = some c →
      l.tx.sending? = none → u.Does (u.startSend p l c)
  | contends (p : PortId) (l : Live) (c : Current) (since : Nat) (frame : List Octet) (back : ReadBack) (first : Bool)
      (straps : Straps) : u.live? p = some l → l.tx = .send c since frame →
      u.Does (u.contended p l c back first straps)
  | completes (p : PortId) (l : Live) (c : Current) (since : Nat) (frame : List Octet) (high : Nat) (straps : Straps) :
      u.live? p = some l → l.tx = .send c since frame → u.Does (u.completed p l c high straps)
  | resets (straps : Straps) : u.Does (u.resetAt straps)

/-- The instant of a command: the clock has moved on, and a command on a quiet line has told whether a character
is in progress (R113). -/
def State.Reaches (s u : State) : Prop :=
  ∃ dt, u = s.advance dt ∨ ∃ p busy, u = (s.advance dt).lineSeen p busy

theorem State.reaches_advance (s : State) (dt : Nat) : s.Reaches (s.advance dt) := ⟨dt, .inl rfl⟩

theorem State.reaches_lineSeen (s : State) (dt : Nat) (p : PortId) (busy : Bool) :
    s.Reaches ((s.advance dt).lineSeen p busy) := ⟨dt, .inr ⟨p, busy, rfl⟩⟩

/-! ### Each row does one of these -/

theorem State.does_requestArrives (u : State) (h : Header) (q : Nat → Octet) :
    u.Does (u.requestArrives h (fun t => t.operate h q)) := by
  unfold State.requestArrives State.deliver
  split
  case isTrue hears =>
    split
    case isTrue hidle => exact .operates h q (by simp_all) hidle
    case isFalse hbusy => exact .refusesBusy h hbusy
  case isFalse => exact .nothing

theorem State.setLive_self {s : State} {p : PortId} {l : Live} (h : s.live? p = some l) : s.setLive p l = s := by
  have hline : (s.port p).line = .active l := by
    unfold State.live? Line.live? at h
    cases hl : (s.port p).line <;> simp_all
  rw [State.setLive, State.setLine, ← hline]
  exact congrArg (fun ps => { s with ports := ps }) (portSet_portGet s.ports p)

/-- An event reaches the receiver of a port that listens, and has no effect otherwise (R116, R129). -/
theorem State.does_listening {u : State} {p : PortId} {act : Live → State → State}
    (hact : ∀ l, u.Listens p l → u.Does (act l u)) : u.Does (u.listening p act) := by
  unfold State.listening
  cases hl : u.live? p with
  | none => exact .nothing
  | some l =>
    simp only
    split
    case isTrue hq => exact hact l ⟨hl, by simpa using hq⟩
    case isFalse => exact .nothing

theorem State.does_character {u : State} {p : PortId} {act : Live → State → State}
    (hact : ∀ l, u.Listens p l → u.Does (act l u)) : u.Does (u.character p act) :=
  State.does_listening fun l hl => by
    split
    · exact hact l hl
    · exact .nothing

theorem State.does_unmarkedCharacter (u : State) (p : PortId) (o : Octet) : u.Does (u.unmarkedCharacter p o) :=
  State.does_character fun l hl => .unmarked p l (l.heard u.now) o hl rfl rfl

theorem State.does_gap (u : State) (p : PortId) : u.Does (u.gap p) :=
  State.does_listening fun l hl => by
    split
    · have := State.Does.endsEarly p l l hl rfl rfl
      rwa [State.setLive_self hl.1] at this
    · exact .nothing

theorem Tx.current?_of_deferred? {t : Tx} {c : Current} (h : t.deferred? = some c) :
    t.current? = some c ∧ t.sending? = none := by
  cases t <;> cases h
  exact ⟨rfl, rfl⟩

theorem Tx.current?_of_backedOff? {t : Tx} {c : Current} (h : t.backedOff? = some c) :
    t.current? = some c ∧ t.sending? = none := by
  cases t <;> cases h
  exact ⟨rfl, rfl⟩

theorem State.does_endWait (u : State) (p : PortId) (t : Nat) {waits : Tx → Option Current}
    (hw : ∀ tx c, waits tx = some c → tx.current? = some c ∧ tx.sending? = none) : u.Does (u.endWait p t waits) := by
  unfold State.endWait
  split
  case h_1 => exact .nothing
  case h_2 l hl =>
    split
    case h_2 => exact .nothing
    case h_1 c hc =>
      obtain ⟨hcur, hsend⟩ := hw _ _ hc
      split
      · exact .startsSend p l c hl hcur hsend
      · exact .nothing

theorem execStuckLine_does (t : StrapTime) (p : PortId) (low : Nat) (s : State) :
    ∃ v, execStuckLine t p low s = .next v ∧ (s.advance t.dt).Does v := by
  refine ⟨_, rfl, ?_⟩
  split
  case h_1 l hl =>
    split
    · exact .stuck p l _ t.straps hl
    · exact .nothing
  case h_2 => exact .nothing

theorem execRecovery_does (dt : Nat) (p : PortId) (s : State) :
    ∃ v, execRecovery dt p s = .next v ∧ (s.advance dt).Does v := by
  refine ⟨_, rfl, ?_⟩
  split
  case h_1 since hl =>
    split
    · exact .recovers p since hl
    · exact .nothing
  all_goals exact .nothing

theorem execRecoveryTimerRestart_does (dt : Nat) (p : PortId) (low : Nat) (s : State) :
    ∃ v, execRecoveryTimerRestart dt p low s = .next v ∧ (s.advance dt).Does v := by
  refine ⟨_, rfl, ?_⟩
  split
  case h_1 since hl =>
    split
    · exact .restartsRecovery p since _ hl
    · exact .nothing
  all_goals exact .nothing

theorem execWindowExpiry_does (dt : Nat) (b : BranchId) (s : State) :
    ∃ v, execWindowExpiry dt b s = .next v ∧ (s.advance dt).Does v := by
  refine ⟨_, rfl, ?_⟩
  split
  case h_1 => exact .nothing
  case h_2 sl hs =>
    split
    case h_1 e start hr hd =>
      split
      case h_1 d hm =>
        split
        · exact .windowExpires b sl start e d hs hd hr hm
        · exact .nothing
      case h_2 => exact .nothing
    all_goals exact .nothing

theorem execProbeWindowExpiry_does (dt : Nat) (b : BranchId) (s : State) :
    ∃ v, execProbeWindowExpiry dt b s = .next v ∧ (s.advance dt).Does v := by
  refine ⟨_, rfl, ?_⟩
  split
  case h_1 => exact .nothing
  case h_2 sl hs =>
    split
    case h_1 e start hr hd =>
      split
      case h_1 q hm =>
        split
        · exact .probeExpires b sl start e q hs hd hr hm
        · exact .nothing
      case h_2 => exact .nothing
    all_goals exact .nothing

theorem execContention_does (t : StrapTime) (p : PortId) (back : ReadBack) (s : State) :
    ∃ v, execContention t p back s = .next v ∧ (s.advance t.dt).Does v := by
  refine ⟨_, rfl, ?_⟩
  split
  case h_1 => exact .nothing
  case h_2 l hl =>
    split
    case h_1 c since frame htx =>
      split
      case h_1 sent hsent =>
        split
        · exact .contends p l c since frame back sent.2 t.straps hl htx
        · exact .nothing
      case h_2 => exact .nothing
    all_goals exact .nothing

theorem execTransmissionComplete_does (t : StrapTime) (p : PortId) (s : State) :
    ∃ v, execTransmissionComplete t p s = .next v ∧ (s.advance t.dt).Does v := by
  refine ⟨_, rfl, ?_⟩
  split
  case h_1 => exact .nothing
  case h_2 l hl =>
    split
    case h_1 c since frame htx =>
      split
      · exact .completes p l c since frame _ t.straps hl htx
      · exact .nothing
    all_goals exact .nothing

theorem execShadowCopyCompletion_does (dt : Nat) (s : State) :
    ∃ v, execShadowCopyCompletion dt s = .next v ∧ (s.advance dt).Does v := by
  refine ⟨_, rfl, ?_⟩
  split
  case h_1 h job since hph =>
    split
    · exact .copies h job since hph
    · exact .nothing
  all_goals exact .nothing

theorem execAgeingExpiry_does (dt : Nat) (s : State) :
    ∃ v, execAgeingExpiry dt s = .next v ∧ (s.advance dt).Does v := by
  refine ⟨_, rfl, ?_⟩
  split
  · exact .ages
  · exact .nothing

theorem execBadOperation_does (dt : Nat) (h : Header) (code : Octet) (s : State) :
    ∃ v, exec (.badOperation dt h code) s = .next v ∧ (s.advance dt).Does v := by
  by_cases hc : h.len = 0 ∨ isOperationCode code = false
  · exact ⟨_, exec_badOperation_eq_operate hc s, State.does_requestArrives ..⟩
  · obtain ⟨h0, hcode⟩ := not_or.mp hc
    exact ⟨_, exec_badOperation_of_code h0 (by simpa using hcode) dt s, .nothing⟩

theorem exec_request_does {c : Instr} {dt : Nat} {h : Header} {code : Octet} (hc : requestOf c = some (dt, h, code))
    (s : State) : ∃ v, exec c s = .next v ∧ (s.advance dt).Does v :=
  ⟨_, exec_request_eq_operate hc s, State.does_requestArrives ..⟩

/-- Every command goes on to a state that the part can come to by one of the effects. -/
theorem exec_does (c : Instr) (s : State) : ∃ u v, s.Reaches u ∧ exec c s = .next v ∧ u.Does v := by
  have advanced : ∀ dt, (∃ v, exec c s = .next v ∧ (s.advance dt).Does v) →
      ∃ u v, s.Reaches u ∧ exec c s = .next v ∧ u.Does v :=
    fun dt ⟨v, hv, hd⟩ => ⟨_, v, s.reaches_advance dt, hv, hd⟩
  cases hc : requestOf c with
  | some r => exact advanced r.1 (exec_request_does hc s)
  | none =>
    cases c
    case badOperation dt h code => exact advanced dt (execBadOperation_does dt h code s)
    case markedCharacter dt p o =>
      exact advanced dt ⟨_, rfl, State.does_character fun l hl => .marked p l (l.heard _) o hl rfl rfl⟩
    case oversizeLen dt p o => exact advanced dt ⟨_, rfl, State.does_unmarkedCharacter ..⟩
    case frameEnd dt p o => exact advanced dt ⟨_, rfl, State.does_unmarkedCharacter ..⟩
    case discardedFrameEnd dt p o => exact advanced dt ⟨_, rfl, State.does_unmarkedCharacter ..⟩
    case marker0Character dt p o => exact advanced dt ⟨_, rfl, State.does_unmarkedCharacter ..⟩
    case framingError dt p low =>
      exact advanced dt ⟨_, rfl, State.does_character fun l hl => .endsEarly p l (l.heardError _ _ low) hl rfl rfl⟩
    case gapExpiry t p => exact ⟨_, _, s.reaches_lineSeen t.dt p t.busy, rfl, State.does_gap ..⟩
    case stuckLine t p low => exact advanced t.dt (execStuckLine_does t p low s)
    case recovery dt p => exact advanced dt (execRecovery_does dt p s)
    case recoveryTimerRestart dt p low => exact advanced dt (execRecoveryTimerRestart_does dt p low s)
    case windowExpiry dt b => exact advanced dt (execWindowExpiry_does dt b s)
    case probeWindowExpiry dt b => exact advanced dt (execProbeWindowExpiry_does dt b s)
    case ageingExpiry dt => exact advanced dt (execAgeingExpiry_does dt s)
    case shadowCopyCompletion dt => exact advanced dt (execShadowCopyCompletion_does dt s)
    case takeItem t p => exact ⟨_, _, s.reaches_lineSeen t.dt p t.busy, rfl, .takes p⟩
    case deferWaitEnd t p =>
      exact ⟨_, _, s.reaches_lineSeen t.dt p t.busy, rfl,
        State.does_endWait _ p _ fun _ _ => Tx.current?_of_deferred?⟩
    case backoffWaitEnd t p =>
      exact ⟨_, _, s.reaches_lineSeen t.dt p t.busy, rfl,
        State.does_endWait _ p _ fun _ _ => Tx.current?_of_backedOff?⟩
    case contention t p back => exact advanced t.dt (execContention_does t p back s)
    case transmissionComplete t p => exact advanced t.dt (execTransmissionComplete_does t p s)
    case hardwareReset dt straps => exact advanced dt ⟨_, rfl, .resets straps⟩
    all_goals cases hc

/-! ### The induction over a step -/

/-- A step takes the front command off the queue, lets the clock and the line move on, and does one of the effects;
or nothing waits, and it does nothing. -/
theorem step_does {s t : State} (h : step s = .next t) :
    t = s ∨ ∃ rest u, State.Reaches { s with pending := rest } u ∧ u.Does t := by
  unfold step at h
  split at h
  case h_1 => cases h; exact .inl rfl
  case h_2 c rest _ =>
    obtain ⟨u, v, hu, hv, hd⟩ := exec_does c { s with pending := rest }
    rw [hv] at h
    cases h
    exact .inr ⟨rest, u, hu, hd⟩

/-- A property that holds on through the clock, the line and every effect holds on through a step. -/
theorem step_keeps {I : State → Prop} (hpending : ∀ s rest, I s → I { s with pending := rest })
    (hadvance : ∀ s dt, I s → I (s.advance dt)) (hline : ∀ s p busy, I s → I (s.lineSeen p busy))
    (hdoes : ∀ u t, I u → u.Does t → I t) {s t : State} (h : step s = .next t) (hs : I s) : I t := by
  obtain rfl | ⟨rest, u, ⟨dt, rfl | ⟨p, busy, rfl⟩⟩, hd⟩ := step_does h
  · exact hs
  · exact hdoes _ _ (hadvance _ dt (hpending s rest hs)) hd
  · exact hdoes _ _ (hline _ p busy (hadvance _ dt (hpending s rest hs))) hd

end Sys2Proof.Machine
end

section
/-! PROOFS. What a management request can do: the operations of chapter 8, each a change that is answered. -/

namespace Sys2Proof.Machine

/-! ### The changes that a response follows (sections 8.3 to 8.6) -/

/-- What an operation changes before its response is offered. -/
inductive State.Manages (s : State) : State → Prop where
  | nothing : s.Manages s
  | clearsPort (p : PortId) : s.Manages (s.clearPortCounters p)
  | clearsBridge : s.Manages { s with counters := .zero }
  | invalidates (index : Octet) : s.Manages (s.writeShadow index none)
  | writes (index base mask action port window retries : Octet) (e : Entry) :
      entryOf base mask action port window retries = some e → s.Manages (s.writeShadow index (some e))
  | clearsShadow : s.Manages { s with table := { s.table with shadow := List.replicate 64 none } }
  | forgets (a : Octet) : s.Manages (s.setLearned (s.table.learned.map (forgetPlace a)))
  | forgetsAll : s.Manages (s.setLearned (s.table.learned.map (fun _ => none)))
  | configures (b : BranchId) (rate guard unsolicited broadcast probe : Octet) :
      s.Manages (s.configure b rate guard unsolicited broadcast probe)
  | enables (p : PortId) : s.Manages (s.enable p)
  | disables (b : BranchId) : s.Manages (s.disable b)
  | flushes : s.Manages s.flushed
  | restarts : s.Manages { s with mgmt := { s.mgmt with restart := true } }

/-- What a management request comes to: a change and its response, a shadow copy, or the settings of SET-BRIDGE with
the offer that they can make due (R164, R165, R170). -/
inductive State.Operates (s : State) (h : Header) : State → Prop where
  | answers {v : State} (code : Octet) (status : Status) (data : List Octet) : s.Manages v →
      s.Operates h (v.respond h code status data)
  | prepares : s.Operates h (s.startCopy h .prepare)
  | commits : s.Operates h (State.startCopy { s with table := s.table.swap } h .commit)
  | setsBridge (policy window retries ageing dest : Octet) :
      s.Operates h (((s.configureBridge policy window retries ageing dest).respond h 0x0E .ok []).offerAlert)

section

variable {s : State} {h : Header}

theorem State.operates_withLen {code : Octet} {op : State → State} (hop : s.Operates h (op s)) :
    s.Operates h (s.withLen h code op) := by
  unfold State.withLen
  split
  · exact .answers _ _ _ .nothing
  · split
    · exact hop
    · exact .answers _ _ _ .nothing

theorem State.operates_refused (code : Octet) (status : Status) : s.Operates h (s.respond h code status []) :=
  .answers _ _ _ .nothing

theorem State.operates_readPort (port clear : Octet) : s.Operates h (s.readPort h port clear) :=
  State.operates_withLen <| by
    split
    case h_1 => exact State.operates_refused ..
    case h_2 p _ =>
      split_ifs
      · exact .answers _ _ _ .nothing
      · exact .answers _ _ _ (.clearsPort p)
      · exact State.operates_refused ..

theorem State.operates_readBridge (clear : Octet) : s.Operates h (s.readBridge h clear) :=
  State.operates_withLen <| by
    split_ifs
    · exact .answers _ _ _ .nothing
    · exact .answers _ _ _ .clearsBridge
    · exact State.operates_refused ..

theorem State.operates_readExchanges (first count : Octet) : s.Operates h (s.readExchanges h first count) :=
  State.operates_withLen <| by split_ifs <;> exact .answers _ _ _ .nothing

theorem State.operates_readEntry (bank index : Octet) : s.Operates h (s.readEntry h bank index) :=
  State.operates_withLen <| by split_ifs <;> exact .answers _ _ _ .nothing

theorem State.operates_readLearned (first count : Octet) : s.Operates h (s.readLearned h first count) :=
  State.operates_withLen <| by split_ifs <;> exact .answers _ _ _ .nothing

theorem State.operates_writeEntry (index valid base mask action port window retries : Octet) :
    s.Operates h (s.writeEntry h index valid base mask action port window retries) :=
  State.operates_withLen <| by
    split_ifs
    · exact State.operates_refused ..
    · exact State.operates_refused ..
    · exact .answers _ _ _ (.invalidates index)
    · split
      case h_1 => exact State.operates_refused ..
      case h_2 e he => exact .answers _ _ _ (.writes index base mask action port window retries e he)

theorem State.operates_commit (expected : Word) : s.Operates h (s.commit h expected) :=
  State.operates_withLen <| by
    split_ifs
    · exact .commits
    · exact .answers _ _ _ .nothing

theorem State.operates_setPortSettings (port rate guard unsolicited broadcast probe : Octet) :
    s.Operates h (s.setPortSettings h port rate guard unsolicited broadcast probe) :=
  State.operates_withLen <| by
    split
    case h_1 => exact State.operates_refused ..
    case h_2 p _ =>
      split
      case h_1 => exact State.operates_refused ..
      case h_2 b _ =>
        split_ifs
        · exact State.operates_refused ..
        · exact State.operates_refused ..
        · exact .answers _ _ _ (.configures b rate guard unsolicited broadcast probe)

theorem State.operates_controlEnable (port : Octet) : s.Operates h (s.controlEnable h port) :=
  State.operates_withLen <| by
    split
    case h_1 => exact State.operates_refused ..
    case h_2 p _ => exact .answers _ _ _ (.enables p)

theorem State.operates_controlDisable (port : Octet) : s.Operates h (s.controlDisable h port) :=
  State.operates_withLen <| by
    split
    case h_1 => exact State.operates_refused ..
    case h_2 p _ =>
      split
      case h_1 => exact State.operates_refused ..
      case h_2 b _ => exact .answers _ _ _ (.disables b)

theorem State.operates_controlOther (port : Octet) : s.Operates h (s.controlOther h port) :=
  State.operates_withLen <| by split <;> exact State.operates_refused ..

theorem State.operates_setBridge (policy window retries ageing dest : Octet) :
    s.Operates h (s.setBridge h policy window retries ageing dest) :=
  State.operates_withLen <| by
    split_ifs
    · exact State.operates_refused ..
    · exact .setsBridge policy window retries ageing dest

theorem State.operates_badChoice (code : Octet) : s.Operates h (s.badChoice h code) :=
  State.operates_withLen (State.operates_refused ..)

/-- The cases of an operation: each payload comes to one of the changes. -/
theorem State.operates_operate (q : Nat → Octet) : s.Operates h (s.operate h q) := by
  unfold State.operate
  split
  case isTrue => exact State.operates_refused ..
  case isFalse =>
    split
    · exact State.operates_withLen (.answers _ _ _ .nothing)
    · exact State.operates_withLen (.answers _ _ _ .nothing)
    · exact State.operates_readPort ..
    · exact State.operates_readBridge ..
    · exact State.operates_readEntry ..
    · exact State.operates_writeEntry ..
    · split_ifs
      · exact State.operates_withLen (.answers _ _ _ .clearsShadow)
      · exact State.operates_withLen .prepares
      · exact State.operates_badChoice ..
    · exact State.operates_commit ..
    · exact State.operates_readLearned ..
    · split_ifs
      · exact State.operates_withLen (.answers _ _ _ (.forgets (q 2)))
      · exact State.operates_withLen (.answers _ _ _ .forgetsAll)
      · exact State.operates_badChoice ..
    · exact State.operates_readExchanges ..
    · exact State.operates_setPortSettings ..
    · split_ifs
      · exact State.operates_controlDisable ..
      · exact State.operates_controlEnable ..
      · exact State.operates_controlOther ..
    · exact State.operates_setBridge ..
    · exact State.operates_withLen (.answers _ _ _ .flushes)
    · exact State.operates_withLen (.answers _ _ _ .restarts)
    · exact State.operates_refused ..

end

end Sys2Proof.Machine
end

section
/-! PROOFS. What dispatch can do with a good frame, and what a receiver can do with a character (chapters 4 and 6). -/

namespace Sys2Proof.Machine

/-! ### The fate of a good frame (R75 to R90) -/

/-- What becomes of a good frame in buffer `b` on port `p`. -/
inductive State.Dispatches (u : State) (p : PortId) (b : BufId) : State → Prop where
  | malformed : u.Dispatches p b ((u.countPort p .malformed).release b)
  | released : u.Dispatches p b (u.release b)
  | refusesBusy (h : Header) : (u.release b).mgmt.phase ≠ .idle → u.Dispatches p b ((u.release b).refuseBusy h)
  | operates {v : State} (h : Header) : p = .p0 → (u.release b).mgmt.phase = .idle → (u.release b).Operates h v →
      u.Dispatches p b v
  | places (f : Frame) (targets : List BranchId) : u.Dispatches p b (u.placeNotices f b targets)
  | refuses (r : RefusalItem) : u.Dispatches p b (u.refuseAtOnce b r)
  | counts (c : BridgeCounter) : u.Dispatches p b ((u.release b).count c)
  | opensDirect (f : Frame) (x : SlotNo) (q : BranchId) (window : Octet) (retries : Fin 4) (viaLearned : Bool) :
      u.keyInUse f.requestKey = false → u.freeRecord = some x → u.isActive (branchPort q) = true →
      (u.branch q).queue.length < branchQueueLimit →
      u.Dispatches p b (u.openDirectAt x f b q window retries viaLearned)
  | opensProbe (f : Frame) (x : SlotNo) : u.keyInUse f.requestKey = false → u.freeRecord = some x →
      setEmpty u.probeSet = false → u.Dispatches p b (u.openProbeAt x f b u.probeSet)
  | answersDirect (f : Frame) (q : BranchId) (sl : Slot) (e : Exchange) (d : Direct) : (u.branch q).slot = some sl →
      u.record sl.exch = some e → sl.kind = .request → e.mode = .direct d → d.phase = .awaiting →
      u.Dispatches p b (u.matched q sl.exch e d f b)
  | answersFirst (q : BranchId) (sl : Slot) (e : Exchange) (w : Probe) : (u.branch q).slot = some sl →
      u.record sl.exch = some e → sl.kind = .probe → e.mode = .probe w → sl.deadline.isSome = true →
      w.phase = .probing → u.Dispatches p b (u.firstAnswer q sl.exch e w b)
  | answersAgain (q : BranchId) (sl : Slot) (e : Exchange) (w : Probe) : (u.branch q).slot = some sl →
      u.record sl.exch = some e → sl.kind = .probe → e.mode = .probe w → sl.deadline.isSome = true →
      w.phase = .settling → u.Dispatches p b (u.furtherAnswer q sl.exch e w b)
  | acceptsLate (f : Frame) (q : BranchId) (x : SlotNo) (e : Exchange) (d : Direct) : u.record x = some e →
      e.mode = .direct d → d.phase = .repeating → (u.branch q).holder = some x →
      u.Dispatches p b (u.lateAccepted q x e d f b)
  | unsolicited (q : BranchId) : u.Dispatches p b (u.unsolicitedFrame q b)
  | lateUnsolicited (q : BranchId) : u.Dispatches p b ((u.countPort (branchPort q) .late).unsolicitedFrame q b)
  | lateDiscarded (q : BranchId) : u.Dispatches p b ((u.countPort (branchPort q) .late).release b)

section

variable {u : State} {p : PortId} {b : BufId}

theorem State.dispatches_openDirect (f : Frame) (q : BranchId) (window : Octet) (retries : Fin 4) (viaLearned : Bool) :
    u.Dispatches p b (u.openDirect f b q window retries viaLearned) := by
  unfold State.openDirect
  split
  case isTrue => exact .counts .duplicates
  case isFalse hkey =>
    split
    case isTrue => exact .refuses _
    case isFalse hactive =>
      split
      case h_1 => exact .refuses _
      case h_2 x hx =>
        split
        case isTrue hroom =>
          exact .opensDirect f x q window retries viaLearned (by simpa using hkey) hx (by simpa using hactive) hroom
        case isFalse => exact .refuses _

theorem State.dispatches_openProbe (f : Frame) : u.Dispatches p b (u.openProbe f b) := by
  unfold State.openProbe
  split
  case isTrue => exact .counts .duplicates
  case isFalse hkey =>
    split
    case h_1 => exact .counts .probesSkipped
    case h_2 x hx =>
      split
      case isTrue => exact .counts .probesSkipped
      case isFalse hset => exact .opensProbe f x (by simpa using hkey) hx (by simpa using hset)

theorem State.dispatches_trunkRequest (f : Frame) (r : Resolved) : u.Dispatches p b (u.trunkRequest f b r) := by
  cases r with
  | forward q window retries viaLearned => exact State.dispatches_openDirect ..
  | probe => exact State.dispatches_openProbe f
  | block => exact .refuses _
  | conflict => exact .refuses _
  | onTrunk => exact .released
  | ignore => exact .released

theorem State.dispatches_directedNotice (f : Frame) (r : Resolved) : u.Dispatches p b (u.directedNotice f b r) := by
  cases r with
  | forward q window retries viaLearned => exact .places f [q]
  | probe => exact .places f _
  | onTrunk => exact .released
  | block => exact .released
  | conflict => exact .released
  | ignore => exact .released

theorem State.dispatches_toOwn (f : Frame) : u.Dispatches .p0 b (u.toOwn f b) := by
  unfold State.toOwn
  split
  case h_1 =>
    unfold State.deliver
    split
    case isTrue hidle => exact .operates f.header rfl hidle (State.operates_operate _)
    case isFalse hbusy => exact .refusesBusy f.header hbusy
  all_goals exact .released

theorem State.dispatches_trunkFrame (f : Frame) : u.Dispatches .p0 b (u.trunkFrame f b) := by
  unfold State.trunkFrame
  split_ifs
  · exact State.dispatches_toOwn f
  · exact .places f _
  · exact .released
  · split
    · exact State.dispatches_directedNotice ..
    · exact State.dispatches_trunkRequest ..
    all_goals exact .released

/-- What the slot of branch `q` recognises (R37 cases 2 and 3). -/
theorem State.dispatches_slotCase {q : BranchId} {f : Frame} {c : AnswerCase} (hc : u.slotCase q f = some c) :
    u.answerCase q f = c → u.Dispatches p b (u.branchFrame q f b) := by
  intro hcase
  unfold State.slotCase at hc
  split at hc
  case h_1 => cases hc
  case h_2 sl hslot =>
    split at hc
    case h_1 => cases hc
    case h_2 e hrecord =>
      split at hc
      case h_1 d hkind hmode =>
        split at hc
        case isTrue h =>
          cases hc
          rw [State.branchFrame_of_matched hcase]
          exact .answersDirect f q sl e d hslot hrecord hkind hmode h.1
        case isFalse => cases hc
      case h_2 w hkind hmode =>
        split at hc
        case isTrue h =>
          split at hc
          case h_1 hphase =>
            cases hc
            rw [State.branchFrame, hcase]
            exact .answersFirst q sl e w hslot hrecord hkind hmode h.2 hphase
          case h_2 hphase =>
            cases hc
            rw [State.branchFrame_of_further hcase]
            exact .answersAgain q sl e w hslot hrecord hkind hmode h.2 hphase
        case isFalse => cases hc
      all_goals cases hc

/-- What the last-timed-out record of branch `q` makes of an answer (R37 case 4, R41, R42). -/
theorem State.dispatches_lateCase {q : BranchId} {f : Frame} (hcase : u.answerCase q f = u.lateCase q f) :
    u.Dispatches p b (u.branchFrame q f b) := by
  have unsolicited : u.answerCase q f = .unsolicited → u.Dispatches p b (u.branchFrame q f b) := fun h => by
    rw [State.branchFrame_of_unsolicited h]; exact .unsolicited q
  have discarded : u.answerCase q f = .lateDiscarded → u.Dispatches p b (u.branchFrame q f b) := fun h => by
    rw [State.branchFrame_of_lateDiscarded h]; exact .lateDiscarded q
  unfold State.lateCase at hcase
  split at hcase
  case h_1 => exact unsolicited hcase
  case h_2 k x _ =>
    split at hcase
    case isFalse => exact unsolicited hcase
    case isTrue =>
      split at hcase
      case h_1 => exact discarded hcase
      case h_2 e hrecord =>
        split at hcase
        case isFalse => exact discarded hcase
        case isTrue =>
          split at hcase
          case h_2 => exact discarded hcase
          case h_1 d hmode =>
            split at hcase
            case isTrue h =>
              rw [State.branchFrame_of_lateAccepted hcase]
              exact .acceptsLate f q x e d hrecord hmode h.1 h.2
            case isFalse =>
              split at hcase
              case isTrue => rw [State.branchFrame_of_lateUnsolicited hcase]; exact .lateUnsolicited q
              case isFalse => exact discarded hcase

theorem State.dispatches_branchFrame (q : BranchId) (f : Frame) : u.Dispatches p b (u.branchFrame q f b) := by
  cases hans : f.isAnswer with
  | false =>
    rw [State.branchFrame_of_unsolicited (State.answerCase_of_not_answer hans)]
    exact .unsolicited q
  | true =>
    cases hc : u.slotCase q f with
    | some c => exact State.dispatches_slotCase hc (State.answerCase_of_slotCase hans hc)
    | none => exact State.dispatches_lateCase (State.answerCase_of_slotCase_none hans hc)

theorem State.dispatches_dispatch : u.Dispatches p b (u.dispatch p b) := by
  unfold State.dispatch
  split
  case isTrue => exact .malformed
  case isFalse =>
    cases p with
    | p0 => exact State.dispatches_trunkFrame _
    | p1 => exact State.dispatches_branchFrame .b1 _
    | p2 => exact State.dispatches_branchFrame .b2 _
    | p3 => exact State.dispatches_branchFrame .b3 _

end

/-! ### A character with marker 0 (R122, R123, R127, R128) -/

/-- What becomes of a character with marker 0 at port `p`, with `m` at work in it from now on. -/
inductive State.Receives (u : State) (p : PortId) (m : Live) : State → Prop where
  | hunts : m.rx = .hunt → u.Receives p m (u.setLive p m)
  | stores (b : BufId) (o : Octet) : m.rx = .collect b →
      u.Receives p m (State.setLive { u with pool := u.pool.store b o } p m)
  | fails (b : BufId) (o : Octet) (c : PortCounter) : m.rx = .collect b →
      u.Receives p m (((State.setRx { u with pool := u.pool.store b o } p m .hunt).countPort p c).release b)
  | hands {v : State} (b : BufId) (o : Octet) : m.rx = .collect b →
      ((State.setRx { u with pool := u.pool.store b o } p m .hunt).countPort p .framesIn).Dispatches p b v →
      u.Receives p m v
  | follows (n k : Nat) (len next : Option Octet) : m.rx = .discard n len →
      u.Receives p m (u.setRx p m (.discard k next))
  | ends (n : Nat) (len : Option Octet) : m.rx = .discard n len → u.Receives p m (u.setRx p m .hunt)

theorem State.receives_collectOctet {u : State} {p : PortId} {m : Live} {b : BufId} (hrx : m.rx = .collect b)
    (o : Octet) : u.Receives p m (u.collectOctet p m b o) := by
  unfold State.collectOctet
  simp only
  split
  · exact .fails b o .malformed hrx
  · split
    · unfold State.frameDone
      split
      · exact .hands b o hrx State.dispatches_dispatch
      · exact .fails b o .checkErrors hrx
    · exact .stores b o hrx

theorem State.receives_discardOctet {u : State} {p : PortId} {m : Live} {n : Nat} {len : Option Octet}
    (hrx : m.rx = .discard n len) (o : Octet) : u.Receives p m (u.discardOctet p m n len o) := by
  unfold State.discardOctet
  split
  · split
    · exact .ends n len hrx
    · exact .follows n 4 len _ hrx
  · split
    · exact .follows n _ _ _ hrx
    · split
      · exact .ends n _ hrx
      · exact .follows n _ _ _ hrx

theorem State.receives_unmarked (u : State) (p : PortId) (o : Octet) (m : Live) :
    u.Receives p m (u.unmarked p o m) := by
  unfold State.unmarked
  split
  case h_1 hrx => exact .hunts hrx
  case h_2 b hrx => exact State.receives_collectOctet hrx o
  case h_3 n len hrx => exact State.receives_discardOctet hrx o

end Sys2Proof.Machine
end

section
/-! PROOFS. What the operations of dispatch, the receivers, the transmitters and the timers can change: one frame
equation for each, in the manner of the laws of the shared operations. -/

namespace Sys2Proof.Machine

/-! ### Two effects of one instant (log 11) -/

/-- What both effects of an instant leave alone, and what leaves the count of draws aside, stays as it was in either
order. -/
theorem State.bothOrders_keeps {α : Type} (f : State → α) {s : State} {effect alert : State → State}
    (heffect : ∀ t, f (effect t) = f t) (halert : ∀ t, f (alert t) = f t)
    (hchoices : f { s with choices := s.choices + 1 } = f s) : f (s.bothOrders effect alert) = f s := by
  rcases State.bothOrders_cases s effect alert with h | h | h <;> rw [h]
  · rw [halert, heffect]
  · rw [heffect, halert, hchoices]
  · rw [halert, heffect, hchoices]

/-- What both effects of an instant keep holds after them, in either order. -/
theorem State.bothOrders_induction {I : State → Prop} {s : State} {effect alert : State → State}
    (heffect : ∀ t, I t → I (effect t)) (halert : ∀ t, I t → I (alert t))
    (hchoices : I s → I { s with choices := s.choices + 1 }) (hs : I s) : I (s.bothOrders effect alert) := by
  rcases State.bothOrders_cases s effect alert with h | h | h <;> rw [h]
  · exact halert _ (heffect _ hs)
  · exact heffect _ (halert _ (hchoices hs))
  · exact halert _ (heffect _ (hchoices hs))

/-! ### The management unit -/

/-- A response is offered, or dropped with the unit IDLE, or it is the response of a RESTART and the part is reset
(R154, R172; log 17). -/
theorem State.respond_cases (s : State) (h : Header) (code : Octet) (status : Status) (data : List Octet) :
    (s.admits .response = true ∧ s.respond h code status data =
      { s.enqueue .response with mgmt :=
        { s.mgmt with phase := .answering, response := responseFrame s.ownAddress h code status data } }) ∨
    (s.admits .response = false ∧ s.mgmt.restart = false ∧ s.respond h code status data =
      { s with mgmt := { s.mgmt with phase := .idle, response := responseFrame s.ownAddress h code status data } }) ∨
    (s.mgmt.restart = true ∧ s.respond h code status data = s.resetAt s.strapPins) := by
  unfold State.respond
  cases ha : s.admits .response with
  | true => exact .inl ⟨rfl, if_pos rfl⟩
  | false =>
    rw [if_neg Bool.false_ne_true]
    cases hr : s.mgmt.restart with
    | false =>
      exact .inr (.inl ⟨rfl, rfl, State.settleRestart_of_clear
        (s := { s with mgmt := { s.mgmt with phase := .idle, response := _ } }) hr _⟩)
    | true =>
      exact .inr (.inr ⟨rfl, State.settleRestart_of_set
        (s := { s with mgmt := { s.mgmt with phase := .idle, response := _ } }) hr rfl _⟩)

theorem State.refuseBusy_frame (s : State) (h : Header) :
    s.refuseBusy h =
      { s with trunkQueue := (s.refuseBusy h).trunkQueue, counters := (s.refuseBusy h).counters } := by
  unfold State.refuseBusy
  dsimp only
  split <;> rfl

theorem State.settleRestart_cases (s : State) (straps : Straps) :
    s.settleRestart straps = s ∨
    (s.mgmt.restart = true ∧ s.mgmt.phase = .idle ∧ s.settleRestart straps = s.resetAt straps) := by
  unfold State.settleRestart
  split
  case isTrue h => exact .inr ⟨h.1, h.2, rfl⟩
  case isFalse => exact .inl rfl

/-! ### Dispatch -/

theorem State.placeNotices_frame (s : State) (f : Frame) (b : BufId) (targets : List BranchId) :
    s.placeNotices f b targets =
      { s with
        ports := (s.placeNotices f b targets).ports
        branches := (s.placeNotices f b targets).branches
        pool := (s.placeNotices f b targets).pool } := by
  have hfold : ∀ (qs : List BranchId) (t : State), qs.foldl (State.placeNotice f b) t =
      { t with
        ports := (qs.foldl (State.placeNotice f b) t).ports
        branches := (qs.foldl (State.placeNotice f b) t).branches
        pool := (qs.foldl (State.placeNotice f b) t).pool } := by
    intro qs
    induction qs with
    | nil => exact fun t => rfl
    | cons q qs ih => intro t; rw [List.foldl_cons, ih, State.placeNotice_frame]
  unfold State.placeNotices State.release
  rw [hfold]

theorem State.placeProbes_frame (x : SlotNo) (f : Frame) (b : BufId) (set : PerBranch Bool) (qs : List BranchId)
    (s : State) :
    qs.foldl (State.placeProbe x f b set) s =
      { s with
        branches := (qs.foldl (State.placeProbe x f b set) s).branches
        pool := (qs.foldl (State.placeProbe x f b set) s).pool } := by
  induction qs generalizing s with
  | nil => rfl
  | cons q qs ih => rw [List.foldl_cons, ih, State.placeProbe_frame]

theorem State.openProbeAt_frame (s : State) (x : SlotNo) (f : Frame) (b : BufId) (set : PerBranch Bool) :
    s.openProbeAt x f b set =
      { s with
        branches := (s.openProbeAt x f b set).branches
        records := (s.openProbeAt x f b set).records
        pool := (s.openProbeAt x f b set).pool
        counters := (s.openProbeAt x f b set).counters } := by
  unfold State.openProbeAt
  rw [State.placeProbes_frame]
  rfl

theorem State.refreshFor_frame (s : State) (e : Exchange) (d : Direct) (f : Frame) :
    s.refreshFor e d f = { s with table := (s.refreshFor e d f).table } := by
  rw [State.refreshFor_eq]

theorem State.matched_frame (s : State) (q : BranchId) (x : SlotNo) (e : Exchange) (d : Direct) (f : Frame) (b : BufId) :
    s.matched q x e d f b =
      { s with
        branches := (s.matched q x e d f b).branches
        table := (s.matched q x e d f b).table
        records := (s.matched q x e d f b).records
        pool := (s.matched q x e d f b).pool
        trunkQueue := (s.matched q x e d f b).trunkQueue
        counters := (s.matched q x e d f b).counters } := by
  unfold State.matched
  rw [State.returnFrame_frame, State.refreshFor_frame]
  rfl

theorem State.lateAccepted_frame (s : State) (q : BranchId) (x : SlotNo) (e : Exchange) (d : Direct) (f : Frame)
    (b : BufId) :
    s.lateAccepted q x e d f b =
      { s with
        branches := (s.lateAccepted q x e d f b).branches
        table := (s.lateAccepted q x e d f b).table
        records := (s.lateAccepted q x e d f b).records
        pool := (s.lateAccepted q x e d f b).pool
        trunkQueue := (s.lateAccepted q x e d f b).trunkQueue
        counters := (s.lateAccepted q x e d f b).counters } := by
  unfold State.lateAccepted
  rw [State.returnFrame_frame, State.refreshFor_frame]
  rfl

theorem State.unsolicitedFrame_frame (s : State) (q : BranchId) (b : BufId) :
    s.unsolicitedFrame q b =
      { s with
        ports := (s.unsolicitedFrame q b).ports
        pool := (s.unsolicitedFrame q b).pool
        trunkQueue := (s.unsolicitedFrame q b).trunkQueue } := by
  unfold State.unsolicitedFrame
  split
  · rfl
  · split <;> rfl

/-- A first answer up to its return (R62, R63, R64): the slot is free, the waiting copies are removed, the request is
released, and the station is learned. -/
def State.firstTaken (s : State) (p : BranchId) (x : SlotNo) (e : Exchange) : State :=
  ((allBranches.foldl (State.cancelIn x) (s.setSlot p none)).releaseOpt e.request).learn e.key.station p

/-- The probe that a first answer leaves: without the answering branch, and without the cancelled copies (R63). -/
def State.firstLeft (s : State) (p : BranchId) (x : SlotNo) (q : Probe) : Probe :=
  { q with set := s.setAfterCancel x (branchSet q.set p false) }

/-- A first answer is returned, and a conflict is alerted in an order that is left open (R64; log 11). -/
theorem State.firstAnswer_eq (s : State) (p : BranchId) (x : SlotNo) (e : Exchange) (q : Probe) (b : BufId) :
    s.firstAnswer p x e q b =
      if (s.table.learn e.key.station p).2 = .conflicted then
        (s.firstTaken p x e).bothOrders (fun t => t.returnAnswer x e (s.firstLeft p x q) b)
          (fun t => t.raise .addressConflict e.key.station)
      else (s.firstTaken p x e).returnAnswer x e (s.firstLeft p x q) b := rfl

theorem State.cancelAll_frame (x : SlotNo) (qs : List BranchId) (s : State) :
    qs.foldl (State.cancelIn x) s =
      { s with
        branches := (qs.foldl (State.cancelIn x) s).branches
        pool := (qs.foldl (State.cancelIn x) s).pool } := by
  induction qs generalizing s with
  | nil => rfl
  | cons q qs ih => rw [List.foldl_cons, ih, State.cancelIn_frame]

theorem State.firstTaken_frame (s : State) (p : BranchId) (x : SlotNo) (e : Exchange) :
    s.firstTaken p x e =
      { s with
        branches := (s.firstTaken p x e).branches
        pool := (s.firstTaken p x e).pool
        table := (s.firstTaken p x e).table
        counters := (s.firstTaken p x e).counters } := by
  unfold State.firstTaken
  rw [State.learn_frame, State.releaseOpt_frame, State.cancelAll_frame]
  rfl

/-- A first answer keeps what the return and the alert of a conflict keep. -/
theorem State.firstAnswer_induction {I : State → Prop} {s : State} {p : BranchId} {x : SlotNo} {e : Exchange} {q : Probe}
    {b : BufId} (hreturn : ∀ t, I t → I (t.returnAnswer x e (s.firstLeft p x q) b))
    (hraise : ∀ t, I t → I (t.raise .addressConflict e.key.station))
    (hchoices : I (s.firstTaken p x e) → I { s.firstTaken p x e with choices := (s.firstTaken p x e).choices + 1 })
    (hs : I (s.firstTaken p x e)) : I (s.firstAnswer p x e q b) := by
  rw [State.firstAnswer_eq]
  split
  · exact State.bothOrders_induction hreturn hraise hchoices hs
  · exact hreturn _ hs

/-! ### Receivers -/

theorem State.startFrame_cases (s : State) (p : PortId) (l : Live) (o : Octet) :
    (∃ b, (s.claim p).1 = some b ∧ s.startFrame p l o =
      { (s.claim p).2.setRx p l (.collect b) with pool := (s.claim p).2.pool.store b o }) ∨
    ((s.claim p).1 = none ∧ s.startFrame p l o = ((s.claim p).2.setRx p l (.discard 1 none)).countPort p .nobufDrops) := by
  unfold State.startFrame
  rcases hc : s.claim p with ⟨_ | b, t⟩
  · exact .inr ⟨rfl, rfl⟩
  · exact .inl ⟨b, rfl, rfl⟩

theorem State.startFrame_frame (s : State) (p : PortId) (l : Live) (o : Octet) :
    s.startFrame p l o =
      { s with
        ports := (s.startFrame p l o).ports
        pool := (s.startFrame p l o).pool
        trunkQueue := (s.startFrame p l o).trunkQueue
        alerts := (s.startFrame p l o).alerts } := by
  rcases State.startFrame_cases s p l o with ⟨b, -, h⟩ | ⟨-, h⟩ <;>
    · rw [h]
      simp only [State.setRx, State.setLive, State.setLine, State.setPort, State.countPort]
      rw [State.claim_frame]

theorem State.marked_frame (s : State) (p : PortId) (l : Live) (o : Octet) :
    s.marked p o l =
      { s with
        ports := (s.marked p o l).ports
        pool := (s.marked p o l).pool
        trunkQueue := (s.marked p o l).trunkQueue
        alerts := (s.marked p o l).alerts } := by
  unfold State.marked
  rw [State.startFrame_frame, State.endEarly_frame]
  rfl

/-! ### Transmitters and response windows -/

theorem State.windowExpired_frame (s : State) (p : BranchId) (x : SlotNo) (e : Exchange) (d : Direct) :
    s.windowExpired p x e d =
      { s with
        branches := (s.windowExpired p x e d).branches
        records := (s.windowExpired p x e d).records
        pool := (s.windowExpired p x e d).pool
        trunkQueue := (s.windowExpired p x e d).trunkQueue
        counters := (s.windowExpired p x e d).counters } := by
  unfold State.windowExpired
  dsimp only
  split
  · rfl
  · rw [State.refuse_frame]; rfl

theorem State.takeHolder_frame (s : State) (b : BranchId) (x : SlotNo) (l : Live) :
    s.takeHolder b x l =
      { s with
        ports := (s.takeHolder b x l).ports
        branches := (s.takeHolder b x l).branches
        records := (s.takeHolder b x l).records
        pool := (s.takeHolder b x l).pool } := by
  unfold State.takeHolder
  split
  · rfl
  · split
    · rw [State.take_frame]; rfl
    · rfl
    · rfl

theorem State.takeBranch_frame (s : State) (b : BranchId) (l : Live) :
    s.takeBranch b l =
      { s with
        ports := (s.takeBranch b l).ports
        branches := (s.takeBranch b l).branches
        pool := (s.takeBranch b l).pool } := by
  unfold State.takeBranch
  split
  · rfl
  · rw [State.take_frame]; rfl

theorem State.takeTrunk_frame (s : State) (l : Live) :
    s.takeTrunk l =
      { s with
        ports := (s.takeTrunk l).ports
        pool := (s.takeTrunk l).pool
        trunkQueue := (s.takeTrunk l).trunkQueue } := by
  unfold State.takeTrunk
  split
  · rfl
  · rw [State.take_frame]

/-- What an IDLE transmitter of an ACTIVE port takes, where it takes something (R131, R32, R33, R108). -/
theorem State.takeItem_cases (s : State) (p : PortId) :
    s.takeItem p = s ∨
    (∃ l, p = .p0 ∧ s.live? .p0 = some l ∧ l.tx = .idle ∧ s.takeItem p = s.takeTrunk l) ∨
    (∃ b l x, p = branchPort b ∧ s.live? (branchPort b) = some l ∧ l.tx = .idle ∧ (s.branch b).slot = none ∧
      (s.branch b).holder = some x ∧ s.takeItem p = s.takeHolder b x l) ∨
    (∃ b l, p = branchPort b ∧ s.live? (branchPort b) = some l ∧ l.tx = .idle ∧ (s.branch b).slot = none ∧
      (s.branch b).holder = none ∧ s.takeItem p = s.takeBranch b l) := by
  cases hl : s.live? p with
  | none => exact .inl (by simp only [State.takeItem, hl])
  | some l =>
    cases htx : l.tx with
    | idle =>
      have hp : p = .p0 ∨ ∃ b, branchPort b = p := by
        cases p
        · exact .inl rfl
        · exact .inr ⟨.b1, rfl⟩
        · exact .inr ⟨.b2, rfl⟩
        · exact .inr ⟨.b3, rfl⟩
      rcases hp with rfl | ⟨b, rfl⟩
      · exact .inr (.inl ⟨l, rfl, hl, htx, by simp only [State.takeItem, hl, htx, portBranch]⟩)
      · cases hs : (s.branch b).slot with
        | some sl => exact .inl (by simp only [State.takeItem, hl, htx, portBranch_branchPort, hs])
        | none =>
          cases hh : (s.branch b).holder with
          | some x =>
            exact .inr (.inr (.inl ⟨b, l, x, rfl, hl, htx, hs, hh, by
              simp only [State.takeItem, hl, htx, portBranch_branchPort, hs, hh]⟩))
          | none =>
            exact .inr (.inr (.inr ⟨b, l, rfl, hl, htx, hs, hh, by
              simp only [State.takeItem, hl, htx, portBranch_branchPort, hs, hh]⟩))
    | defer c => exact .inl (by simp only [State.takeItem, hl, htx])
    | send c since frame => exact .inl (by simp only [State.takeItem, hl, htx])
    | backoff c => exact .inl (by simp only [State.takeItem, hl, htx])

theorem State.takeItem_frame (s : State) (p : PortId) :
    s.takeItem p =
      { s with
        ports := (s.takeItem p).ports
        branches := (s.takeItem p).branches
        records := (s.takeItem p).records
        pool := (s.takeItem p).pool
        trunkQueue := (s.takeItem p).trunkQueue } := by
  rcases State.takeItem_cases s p with h | ⟨l, -, -, -, h⟩ | ⟨b, l, x, -, -, -, -, -, h⟩ | ⟨b, l, -, -, -, -, -, h⟩ <;>
    rw [h]
  · rw [State.takeTrunk_frame]
  · rw [State.takeHolder_frame]
  · rw [State.takeBranch_frame]

/-- What the completion of a branch item does, where the slot is still held for it (R34, R35, R59). -/
theorem State.branchSent_cases (s : State) (p : BranchId) (i : BranchItem) :
    s.branchSent p i = s ∨
    (∃ x, i.kind = .probe x ∧ s.slotHeldBy p x .probe = true ∧ s.branchSent p i = s.startDeadline p x .probe) ∨
    (∃ x e d, i.kind = .request x ∧ s.slotHeldBy p x .request = true ∧ s.record x = some e ∧ e.mode = .direct d ∧
      d.phase = .queued ∧ s.branchSent p i = (s.setRecord x (some (e.sent d))).startDeadline p x .request) := by
  unfold State.branchSent
  split
  case h_1 => exact .inl rfl
  case h_2 x hkind =>
    split
    case isTrue hheld => exact .inr (.inl ⟨x, hkind, hheld, rfl⟩)
    case isFalse => exact .inl rfl
  case h_3 x hkind =>
    split
    case isFalse => exact .inl rfl
    case isTrue hheld =>
      split
      case h_1 => exact .inl rfl
      case h_2 e hrecord =>
        split
        case h_2 => exact .inl rfl
        case h_1 d hmode =>
          split
          case isTrue hphase => exact .inr (.inr ⟨x, e, d, hkind, hheld, hrecord, hmode, hphase, rfl⟩)
          case isFalse => exact .inl rfl

/-- What the abandonment of a branch item does, where the slot is still held for it (R35, R36, R60). -/
theorem State.branchAbandoned_cases (s : State) (p : BranchId) (i : BranchItem) :
    s.branchAbandoned p i = s ∨
    (∃ x e q, i.kind = .probe x ∧ s.slotHeldBy p x .probe = true ∧ s.record x = some e ∧ e.mode = .probe q ∧
      s.branchAbandoned p i = (s.setSlot p none).loseBranch x e q p) ∨
    (∃ x e d, i.kind = .request x ∧ s.slotHeldBy p x .request = true ∧ s.record x = some e ∧ e.mode = .direct d ∧
      d.phase = .queued ∧ s.branchAbandoned p i = (s.setSlot p none).refuse x e d .contention) := by
  unfold State.branchAbandoned
  split
  case h_1 => exact .inl rfl
  case h_2 x hkind =>
    split
    case isFalse => exact .inl rfl
    case isTrue hheld =>
      split
      case h_1 => exact .inl rfl
      case h_2 e hrecord =>
        split
        case h_1 q hmode => exact .inr (.inl ⟨x, e, q, hkind, hheld, hrecord, hmode, rfl⟩)
        case h_2 => exact .inl rfl
  case h_3 x hkind =>
    split
    case isFalse => exact .inl rfl
    case isTrue hheld =>
      split
      case h_1 => exact .inl rfl
      case h_2 e hrecord =>
        split
        case h_2 => exact .inl rfl
        case h_1 d hmode =>
          split
          case isTrue hphase => exact .inr (.inr ⟨x, e, d, hkind, hheld, hrecord, hmode, hphase, rfl⟩)
          case isFalse => exact .inl rfl

theorem State.branchSent_frame (s : State) (p : BranchId) (i : BranchItem) :
    s.branchSent p i =
      { s with branches := (s.branchSent p i).branches, records := (s.branchSent p i).records } := by
  rcases State.branchSent_cases s p i with h | ⟨x, -, -, h⟩ | ⟨x, e, d, -, -, -, -, -, h⟩ <;> rw [h] <;> rfl

theorem State.branchAbandoned_frame (s : State) (p : BranchId) (i : BranchItem) :
    s.branchAbandoned p i =
      { s with
        branches := (s.branchAbandoned p i).branches
        records := (s.branchAbandoned p i).records
        pool := (s.branchAbandoned p i).pool
        trunkQueue := (s.branchAbandoned p i).trunkQueue
        counters := (s.branchAbandoned p i).counters } := by
  rcases State.branchAbandoned_cases s p i with h | ⟨x, e, q, -, -, -, -, h⟩ | ⟨x, e, d, -, -, -, -, -, h⟩ <;> rw [h]
  · rw [State.loseBranch_frame]; rfl
  · rw [State.refuse_frame]; rfl

end Sys2Proof.Machine
end

section
/-! PROOFS. A step and the queue of commands (log 2, log 14), and what a hardware reset gives (R140, R173). -/

namespace Sys2Proof.Machine

/-- Settles O1: both cases of a step are its definition. -/
theorem stepRunsFrontCommand : Obligations.StepRunsFrontCommand := by
  unfold Obligations.StepRunsFrontCommand
  refine ⟨fun c rest s => rfl, fun s hempty => ?_⟩
  rw [step, hempty]

/-! ### Every effect leaves the queue of commands alone -/

section Pending

variable {s u t : State}

theorem State.pending_settleRestart (s : State) (straps : Straps) : (s.settleRestart straps).pending = s.pending := by
  rcases s.settleRestart_cases straps with h | ⟨-, -, h⟩ <;> rw [h]
  rfl

theorem State.pending_respond (s : State) (h : Header) (code : Octet) (status : Status) (data : List Octet) :
    (s.respond h code status data).pending = s.pending := by
  rcases s.respond_cases h code status data with ⟨-, h⟩ | ⟨-, -, h⟩ | ⟨-, h⟩ <;> rw [h] <;> rfl

theorem State.Manages.pending_eq (h : s.Manages t) : t.pending = s.pending := by
  cases h with
  | enables p => exact State.enable_pending s p
  | disables b => exact State.disable_pending s b
  | flushes => exact State.flushed_pending s
  | _ => rfl

theorem State.Operates.pending_eq {h : Header} (ho : s.Operates h t) : t.pending = s.pending := by
  cases ho with
  | answers code status data hm => exact (State.pending_respond ..).trans hm.pending_eq
  | prepares => rfl
  | commits => rfl
  | setsBridge policy window retries ageing dest =>
    exact (State.offerAlert_pending _).trans (State.pending_respond ..)

theorem State.pending_firstAnswer (s : State) (p : BranchId) (x : SlotNo) (e : Exchange) (q : Probe) (b : BufId) :
    (s.firstAnswer p x e q b).pending = s.pending :=
  State.firstAnswer_induction (I := fun t => t.pending = s.pending) (fun t ht => (State.returnAnswer_pending ..).trans ht)
    (fun t ht => (State.raise_pending ..).trans ht) id (by rw [State.firstTaken_frame])

theorem State.pending_furtherAnswer (s : State) (p : BranchId) (x : SlotNo) (e : Exchange) (q : Probe) (b : BufId) :
    (s.furtherAnswer p x e q b).pending = s.pending := by
  rw [State.furtherAnswer_eq, State.alertConflict_frame]
  rfl

theorem State.Dispatches.pending_eq {p : PortId} {b : BufId} (hd : u.Dispatches p b t) : t.pending = u.pending := by
  cases hd with
  | refusesBusy h _ => rw [State.refuseBusy_frame]; rfl
  | operates h _ _ ho => exact ho.pending_eq
  | places f targets => rw [State.placeNotices_frame]
  | refuses r => exact State.refuseAtOnce_pending ..
  | opensProbe f x _ _ _ => rw [State.openProbeAt_frame]
  | answersDirect f q sl e d _ _ _ _ _ => rw [State.matched_frame]
  | answersFirst q sl e w _ _ _ _ _ _ => exact State.pending_firstAnswer ..
  | answersAgain q sl e w _ _ _ _ _ _ => exact State.pending_furtherAnswer ..
  | acceptsLate f q x e d _ _ _ _ => rw [State.lateAccepted_frame]
  | unsolicited q => rw [State.unsolicitedFrame_frame]
  | lateUnsolicited q => rw [State.unsolicitedFrame_frame]; rfl
  | _ => rfl

theorem State.Receives.pending_eq {p : PortId} {m : Live} (hr : u.Receives p m t) : t.pending = u.pending := by
  cases hr with
  | hands b o _ hd => exact hd.pending_eq
  | _ => rfl

theorem State.pending_stuck (s : State) (p : PortId) (high : Nat) (straps : Straps) :
    (s.stuck p high straps).pending = s.pending := by
  unfold State.stuck
  split
  · rw [State.pending_settleRestart, State.raise_pending, State.tearDownTrunk_pending, State.countPort_pending]
  · rw [State.bothOrders_keeps State.pending (fun t => State.tearDownBranch_pending ..) (fun t => State.raise_pending ..)
      rfl, State.countPort_pending]

theorem State.pending_ownerSent (s : State) (p : PortId) (straps : Straps) (i : TxItem) :
    (s.ownerSent p straps i).pending = s.pending := by
  unfold State.ownerSent
  split
  case h_1 i =>
    cases i with
    | response => exact State.pending_settleRestart ..
    | alert a => exact State.alertSent_pending ..
    | frameReturn x b => exact State.returnDone_pending ..
    | refusalReturn x r => exact State.returnDone_pending ..
    | _ => rfl
  case h_2 =>
    split
    · rw [State.branchSent_frame]
    · rfl

theorem State.pending_ownerAbandoned (s : State) (p : PortId) (straps : Straps) (i : TxItem) :
    (s.ownerAbandoned p straps i).pending = s.pending := by
  unfold State.ownerAbandoned
  split
  case h_1 i =>
    cases i with
    | response => exact State.pending_settleRestart ..
    | alert a => exact State.alertLost_pending ..
    | frameReturn x b => exact State.returnLost_pending ..
    | refusalReturn x r => exact State.returnLost_pending ..
    | _ => rfl
  case h_2 =>
    split
    · rw [State.branchAbandoned_frame]
    · rfl

theorem State.pending_contended (s : State) (p : PortId) (l : Live) (c : Current) (back : ReadBack) (first : Bool)
    (straps : Straps) : (s.contended p l c back first straps).pending = s.pending := by
  unfold State.contended
  dsimp only
  split
  · rfl
  · rw [State.pending_ownerAbandoned, State.releaseOpt_pending]; rfl

theorem State.pending_completed (s : State) (p : PortId) (l : Live) (c : Current) (high : Nat) (straps : Straps) :
    (s.completed p l c high straps).pending = s.pending := by
  unfold State.completed
  rw [State.pending_ownerSent, State.releaseOpt_pending]; rfl

theorem State.Does.pending_eq (hd : u.Does t) : t.pending = u.pending := by
  cases hd with
  | refusesBusy h _ => rw [State.refuseBusy_frame]
  | operates h q _ _ => exact (State.operates_operate q).pending_eq
  | copies h job since _ => cases job <;> exact State.pending_respond ..
  | marked p l m o _ _ _ => rw [State.marked_frame]
  | unmarked p l m o _ _ _ => exact (State.receives_unmarked ..).pending_eq
  | endsEarly p l m _ _ _ => exact State.endEarly_pending ..
  | stuck p l high straps _ => exact State.pending_stuck ..
  | recovers p since _ =>
    exact State.bothOrders_keeps State.pending State.offerAlert_pending (fun t => State.raise_pending ..) rfl
  | windowExpires b sl start e d _ _ _ _ => rw [State.windowExpired_frame]
  | probeExpires b sl start e q _ _ _ _ => exact State.loseBranch_pending ..
  | ages => exact State.countTimes_pending ..
  | takes p => rw [State.takeItem_frame]
  | startsSend p l c _ _ _ => exact State.startSend_pending ..
  | contends p l c since frame back first straps _ _ => exact State.pending_contended ..
  | completes p l c since frame high straps _ _ => exact State.pending_completed ..
  | _ => rfl

theorem State.Reaches.pending_eq (h : s.Reaches u) : u.pending = s.pending := by
  obtain ⟨dt, rfl | ⟨p, busy, rfl⟩⟩ := h
  · rfl
  · exact State.lineSeen_pending ..

end Pending

/-- Settles O2: every command does one of the effects, and each of them leaves the queue alone. -/
theorem everyCommandCompletes : Obligations.EveryCommandCompletes := by
  unfold Obligations.EveryCommandCompletes
  intro c s
  obtain ⟨u, v, hu, hv, hd⟩ := exec_does c s
  exact ⟨v, hv, hd.pending_eq.trans hu.pending_eq⟩

end Sys2Proof.Machine
end

section
/-! PROOFS. The state after reset keeps every invariant (sections 1.10, 2.9, 5.4, 6.5, 8.1, 9.4). -/

namespace Sys2Proof.Machine

/-! ### What the blocks hold after reset -/

section

variable (straps : Straps)

@[simp] theorem State.branch_resetWith (b : BranchId) : (State.resetWith straps).branch b = .reset := by
  cases b <;> rfl

theorem State.record_resetWith (x : SlotNo) : (State.resetWith straps).record x = none := by
  simp only [State.record, State.resetWith, List.getD_replicate _ x.isLt]

/-- A port that is ACTIVE after reset is in HUNT and IDLE (R140). -/
theorem State.line_resetWith (p : PortId) :
    ((State.resetWith straps).port p).line = .active (.fresh 0) ∨
    (p ≠ .p0 ∧ ((State.resetWith straps).port p).line = .disabled) := by
  have hbranch : (Port.resetBranch straps).line = .active (.fresh 0) ∨ (Port.resetBranch straps).line = .disabled := by
    unfold Port.resetBranch
    cases straps.start
    · exact .inr rfl
    · exact .inl rfl
  cases p with
  | p0 => exact .inl rfl
  | p1 => exact hbranch.imp id (fun h => ⟨by decide, h⟩)
  | p2 => exact hbranch.imp id (fun h => ⟨by decide, h⟩)
  | p3 => exact hbranch.imp id (fun h => ⟨by decide, h⟩)

theorem State.live?_resetWith {p : PortId} {l : Live} (h : (State.resetWith straps).live? p = some l) : l = .fresh 0 := by
  unfold State.live? at h
  rcases State.line_resetWith straps p with hl | ⟨-, hl⟩ <;> rw [hl] at h <;> cases h
  rfl

/-! ### The invariants, one by one -/

theorem BankSound.replicate_none : BankSound (List.replicate 64 none) :=
  ⟨List.length_replicate, fun _ he => absurd (List.eq_of_mem_replicate he) (by simp)⟩

theorem State.banksSound_resetWith : (State.resetWith straps).BanksSound :=
  ⟨BankSound.replicate_none, BankSound.replicate_none⟩

theorem State.learnedSound_resetWith : (State.resetWith straps).LearnedSound := by
  refine ⟨List.length_replicate, ?_, fun _ he => absurd (List.eq_of_mem_replicate he) (by simp)⟩
  exact List.pairwise_replicate.mpr (.inr fun x _ hx => by cases hx)

theorem State.keysDistinct_resetWith : (State.resetWith straps).KeysDistinct :=
  ⟨List.length_replicate, List.pairwise_replicate.mpr (.inr fun x _ hx => by cases hx)⟩

theorem State.branchQueuesSound_resetWith : (State.resetWith straps).BranchQueuesSound := by
  intro b
  rw [State.branch_resetWith]
  exact ⟨⟨Nat.zero_le _, List.Pairwise.nil⟩, fun _ => rfl⟩

theorem State.trunkQueueSound_resetWith : (State.resetWith straps).TrunkQueueSound :=
  ⟨Nat.zero_le _, fun _ => Nat.zero_le _, Nat.zero_le _, Nat.zero_le _, fun _ => rfl⟩

theorem State.trunkPortSound_resetWith : (State.resetWith straps).TrunkPortSound :=
  ⟨nofun, rfl⟩

/-- No transmitter holds an item after reset. -/
theorem State.sendsTrunk_resetWith (p : PortId) (f : TrunkItem → Bool) :
    ((State.resetWith straps).port p).line.sendsTrunk f = 0 := by
  rcases State.line_resetWith straps p with hl | ⟨-, hl⟩ <;> rw [hl] <;> rfl

theorem State.standing_resetWith (f : TrunkItem → Bool) : (State.resetWith straps).standing f = 0 := by
  rw [State.standing, State.sendsTrunk_resetWith]
  rfl

theorem State.branchesSendBranch_resetWith : (State.resetWith straps).BranchesSendBranch :=
  fun b => State.sendsTrunk_resetWith straps (branchPort b) _

theorem State.unitSound_resetWith : (State.resetWith straps).UnitSound :=
  ⟨State.branchesSendBranch_resetWith straps, State.standing_resetWith straps _, nofun⟩

theorem State.offerSound_resetWith : (State.resetWith straps).OfferSound :=
  ⟨State.branchesSendBranch_resetWith straps, State.standing_resetWith straps _, nofun⟩

theorem State.alertsSound_resetWith : (State.resetWith straps).AlertsSound :=
  ⟨Nat.zero_le _, List.Pairwise.nil⟩

theorem State.offerDue_resetWith : (State.resetWith straps).OfferDue := fun h => absurd rfl h

theorem State.absent_resetWith (b : BranchId) (x : SlotNo) (k : SlotKind) : (State.resetWith straps).Absent b x k := by
  unfold State.Absent State.slotHeldBy State.waiting
  rw [State.branch_resetWith]
  exact ⟨rfl, rfl⟩

theorem State.recordSound_resetWith (x : SlotNo) : (State.resetWith straps).RecordSound x := by
  unfold State.RecordSound
  rw [State.record_resetWith]
  refine ⟨fun b k => State.absent_resetWith straps b x k, fun b => ?_, State.standing_resetWith straps _⟩
  rw [State.branch_resetWith]
  exact fun h => by cases h

theorem State.slotSound_resetWith (b : BranchId) : (State.resetWith straps).SlotSound b := by
  unfold State.SlotSound
  rw [State.branch_resetWith]
  exact ⟨trivial, nofun, fun _ => ⟨rfl, rfl, rfl⟩⟩

theorem State.engineSound_resetWith : (State.resetWith straps).EngineSound :=
  ⟨List.length_replicate, State.branchesSendBranch_resetWith straps, State.recordSound_resetWith straps,
    State.slotSound_resetWith straps⟩

theorem Line.holders_of_rest {line : Line} (h : line = .active (.fresh 0) ∨ line = .disabled) (b : BufId) :
    line.holders b = 0 := by
  rcases h with rfl | rfl <;> rfl

theorem State.holders_resetWith (b : BufId) : (State.resetWith straps).holders b = 0 := by
  have hport : ∀ p, ((State.resetWith straps).port p).line.holders b = 0 := fun p =>
    Line.holders_of_rest ((State.line_resetWith straps p).imp id And.right) b
  have hrecords : sumOver (recordHolds b) (State.resetWith straps).records = 0 := by
    simp [sumOver, State.resetWith, recordHolds, holds]
  simp only [State.holders, hport, State.branch_resetWith, hrecords]
  rfl

theorem Pool.refs_reset (b : BufId) : (Pool.reset.buffer b).refs = 0 := by
  simp only [Pool.buffer, Pool.reset, List.getD_replicate _ b.isLt]

theorem nodup_allBuffers : allBuffers.Nodup := by decide

theorem mem_allBuffers : ∀ b : BufId, b ∈ allBuffers := by decide

theorem State.poolSound_resetWith : (State.resetWith straps).PoolSound := by
  refine ⟨fun p l hl hsend => ?_, List.length_replicate, List.length_replicate, nodup_allBuffers, fun b => ?_, fun b => ?_⟩
  · rw [State.live?_resetWith straps hl] at hsend
    cases hsend
  · exact iff_of_true (mem_allBuffers b) (Pool.refs_reset b)
  · rw [State.holders_resetWith]
    exact Pool.refs_reset b

end

/-- Settles O60: every block is at rest after reset, with all queues, records and references empty. -/
theorem resetStateIsSound : Obligations.ResetStateIsSound := by
  unfold Obligations.ResetStateIsSound
  intro straps
  exact ⟨State.banksSound_resetWith straps, State.learnedSound_resetWith straps, State.keysDistinct_resetWith straps,
    State.branchQueuesSound_resetWith straps, State.trunkQueueSound_resetWith straps,
    State.trunkPortSound_resetWith straps, State.unitSound_resetWith straps, State.offerSound_resetWith straps,
    State.alertsSound_resetWith straps, State.offerDue_resetWith straps, State.engineSound_resetWith straps,
    State.poolSound_resetWith straps⟩

/-! ### The values of a hardware reset (R114, R140, R173) -/

theorem strapRate_eq (r : BitVec 2) :
    strapRate r = (match r.toNat with
      | 0 => 1#3
      | 1 => 3#3
      | 2 => 4#3
      | _ => 6#3) := by
  revert r
  decide

theorem State.port_resetWith (straps : Straps) (p : PortId) :
    (State.resetWith straps).port p =
      { rate := strapRate straps.rate
        guard := if p = .p0 then 4#4 else 2#4
        line := if p = .p0 ∨ straps.start = true then .active (.fresh 0) else .disabled
        tail := none
        counters := .zero } := by
  cases p
  · rfl
  all_goals
    simp only [reduceCtorEq, if_false, false_or]
    rfl

theorem allBuffers_eq_finRange : allBuffers = List.finRange 48 := by decide

/-- Settles O3: a reset leaves the state after reset, with the model's own fields kept. -/
theorem hardwareResetGivesResetState : Obligations.HardwareResetGivesResetState := by
  unfold Obligations.HardwareResetGivesResetState
  intro dt straps s
  have hport : ∀ p, ((s.advance dt).resetAt straps).port p = _ := State.port_resetWith straps
  refine ⟨_, rfl, rfl, rfl, fun p => ⟨?tail, fun c => ?counter, ?rate, ?guard, ?line⟩, State.branch_resetWith straps,
    rfl, rfl, allBuffers_eq_finRange, Pool.refs_reset, rfl, rfl, rfl, rfl, rfl, fun c => ?bridge⟩
  case tail => rw [hport]
  case counter => rw [State.portCounter, hport]; cases c <;> rfl
  case rate => rw [hport]; exact strapRate_eq straps.rate
  case guard => rw [hport]
  case line => rw [hport]; rfl
  case bridge =>
    cases c with
    | refusals r => cases r <;> rfl
    | _ => rfl

end Sys2Proof.Machine
end

section
/-! PROOFS. The station table: matching entries, learned entries, resolution and learning (R1, R5 to R8, R10 to R14). -/

namespace Sys2Proof.Machine

/-! ### Loaded entries (R1, R6) -/

theorem Entry.matchesAddr_iff (e : Entry) (a : Octet) : e.matchesAddr a = true ↔ a &&& e.mask = e.base :=
  decide_eq_true_iff

theorem maskBits_eq (m : Octet) : maskBits m = ((List.range 8).filter (fun i => m.getLsbD i)).length := by
  have hcount : ∀ m : Octet, maskBits m = ((List.range 8).filter (fun i => m.getLsbD i)).length := by decide +kernel
  exact hcount m

theorem covers_iff (bank : List (Option Entry)) (a : Octet) :
    covers bank a = true ↔ ∃ e, some e ∈ bank ∧ a &&& e.mask = e.base := by
  simp only [covers, List.any_eq_true]
  constructor
  · rintro ⟨_ | e, hmem, hmatch⟩
    · cases hmatch
    · exact ⟨e, hmem, (e.matchesAddr_iff a).mp hmatch⟩
  · rintro ⟨e, hmem, hmatch⟩
    exact ⟨some e, hmem, (e.matchesAddr_iff a).mpr hmatch⟩

/-- No entry is chosen exactly where none matches (R6). -/
theorem bestEntry_eq_none_iff (a : Octet) (bank : List (Option Entry)) :
    bestEntry a bank = none ↔ ∀ e, some e ∈ bank → e.matchesAddr a = false := by
  induction bank with
  | nil => simp [bestEntry]
  | cons o rest ih =>
    cases o with
    | none => simp [bestEntry, ih]
    | some e =>
      cases he : e.matchesAddr a with
      | false => simp [bestEntry, he, ih]
      | true =>
        have hsome : bestEntry a (some e :: rest) ≠ none := by
          simp only [bestEntry, he, if_true]
          split
          · split <;> simp
          · simp
        simp [hsome, he]

/-- The chosen entry stands in the bank and matches. -/
theorem bestEntry_mem {a : Octet} {bank : List (Option Entry)} {f : Entry} (h : bestEntry a bank = some f) :
    some f ∈ bank ∧ f.matchesAddr a = true := by
  induction bank with
  | nil => cases h
  | cons o rest ih =>
    have later : bestEntry a rest = some f → some f ∈ o :: rest ∧ f.matchesAddr a = true :=
      fun h => ⟨List.mem_cons_of_mem _ (ih h).1, (ih h).2⟩
    cases o with
    | none => exact later h
    | some e =>
      cases he : e.matchesAddr a with
      | false => exact later (by simpa [bestEntry, he] using h)
      | true =>
        have here : some f = some e → some f ∈ some e :: rest ∧ f.matchesAddr a = true := by
          rintro ⟨⟩
          exact ⟨List.mem_cons_self, he⟩
        simp only [bestEntry, he, if_true] at h
        split at h
        case h_1 g hg =>
          split at h
          · cases h; exact later hg
          · exact here h.symm
        case h_2 => exact here h.symm

/-- The match at index `i` is chosen where every other match has fewer mask bits, or as many and a higher index (R6). -/
theorem bestEntry_of_most_specific {a : Octet} {bank : List (Option Entry)} {i : Nat} {e : Entry}
    (hi : bank[i]? = some (some e)) (he : e.matchesAddr a = true)
    (hbest : ∀ (j : Nat) (f : Entry), bank[j]? = some (some f) → f.matchesAddr a = true →
      maskBits f.mask < maskBits e.mask ∨ (maskBits f.mask = maskBits e.mask ∧ i ≤ j)) :
    bestEntry a bank = some e := by
  induction bank generalizing i with
  | nil => simp at hi
  | cons o rest ih =>
    cases i with
    | zero =>
      obtain rfl : o = some e := by simpa using hi
      simp only [bestEntry, he, if_true]
      cases hrest : bestEntry a rest with
      | none => rfl
      | some f =>
        obtain ⟨hmem, hf⟩ := bestEntry_mem hrest
        obtain ⟨j, hj⟩ := List.getElem?_of_mem hmem
        have hle : ¬ maskBits e.mask < maskBits f.mask := by
          have := hbest (j + 1) f (by simpa using hj) hf
          omega
        simp only [if_neg hle]
    | succ i =>
      have hrest : bestEntry a rest = some e := ih (by simpa using hi) fun j f hj hf => by
        have := hbest (j + 1) f (by simpa using hj) hf
        omega
      cases o with
      | none => exact hrest
      | some g =>
        cases hg : g.matchesAddr a with
        | false => simpa [bestEntry, hg] using hrest
        | true =>
          have hlt : maskBits g.mask < maskBits e.mask := by
            have := hbest 0 g rfl hg
            omega
          simp only [bestEntry, hg, if_true, hrest, if_pos hlt]

/-- Settles O5: the chosen entry is the first of the most specific matches, by induction on the bank. -/
theorem loadedStepChoosesMostSpecific : Obligations.LoadedStepChoosesMostSpecific := by
  unfold Obligations.LoadedStepChoosesMostSpecific
  refine ⟨maskBits_eq, covers_iff, fun t d => ⟨?none, fun i e hi he hbest => ?some⟩⟩
  case none =>
    have hmiss : ∀ e : Entry, e.matchesAddr d = false ↔ e.base ≠ d &&& e.mask :=
      fun _ => decide_eq_false_iff_not.trans (not_congr eq_comm)
    rw [Table.loadedStep, Option.map_eq_none_iff, bestEntry_eq_none_iff]
    simp only [hmiss]
  case some =>
    have hchosen : bestEntry d t.active = some e := bestEntry_of_most_specific hi ((e.matchesAddr_iff d).mpr he)
      fun j f hj hf => hbest j f hj ((f.matchesAddr_iff d).mp hf)
    rw [Table.loadedStep, hchosen]
    rfl

/-! ### Learned entries (R7, R10) -/

theorem findLearned_eq_none_iff (a : Octet) (places : List (Option Learned)) :
    findLearned a places = none ↔ ∀ e, some e ∈ places → e.addr ≠ a := by
  simp only [findLearned, List.findSome?_eq_none_iff]
  constructor
  · intro h e he hea
    have := h (some e) he
    simp [hea] at this
  · rintro h (_ | e) ho
    · rfl
    · simp [h e ho]

theorem findLearned_mem {a : Octet} {places : List (Option Learned)} {e : Learned} (h : findLearned a places = some e) :
    some e ∈ places ∧ e.addr = a := by
  obtain ⟨o, ho, he⟩ := List.exists_of_findSome?_eq_some h
  cases o with
  | none => cases he
  | some f =>
    by_cases hf : f.addr = a
    · simp only [hf, if_true, Option.some.injEq] at he
      subst he
      exact ⟨ho, hf⟩
    · simp [hf] at he

/-- The learned entry for an address is found where it is the only one. -/
theorem findLearned_of_unique {a : Octet} {places : List (Option Learned)} {e : Learned} (he : some e ∈ places)
    (hea : e.addr = a) (hunique : ∀ f, some f ∈ places → f.addr = a → f = e) : findLearned a places = some e := by
  cases h : findLearned a places with
  | none => exact absurd hea ((findLearned_eq_none_iff a places).mp h e he)
  | some f => rw [hunique f (findLearned_mem h).1 (findLearned_mem h).2]

/-- Among distinct addresses an address stands in one place. -/
theorem eq_of_same_address {places : List (Option Learned)} (hp : places.Pairwise differentAddress) {i j : Nat}
    {e f : Learned} (hi : places[i]? = some (some e)) (hj : places[j]? = some (some f)) (h : e.addr = f.addr) : i = j := by
  obtain ⟨hilt, hi⟩ := List.getElem?_eq_some_iff.mp hi
  obtain ⟨hjlt, hj⟩ := List.getElem?_eq_some_iff.mp hj
  rw [List.pairwise_iff_getElem] at hp
  rcases Nat.lt_trichotomy i j with hlt | heq | hlt
  · exact absurd h (hp i j hilt hjlt hlt e f hi hj)
  · exact heq
  · exact absurd h.symm (hp j i hjlt hilt hlt f e hj hi)

theorem learned_unique {places : List (Option Learned)} (hp : places.Pairwise differentAddress) {e f : Learned}
    (he : some e ∈ places) (hf : some f ∈ places) (h : f.addr = e.addr) : f = e := by
  obtain ⟨i, hi⟩ := List.getElem?_of_mem he
  obtain ⟨j, hj⟩ := List.getElem?_of_mem hf
  obtain rfl := eq_of_same_address hp hj hi h
  rw [hi] at hj
  cases hj
  rfl

/-- A change of the entry for an address is a change of the place that holds it. -/
theorem mapLearned_eq_set {places : List (Option Learned)} (hp : places.Pairwise differentAddress) {i : Nat}
    {e : Learned} (hi : places[i]? = some (some e)) (g : Learned → Learned) :
    mapLearned e.addr g places = places.set i (some (g e)) := by
  refine List.ext_getElem? fun j => ?_
  simp only [mapLearned, List.getElem?_map, List.getElem?_set]
  by_cases hij : i = j
  · subst hij
    have hlt : i < places.length := (List.getElem?_eq_some_iff.mp hi).1
    rw [hi]
    simp [hlt]
  · rw [if_neg hij]
    cases hj : places[j]? with
    | none => rfl
    | some o =>
      cases o with
      | none => rfl
      | some f =>
        have hne : f.addr ≠ e.addr := fun h => hij (eq_of_same_address hp hi hj h.symm)
        simp [hne]

theorem isRequesterAddress_iff (a : Octet) : isRequesterAddress a = true ↔ 0xF8 ≤ a.toNat ∧ a.toNat ≤ 0xFE := by
  simp [isRequesterAddress]

theorem Table.unknownStep_eq (t : Table) (own a : Octet) :
    t.unknownStep own a = if t.policy = .probe ∧ 0x01 ≤ a.toNat ∧ a.toNat ≤ 0xF7 ∧ a ≠ own then .probe else .ignore := by
  unfold Table.unknownStep
  cases t.policy <;> simp

/-- Settles O6: the learned step reads the one entry for the address, and a resolution tries its steps in order. -/
theorem resolutionTakesThreeSteps : Obligations.ResolutionTakesThreeSteps := by
  unfold Obligations.ResolutionTakesThreeSteps
  refine ⟨fun t d => ⟨fun hnone => ?absent, fun e he hed hunique => ?found⟩, fun s d => ?order⟩
  case absent => rw [Table.learnedStep, (findLearned_eq_none_iff d t.learned).mpr hnone]; rfl
  case found => rw [Table.learnedStep, findLearned_of_unique he hed hunique]; rfl
  case order =>
    unfold State.resolve
    simp only [isRequesterAddress_iff]
    split
    · rfl
    · cases s.table.loadedStep d with
      | some r => rfl
      | none =>
        cases s.table.learnedStep d with
        | some r => rfl
        | none => exact Table.unknownStep_eq ..

/-! ### Learning (R11 to R14) -/

/-- The lowest empty place. -/
theorem emptyPlace_of_lowest {places : List (Option Learned)} {i : Nat} (hi : places[i]? = some none)
    (hlow : ∀ j, j < i → places[j]? ≠ some none) : emptyPlace places = some i := by
  obtain ⟨hlt, hget⟩ := List.getElem?_eq_some_iff.mp hi
  refine List.findIdx?_eq_some_iff_getElem.mpr ⟨hlt, by rw [hget]; rfl, fun j hj => ?_⟩
  have := hlow j hj
  rw [List.getElem?_eq_getElem (by omega)] at this
  cases hplace : places[j] with
  | none => exact absurd (congrArg some hplace) this
  | some e => simp

theorem emptyPlace_of_full {places : List (Option Learned)} (h : none ∉ places) : emptyPlace places = none := by
  refine List.findIdx?_eq_none_iff.mpr fun o ho => ?_
  cases o with
  | none => exact absurd ho h
  | some e => rfl

/-- No VALID entry, no oldest one. -/
theorem oldestFrom_of_no_age {places : List (Option Learned)} (h : ∀ o, o ∈ places → ageAt o = none) (n : Nat) :
    oldestFrom n places = none := by
  induction places generalizing n with
  | nil => rfl
  | cons o rest ih =>
    simp only [oldestFrom, h o List.mem_cons_self, ih (fun o ho => h o (List.mem_cons_of_mem _ ho))]

/-- The age found is one of the ages in the places, at the index that is answered. -/
theorem oldestFrom_spec {places : List (Option Learned)} {n j best : Nat} (h : oldestFrom n places = some (j, best)) :
    ∃ k, j = n + k ∧ (places[k]?).bind ageAt = some best := by
  induction places generalizing n with
  | nil => cases h
  | cons o rest ih =>
    have later : oldestFrom (n + 1) rest = some (j, best) → ∃ k, j = n + k ∧ ((o :: rest)[k]?).bind ageAt = some best := by
      intro h
      obtain ⟨k, hk, hage⟩ := ih h
      exact ⟨k + 1, by omega, by simpa using hage⟩
    unfold oldestFrom at h
    split at h
    case h_1 => exact later h
    case h_2 age hage _ => cases h; exact ⟨0, rfl, by simpa using hage⟩
    case h_3 age i' best' hage hrest =>
      split at h
      · cases h; exact later hrest
      · cases h; exact ⟨0, rfl, by simpa using hage⟩

/-- The VALID entry with the highest age, the lowest index among equals (R12). -/
theorem oldestFrom_of_oldest {places : List (Option Learned)} {i age : Nat} (hi : (places[i]?).bind ageAt = some age)
    (hold : ∀ j best : Nat, (places[j]?).bind ageAt = some best → best < age ∨ (best = age ∧ i ≤ j)) (n : Nat) :
    oldestFrom n places = some (n + i, age) := by
  induction places generalizing i n with
  | nil => simp at hi
  | cons o rest ih =>
    cases i with
    | zero =>
      have hage : ageAt o = some age := by simpa using hi
      unfold oldestFrom
      rw [hage]
      cases hrest : oldestFrom (n + 1) rest with
      | none => rfl
      | some jb =>
        obtain ⟨k, -, hk⟩ := oldestFrom_spec hrest
        have hle : ¬ age < jb.2 := by
          have := hold (k + 1) jb.2 (by simpa using hk)
          omega
        simp only [if_neg hle]
        rfl
    | succ i =>
      have hrest : oldestFrom (n + 1) rest = some (n + (i + 1), age) := by
        rw [ih (i := i) (by simpa using hi) (fun j best hj => by
          have := hold (j + 1) best (by simpa using hj)
          omega) (n + 1)]
        congr 2
        omega
      unfold oldestFrom
      rw [hrest]
      cases hage : ageAt o with
      | none => rfl
      | some first =>
        have hlt : first < age := by
          have := hold 0 first (by simpa using hage)
          omega
        simp only [if_pos hlt]

theorem oldestPlace_of_oldest {places : List (Option Learned)} {i age : Nat} (hi : (places[i]?).bind ageAt = some age)
    (hold : ∀ j best : Nat, (places[j]?).bind ageAt = some best → best < age ∨ (best = age ∧ i ≤ j)) :
    oldestPlace places = some i := by
  rw [oldestPlace, oldestFrom_of_oldest hi hold, Option.map_some, Nat.zero_add]

section Learn

variable {t : Table} {a : Octet} {b : BranchId}

theorem Table.learn_of_covered (h : covers t.active a = true) : t.learn a b = (t.learned, .nothing) := by
  rw [Table.learn, if_pos h]

theorem Table.learn_of_unknown (h : covers t.active a = false) (hnew : ∀ e, some e ∈ t.learned → e.addr ≠ a) :
    t.learn a b = match emptyPlace t.learned with
      | some i => (t.learned.set i (newLearned a b), .created)
      | none => match oldestPlace t.learned with
        | some i => (t.learned.set i (newLearned a b), .created)
        | none => (t.learned, .nothing) := by
  rw [Table.learn, if_neg (by simp [h]), (findLearned_eq_none_iff a t.learned).mpr hnew] <;> rfl

theorem Table.learn_of_known {e : Learned} (h : covers t.active a = false) (hfind : findLearned a t.learned = some e) :
    t.learn a b = match e.mark with
      | .valid _ =>
        if e.port = b then (mapLearned a (fun x => { x with mark := .valid 0 }) t.learned, .refreshed)
        else (mapLearned a (fun x => { x with mark := .conflict b }) t.learned, .conflicted)
      | .conflict _ => (t.learned, .nothing) := by
  rw [Table.learn, if_neg (by simp [h]), hfind] <;> rfl

end Learn

/-- Settles O42: each case of R11 to R14 on places that hold each address once. -/
theorem answersTeachTheTable : Obligations.AnswersTeachTheTable := by
  unfold Obligations.AnswersTeachTheTable
  intro t a b hp fresh
  have hfind : ∀ (i : Nat) (e : Learned), t.learned[i]? = some (some e) → e.addr = a →
      findLearned a t.learned = some e := fun i e hi he =>
    findLearned_of_unique (List.mem_of_getElem? hi) he fun f hf hfa =>
      learned_unique hp (List.mem_of_getElem? hi) hf (hfa.trans he.symm)
  refine ⟨Table.learn_of_covered, fun hfree => ⟨fun hnew => ⟨fun i hi hlow => ?empty, fun hfull =>
    ⟨fun i age hi hold => ?oldest, fun hnone => ?full⟩⟩, fun i e hi he => ?known⟩, fun i e hi he => ?refreshed,
    fun hnew => ?unknown⟩
  case empty => rw [Table.learn_of_unknown hfree hnew, emptyPlace_of_lowest hi hlow]; rfl
  case oldest =>
    rw [Table.learn_of_unknown hfree hnew, emptyPlace_of_full hfull, oldestPlace_of_oldest hi hold]; rfl
  case full =>
    rw [Table.learn_of_unknown hfree hnew, emptyPlace_of_full hfull, oldestPlace, oldestFrom_of_no_age hnone]; rfl
  case known =>
    rw [Table.learn_of_known hfree (hfind i e hi he)]
    subst he
    cases e.mark with
    | conflict other => rfl
    | valid age => simp only [mapLearned_eq_set hp hi]
  case refreshed =>
    rw [Table.refresh, hfind i e hi he]
    subst he
    cases hmark : e.mark with
    | conflict other => simp only [hmark]
    | valid age => simp only [hmark, mapLearned_eq_set hp hi]
  case unknown => rw [Table.refresh, (findLearned_eq_none_iff a t.learned).mpr hnew]

end Sys2Proof.Machine
end

section
/-! PROOFS. Every step keeps the station table and the keys of the exchanges sound (R1, R2, R10, R27). -/

namespace Sys2Proof.Machine

/-! ### What a step makes of the station table (chapter 1) -/

/-- The changes of the station table: learning, refreshing, forgetting, ageing, a swap, a change of the SHADOW bank, the
end of a copy, settings, a reset. -/
inductive Table.Becomes (T : Table) : Table → Prop where
  | same : T.Becomes T
  | learns (a : Octet) (b : BranchId) : T.Becomes { T with learned := (T.learn a b).1 }
  | refreshes (a : Octet) (b : BranchId) : T.Becomes { T with learned := T.refresh a b }
  | forgets (a : Octet) : T.Becomes { T with learned := T.learned.map (forgetPlace a) }
  | forgetsAll : T.Becomes { T with learned := T.learned.map (fun _ => none) }
  | ages (now : Nat) : T.Becomes { T with ageingFrom := now, learned := T.learned.map agePlace }
  | swaps : T.Becomes T.swap
  | writes (index base mask action port window retries : Octet) (e : Entry) :
      entryOf base mask action port window retries = some e →
      T.Becomes { T with shadow := T.shadow.set index.toNat (some e) }
  | invalidates (index : Octet) : T.Becomes { T with shadow := T.shadow.set index.toNat none }
  | clears : T.Becomes { T with shadow := List.replicate 64 none }
  | copies : T.Becomes { T with shadow := T.active }
  | configures (T' : Table) : T'.active = T.active → T'.shadow = T.shadow → T'.learned = T.learned → T.Becomes T'
  | resets (straps : Straps) : T.Becomes (.reset straps)

section Effects

variable {s t u : State}

theorem Table.Becomes.of_eq (h : t.table = s.table) : s.table.Becomes t.table := h ▸ .same

/-- The table after a response: as before it, or reset (log 17). -/
theorem State.table_respond (s : State) (h : Header) (code : Octet) (status : Status) (data : List Octet) :
    (s.respond h code status data).table = s.table ∨
    (s.respond h code status data).table = .reset s.strapPins := by
  rcases s.respond_cases h code status data with ⟨-, h⟩ | ⟨-, -, h⟩ | ⟨-, h⟩ <;> rw [h]
  · exact .inl rfl
  · exact .inl rfl
  · exact .inr rfl

theorem Table.Becomes.respond {T : Table} (hT : T.Becomes s.table) (h : Header) (code : Octet) (status : Status)
    (data : List Octet) : T.Becomes (s.respond h code status data).table := by
  rcases s.table_respond h code status data with h | h <;> rw [h]
  · exact hT
  · exact .resets _

theorem State.table_settleRestart (s : State) (straps : Straps) : s.table.Becomes (s.settleRestart straps).table := by
  rcases s.settleRestart_cases straps with h | ⟨-, -, h⟩ <;> rw [h]
  · exact .same
  · exact .resets straps

theorem State.Manages.table_becomes (hm : s.Manages t) : s.table.Becomes t.table := by
  cases hm with
  | invalidates index => exact .invalidates index
  | writes index base mask action port window retries e he =>
    exact .writes index base mask action port window retries e he
  | clearsShadow => exact .clears
  | forgets a => exact .forgets a
  | forgetsAll => exact .forgetsAll
  | enables p => exact .of_eq (State.enable_table s p)
  | disables b => exact .of_eq (State.disable_table s b)
  | flushes => exact .of_eq (State.flushed_table s)
  | _ => exact .same

theorem State.Operates.table_becomes {h : Header} (ho : s.Operates h t) : s.table.Becomes t.table := by
  cases ho with
  | answers code status data hm => exact hm.table_becomes.respond h code status data
  | prepares => exact .same
  | commits => exact .swaps
  | setsBridge policy window retries ageing dest =>
    rw [State.offerAlert_table]
    exact Table.Becomes.respond (T := s.table) (s := s.configureBridge policy window retries ageing dest)
      (.configures _ rfl rfl rfl) h 0x0E .ok []

theorem State.table_refreshFor (s : State) (e : Exchange) (d : Direct) (f : Frame) :
    s.table.Becomes (s.refreshFor e d f).table := by
  unfold State.refreshFor
  split
  · exact .refreshes ..
  · exact .same

theorem State.table_matched (s : State) (q : BranchId) (x : SlotNo) (e : Exchange) (d : Direct) (f : Frame) (b : BufId) :
    s.table.Becomes (s.matched q x e d f b).table := by
  rw [State.matched, State.returnFrame_table]
  exact State.table_refreshFor (s.setSlot q none) e d f

theorem State.table_lateAccepted (s : State) (q : BranchId) (x : SlotNo) (e : Exchange) (d : Direct) (f : Frame)
    (b : BufId) : s.table.Becomes (s.lateAccepted q x e d f b).table := by
  rw [State.lateAccepted, State.returnFrame_table]
  exact State.table_refreshFor (s.setHolder q none) e d f

theorem State.table_firstTaken (s : State) (p : BranchId) (x : SlotNo) (e : Exchange) :
    (s.firstTaken p x e).table = { s.table with learned := (s.table.learn e.key.station p).1 } := by
  rw [State.firstTaken, State.learn_eq, State.releaseOpt_table, State.cancelAll_frame]
  rfl

theorem State.table_firstAnswer (s : State) (p : BranchId) (x : SlotNo) (e : Exchange) (q : Probe) (b : BufId) :
    s.table.Becomes (s.firstAnswer p x e q b).table :=
  State.firstAnswer_induction (I := fun t => s.table.Becomes t.table)
    (fun t ht => (State.returnAnswer_table t x e _ b).symm ▸ ht) (fun t ht => (State.raise_table t _ _).symm ▸ ht) id
    (by rw [State.table_firstTaken]; exact .learns ..)

theorem State.table_furtherAnswer (s : State) (p : BranchId) (x : SlotNo) (e : Exchange) (q : Probe) (b : BufId) :
    s.table.Becomes (s.furtherAnswer p x e q b).table := by
  rw [State.furtherAnswer_eq, State.alertConflict_frame]
  exact .learns ..

theorem State.Dispatches.table_becomes {p : PortId} {b : BufId} (hd : u.Dispatches p b t) :
    u.table.Becomes t.table := by
  cases hd with
  | refusesBusy h _ => rw [State.refuseBusy_frame]; exact .same
  | operates h _ _ ho => exact ho.table_becomes
  | places f targets => rw [State.placeNotices_frame]; exact .same
  | refuses r => rw [State.refuseAtOnce_table]; exact .same
  | opensProbe f x _ _ _ => rw [State.openProbeAt_frame]; exact .same
  | answersDirect f q sl e d _ _ _ _ _ => exact State.table_matched ..
  | answersFirst q sl e w _ _ _ _ _ _ => exact State.table_firstAnswer ..
  | answersAgain q sl e w _ _ _ _ _ _ => exact State.table_furtherAnswer ..
  | acceptsLate f q x e d _ _ _ _ => exact State.table_lateAccepted ..
  | unsolicited q => rw [State.unsolicitedFrame_frame]; exact .same
  | lateUnsolicited q => rw [State.unsolicitedFrame_frame]; exact .same
  | _ => exact .same

theorem State.Receives.table_becomes {p : PortId} {m : Live} (hr : u.Receives p m t) : u.table.Becomes t.table := by
  cases hr with
  | hands b o _ hd => exact hd.table_becomes
  | _ => exact .same

theorem State.table_stuck (s : State) (p : PortId) (high : Nat) (straps : Straps) :
    s.table.Becomes (s.stuck p high straps).table := by
  unfold State.stuck
  split
  · have hkept : (((s.countPort p .faults).tearDownTrunk (.fault high)).raise .portFault (portNumber p)).table =
        s.table := by rw [State.raise_table, State.tearDownTrunk_table, State.countPort_table]
    exact hkept ▸ State.table_settleRestart _ straps
  · exact .of_eq (State.bothOrders_keeps State.table (s := s.countPort p .faults)
      (fun t => State.tearDownBranch_table ..) (fun t => State.raise_table ..) rfl)

theorem State.table_ownerSent (s : State) (p : PortId) (straps : Straps) (i : TxItem) :
    s.table.Becomes (s.ownerSent p straps i).table := by
  unfold State.ownerSent
  split
  case h_1 i =>
    cases i with
    | response => exact State.table_settleRestart (s := { s with mgmt := { s.mgmt with phase := .idle } }) straps
    | alert a => exact .of_eq (State.alertSent_table s a)
    | frameReturn x b => exact .of_eq (State.returnDone_table s x)
    | refusalReturn x r => exact .of_eq (State.returnDone_table s x)
    | _ => exact .same
  case h_2 =>
    split
    · rw [State.branchSent_frame]; exact .same
    · exact .same

theorem State.table_ownerAbandoned (s : State) (p : PortId) (straps : Straps) (i : TxItem) :
    s.table.Becomes (s.ownerAbandoned p straps i).table := by
  unfold State.ownerAbandoned
  split
  case h_1 i =>
    cases i with
    | response => exact State.table_settleRestart (s := { s with mgmt := { s.mgmt with phase := .idle } }) straps
    | alert a => exact .of_eq (State.alertLost_table s)
    | frameReturn x b => exact .of_eq (State.returnLost_table s x)
    | refusalReturn x r => exact .of_eq (State.returnLost_table s x)
    | _ => exact .same
  case h_2 =>
    split
    · rw [State.branchAbandoned_frame]; exact .same
    · exact .same

theorem State.table_contended (s : State) (p : PortId) (l : Live) (c : Current) (back : ReadBack) (first : Bool)
    (straps : Straps) : s.table.Becomes (s.contended p l c back first straps).table := by
  unfold State.contended
  dsimp only
  split
  · exact .same
  · refine Eq.subst (motive := fun T => Table.Becomes T _) ?_ (State.table_ownerAbandoned _ p straps c.item)
    exact State.releaseOpt_table _ _

theorem State.table_completed (s : State) (p : PortId) (l : Live) (c : Current) (high : Nat) (straps : Straps) :
    s.table.Becomes (s.completed p l c high straps).table := by
  unfold State.completed
  refine Eq.subst (motive := fun T => Table.Becomes T _) ?_ (State.table_ownerSent _ p straps c.item)
  exact State.releaseOpt_table _ _

/-- Every effect makes one change of the station table, or none. -/
theorem State.Does.table_becomes (hd : u.Does t) : u.table.Becomes t.table := by
  cases hd with
  | refusesBusy h _ => rw [State.refuseBusy_frame]; exact .same
  | operates h q _ _ => exact (State.operates_operate q).table_becomes
  | copies h job since _ =>
    cases job
    · exact Table.Becomes.copies.respond (s := { u with table := { u.table with shadow := u.table.active } }) ..
    · exact Table.Becomes.copies.respond (s := { u with table := { u.table with shadow := u.table.active } }) ..
  | marked p l m o _ _ _ => rw [State.marked_frame]; exact .same
  | unmarked p l m o _ _ _ => exact (State.receives_unmarked ..).table_becomes
  | endsEarly p l m _ _ _ => exact .of_eq (State.endEarly_table ..)
  | stuck p l high straps _ => exact State.table_stuck ..
  | recovers p since _ =>
    exact .of_eq (State.bothOrders_keeps State.table State.offerAlert_table (fun t => State.raise_table ..) rfl)
  | windowExpires b sl start e d _ _ _ _ => rw [State.windowExpired_frame]; exact .same
  | probeExpires b sl start e q _ _ _ _ => exact .of_eq (State.loseBranch_table ..)
  | ages =>
    rw [State.age, State.countTimes_table]
    exact .ages u.now
  | takes p => rw [State.takeItem_frame]; exact .same
  | startsSend p l c _ _ _ => exact .of_eq (State.startSend_table ..)
  | contends p l c since frame back first straps _ _ => exact State.table_contended ..
  | completes p l c since frame high straps _ _ => exact State.table_completed ..
  | resets straps => exact .resets straps
  | _ => exact .same

end Effects

/-! ### The banks (R1, R2) -/

theorem Entry.sound_iff (e : Entry) :
    e.sound = true ↔ e.base &&& ~~~e.mask = 0 ∧ 1 ≤ e.base.toNat ∧ (e.base ||| ~~~e.mask).toNat ≤ 0xF7 ∧
      ∀ b w r, e.action = .forward b w r → w ≠ 0 := by
  unfold Entry.sound
  cases e.action <;> simp [and_assoc]

/-- A FORWARD action that a WRITE-ENTRY carries has a window (R2). -/
theorem window_of_actionOf {action port window retries : Octet} {b : BranchId} {w : Octet} {r : Fin 4}
    (h : actionOf action port window retries = some (.forward b w r)) : w ≠ 0 := by
  by_cases h1 : action = 1
  · subst h1
    simp only [actionOf, ↓reduceIte] at h
    cases hb : branchOfOctet port with
    | none => rw [hb] at h; cases h
    | some b' =>
      rw [hb] at h
      by_cases hw : window = 0
      · simp [hw] at h
      · by_cases hr : retries.toNat < 4
        · simp only [if_neg hw, dif_pos hr, Option.some.injEq, Action.forward.injEq] at h
          exact h.2.1 ▸ hw
        · simp [hr] at h
  · rw [actionOf, if_neg h1] at h
    split_ifs at h <;> cases h

/-- An entry that a WRITE-ENTRY carries is one that R2 admits. -/
theorem entryOf_sound {base mask action port window retries : Octet} {e : Entry}
    (h : entryOf base mask action port window retries = some e) : e.sound = true := by
  have hr : ¬ entryRefused base mask action port window retries := fun hr => by
    rw [(entryOf_eq_none_iff ..).mpr hr] at h
    cases h
  cases ha : actionOf action port window retries with
  | none => exact absurd ((entryOf_eq_none_iff ..).mp (by simp [entryOf, ha])) hr
  | some a =>
    rw [entryOf_of_not_refused hr ha] at h
    cases h
    unfold entryRefused at hr
    push Not at hr
    obtain ⟨hbase, hlow, -, htop, -⟩ := hr
    refine (Entry.sound_iff _).mpr ⟨hbase, hlow, htop, fun b w r hfwd => ?_⟩
    cases (show a = .forward b w r from hfwd)
    exact window_of_actionOf ha

theorem BankSound.set {bank : List (Option Entry)} (hb : BankSound bank) (i : Nat) {o : Option Entry}
    (ho : ∀ e, o = some e → e.sound = true) : BankSound (bank.set i o) := by
  obtain ⟨hlen, hall⟩ := hb
  refine ⟨List.length_set.trans hlen, fun e he => ?_⟩
  rcases List.mem_or_eq_of_mem_set he with he | he
  · exact hall e he
  · exact ho e he.symm

/-- Every change of the table keeps both banks sound. -/
theorem Table.Becomes.banksSound {T T' : Table} (h : T.Becomes T') (hT : BankSound T.active ∧ BankSound T.shadow) :
    BankSound T'.active ∧ BankSound T'.shadow := by
  obtain ⟨hactive, hshadow⟩ := hT
  cases h with
  | swaps => exact ⟨hshadow, hactive⟩
  | writes index base mask action port window retries e he =>
    exact ⟨hactive, hshadow.set _ fun f hf => by cases hf; exact entryOf_sound he⟩
  | invalidates index => exact ⟨hactive, hshadow.set _ nofun⟩
  | clears => exact ⟨hactive, .replicate_none⟩
  | copies => exact ⟨hactive, hactive⟩
  | configures T' ha hs _ => exact ⟨ha ▸ hactive, hs ▸ hshadow⟩
  | resets straps => exact ⟨.replicate_none, .replicate_none⟩
  | _ => exact ⟨hactive, hshadow⟩

/-! ### The learned entries (R10) -/

/-- What R10 says of the learned places under an ACTIVE bank. -/
def PlacesSound (bank : List (Option Entry)) (places : List (Option Learned)) : Prop :=
  places.length = 32 ∧ places.Pairwise differentAddress ∧ ∀ e, some e ∈ places → e.sound bank = true

theorem Learned.sound_iff (bank : List (Option Entry)) (e : Learned) :
    e.sound bank = true ↔ covers bank e.addr = false ∧ (match e.mark with
      | .valid age => age ≤ 3
      | .conflict other => other ≠ e.port) := by
  unfold Learned.sound
  cases e.mark <;> simp

section Places

variable {bank : List (Option Entry)} {places : List (Option Learned)}

/-- A change place by place keeps the places sound where it makes no new address and keeps each entry sound. -/
theorem PlacesSound.map {bank' : List (Option Entry)} (hp : PlacesSound bank places)
    {g : Option Learned → Option Learned} (hnone : g none = none)
    (hsome : ∀ e f, some e ∈ places → g (some e) = some f → f.addr = e.addr ∧ f.sound bank' = true) :
    PlacesSound bank' (places.map g) := by
  obtain ⟨hlen, hdist, hall⟩ := hp
  have hfrom : ∀ o f, o ∈ places → g o = some f → ∃ e, o = some e ∧ f.addr = e.addr ∧ f.sound bank' = true := by
    rintro (_ | e) f ho hf
    · rw [hnone] at hf; cases hf
    · exact ⟨e, rfl, hsome e f ho hf⟩
  refine ⟨by rw [List.length_map, hlen], ?_, fun f hf => ?_⟩
  · rw [List.pairwise_map]
    refine hdist.imp_of_mem fun {o o'} ho ho' hne x y hx hy => ?_
    obtain ⟨e, rfl, hxe, -⟩ := hfrom o x ho hx
    obtain ⟨e', rfl, hye, -⟩ := hfrom o' y ho' hy
    rw [hxe, hye]
    exact hne e e' rfl rfl
  · obtain ⟨o, ho, hof⟩ := List.mem_map.mp hf
    obtain ⟨e, -, -, hsound⟩ := hfrom o f ho hof
    exact hsound

/-- A new entry in a place keeps the places sound where its address is new. -/
theorem PlacesSound.set (hp : PlacesSound bank places) (i : Nat) {f : Learned} (hf : f.sound bank = true)
    (hnew : ∀ e, some e ∈ places → e.addr ≠ f.addr) : PlacesSound bank (places.set i (some f)) := by
  obtain ⟨hlen, hdist, hall⟩ := hp
  refine ⟨List.length_set.trans hlen, ?_, fun e he => ?_⟩
  · rw [List.pairwise_iff_getElem] at hdist ⊢
    intro j k hj hk hjk x y hx hy
    rw [List.length_set] at hj hk
    rw [List.getElem_set] at hx hy
    by_cases hij : i = j
    · have hik : i ≠ k := by omega
      rw [if_pos hij] at hx
      rw [if_neg hik] at hy
      cases hx
      exact (hnew y (hy ▸ List.getElem_mem hk)).symm
    · rw [if_neg hij] at hx
      by_cases hik : i = k
      · rw [if_pos hik] at hy
        cases hy
        exact hnew x (hx ▸ List.getElem_mem hj)
      · rw [if_neg hik] at hy
        exact hdist j k hj hk hjk x y hx hy
  · rcases List.mem_or_eq_of_mem_set he with he | he
    · exact hall e he
    · cases he
      exact hf

/-- The image of the one entry for an address keeps the places sound. -/
theorem PlacesSound.mapLearned (hp : PlacesSound bank places) {e : Learned} (he : some e ∈ places)
    {g : Learned → Learned} (haddr : (g e).addr = e.addr) (hsound : (g e).sound bank = true) :
    PlacesSound bank (mapLearned e.addr g places) := by
  refine hp.map (g := fun o => match o with
    | some f => if f.addr = e.addr then some (g f) else some f
    | none => none) rfl fun f f' hf hf' => ?_
  by_cases hfe : f.addr = e.addr
  · obtain rfl := learned_unique hp.2.1 he hf hfe
    simp only [if_true, Option.some.injEq] at hf'
    subst hf'
    exact ⟨haddr, hsound⟩
  · simp only [if_neg hfe, Option.some.injEq] at hf'
    subst hf'
    exact ⟨rfl, hp.2.2 f hf⟩

theorem newLearned_sound {a : Octet} {b : BranchId} (h : covers bank a = false) :
    ({ addr := a, port := b, mark := .valid 0 } : Learned).sound bank = true :=
  (Learned.sound_iff ..).mpr ⟨h, Nat.zero_le 3⟩

/-- A refreshed entry is sound (R11, R14). -/
theorem Learned.sound_refreshed {e : Learned} (h : e.sound bank = true) :
    ({ e with mark := .valid 0 } : Learned).sound bank = true :=
  newLearned_sound ((Learned.sound_iff ..).mp h).1

end Places

/-- A handover keeps the places sound (R11, R12, R13). -/
theorem PlacesSound.learn {T : Table} (hp : PlacesSound T.active T.learned) (a : Octet) (b : BranchId) :
    PlacesSound T.active (T.learn a b).1 := by
  cases hcov : covers T.active a with
  | true => rw [Table.learn_of_covered hcov]; exact hp
  | false =>
    cases hfind : findLearned a T.learned with
    | none =>
      have hnew := (findLearned_eq_none_iff a T.learned).mp hfind
      rw [Table.learn_of_unknown hcov hnew]
      split
      · exact hp.set _ (newLearned_sound hcov) hnew
      · split
        · exact hp.set _ (newLearned_sound hcov) hnew
        · exact hp
    | some e =>
      obtain ⟨he, rfl⟩ := findLearned_mem hfind
      have hsound := hp.2.2 e he
      rw [Table.learn_of_known hcov hfind]
      cases e.mark with
      | conflict other => exact hp
      | valid age =>
        by_cases hport : e.port = b
        · simp only [if_pos hport]
          exact hp.mapLearned he rfl (Learned.sound_refreshed hsound)
        · simp only [if_neg hport]
          exact hp.mapLearned he rfl ((Learned.sound_iff ..).mpr ⟨hcov, Ne.symm hport⟩)

/-- The age refresh keeps the places sound (R14). -/
theorem PlacesSound.refresh {T : Table} (hp : PlacesSound T.active T.learned) (a : Octet) (b : BranchId) :
    PlacesSound T.active (T.refresh a b) := by
  unfold Table.refresh
  split
  case h_2 => exact hp
  case h_1 e hfind =>
    obtain ⟨he, rfl⟩ := findLearned_mem hfind
    split
    case h_2 => exact hp
    case h_1 =>
      split
      · exact hp.mapLearned he rfl (Learned.sound_refreshed (hp.2.2 e he))
      · exact hp

/-- Ageing keeps the places sound: no VALID entry is left with an age above 3 (R15). -/
theorem PlacesSound.age {bank : List (Option Entry)} {places : List (Option Learned)} (hp : PlacesSound bank places) :
    PlacesSound bank (places.map agePlace) := by
  refine hp.map rfl fun e f he hf => ?_
  obtain ⟨hcov, -⟩ := (Learned.sound_iff ..).mp (hp.2.2 e he)
  unfold agePlace at hf
  cases hmark : e.mark with
  | conflict other =>
    simp only [hmark, Option.some.injEq] at hf
    subst hf
    exact ⟨rfl, hp.2.2 e he⟩
  | valid age =>
    simp only [hmark] at hf
    split at hf
    case isTrue hage =>
      cases hf
      exact ⟨rfl, (Learned.sound_iff ..).mpr ⟨hcov, show age + 1 ≤ 3 by omega⟩⟩
    case isFalse => cases hf

/-- A removal of entries keeps the places sound. -/
theorem PlacesSound.remove {bank : List (Option Entry)} {places : List (Option Learned)} (hp : PlacesSound bank places)
    {g : Option Learned → Option Learned} (hg : ∀ o f, g o = some f → o = some f) : PlacesSound bank (places.map g) := by
  refine hp.map ?_ fun e f he hf => ?_
  · cases h : g none with
    | none => rfl
    | some f => exact absurd (hg none f h) (by simp)
  · obtain rfl : e = f := by simpa using hg _ f hf
    exact ⟨rfl, hp.2.2 e he⟩

/-- A swap leaves the entries that the new ACTIVE bank does not cover (R17). -/
theorem PlacesSound.swap {T : Table} (hp : PlacesSound T.active T.learned) :
    PlacesSound T.shadow (T.learned.map (uncovered T.shadow)) := by
  refine hp.map rfl fun e f he hf => ?_
  unfold uncovered at hf
  split at hf
  case h_2 heq => cases heq
  case h_1 heq =>
    cases heq
    split at hf
    · cases hf
    · rename_i hcov
      cases hf
      obtain ⟨-, hmark⟩ := (Learned.sound_iff ..).mp (hp.2.2 e he)
      exact ⟨rfl, (Learned.sound_iff ..).mpr ⟨by simpa using hcov, hmark⟩⟩

theorem forgetPlace_eq_some {a : Octet} {o : Option Learned} {f : Learned} (h : forgetPlace a o = some f) :
    o = some f := by
  unfold forgetPlace at h
  split at h
  · split at h
    · cases h
    · exact h
  · cases h

/-- Every change of the table keeps the learned entries sound. -/
theorem Table.Becomes.placesSound {T T' : Table} (h : T.Becomes T') (hT : PlacesSound T.active T.learned) :
    PlacesSound T'.active T'.learned := by
  cases h with
  | learns a b => exact hT.learn a b
  | refreshes a b => exact hT.refresh a b
  | forgets a => exact hT.remove fun _ _ => forgetPlace_eq_some
  | forgetsAll => exact hT.remove nofun
  | ages now => exact hT.age
  | swaps => exact hT.swap
  | configures T' ha _ hl => exact ha ▸ hl ▸ hT
  | resets straps => exact State.learnedSound_resetWith straps
  | _ => exact hT

end Sys2Proof.Machine
end

section
/-! PROOFS. Every step keeps the keys of the exchanges distinct (R22, R27). -/

namespace Sys2Proof.Machine

/-! ### Records, read and set -/

/-- A record is read from a list of records as from the part. -/
theorem State.records_getElem (s : State) (h16 : s.records.length = 16) (x : SlotNo) :
    s.records[x.val]'(by rw [h16]; exact x.isLt) = s.record x := by
  rw [State.record, List.getD_eq_getElem]

/-- What is read after a record was set is what was set, or what was read before. -/
theorem State.record_setRecord_cases {s : State} {x y : SlotNo} {r : Option Exchange} {e : Exchange}
    (h : (s.setRecord x r).record y = some e) : (y = x ∧ r = some e) ∨ s.record y = some e := by
  by_cases hx : x.val < s.records.length
  · rw [State.record_setRecord s x y r hx] at h
    split at h
    · exact .inl ⟨‹_›, h⟩
    · exact .inr h
  · rw [State.setRecord, List.set_eq_of_length_le (Nat.le_of_not_lt hx)] at h
    exact .inr h

/-- Two records that are not FREE have different keys (R27). -/
def State.KeysDiffer (s : State) : Prop :=
  ∀ x y e f, x ≠ y → s.record x = some e → s.record y = some f → e.key ≠ f.key

theorem State.keysDistinct_iff (s : State) : s.KeysDistinct ↔ s.records.length = 16 ∧ s.KeysDiffer := by
  refine and_congr_right fun h16 => ?_
  rw [List.pairwise_iff_getElem]
  constructor
  · intro hp x y e f hxy hx hy
    have hlt : ∀ x y : SlotNo, x < y → ∀ e f, s.record x = some e → s.record y = some f → e.key ≠ f.key :=
      fun x y hxy e f hx hy => hp x.val y.val (by rw [h16]; exact x.isLt) (by rw [h16]; exact y.isLt) hxy e f
        ((s.records_getElem h16 x).trans hx) ((s.records_getElem h16 y).trans hy)
    rcases lt_or_gt_of_ne hxy with h | h
    · exact hlt x y h e f hx hy
    · exact (hlt y x h f e hy hx).symm
  · intro hp i j hi hj hij e f he hf
    rw [h16] at hi hj
    exact hp ⟨i, hi⟩ ⟨j, hj⟩ e f (by simpa using Nat.ne_of_lt hij) ((s.records_getElem h16 ⟨i, hi⟩).symm.trans he)
      ((s.records_getElem h16 ⟨j, hj⟩).symm.trans hf)

/-! ### Operations that open no exchange -/

/-- Every exchange of `t` has the key of the exchange that `s` holds in the same record. -/
def State.KeepsKeys (s t : State) : Prop :=
  t.records.length = s.records.length ∧ ∀ x e, t.record x = some e → ∃ f, s.record x = some f ∧ f.key = e.key

namespace State.KeepsKeys

variable {s t u : State} {x : SlotNo} {e : Exchange}

theorem refl (s : State) : s.KeepsKeys s := ⟨rfl, fun _ e he => ⟨e, he, rfl⟩⟩

theorem trans (h : s.KeepsKeys t) (h' : t.KeepsKeys u) : s.KeepsKeys u := by
  refine ⟨h'.1.trans h.1, fun x e he => ?_⟩
  obtain ⟨f, hf, hfe⟩ := h'.2 x e he
  obtain ⟨g, hg, hgf⟩ := h.2 x f hf
  exact ⟨g, hg, hgf.trans hfe⟩

theorem of_records (h : t.records = s.records) : s.KeepsKeys t :=
  ⟨by rw [h], fun x e he => ⟨e, (State.record_congr h x).symm.trans he, rfl⟩⟩

theorem keysDistinct (h : s.KeepsKeys t) (hs : s.KeysDistinct) : t.KeysDistinct := by
  rw [State.keysDistinct_iff] at hs ⊢
  refine ⟨h.1.trans hs.1, fun x y e f hxy hx hy => ?_⟩
  obtain ⟨e', he', hke⟩ := h.2 x e hx
  obtain ⟨f', hf', hkf⟩ := h.2 y f hy
  rw [← hke, ← hkf]
  exact hs.2 x y e' f' hxy he' hf'

theorem setFree (s : State) (x : SlotNo) : s.KeepsKeys (s.setRecord x none) := by
  refine ⟨List.length_set, fun y e he => ?_⟩
  rcases State.record_setRecord_cases he with ⟨-, h⟩ | h
  · cases h
  · exact ⟨e, h, rfl⟩

/-- A record takes a new content of the same key. -/
theorem set (he : s.record x = some e) {f : Exchange} (hk : e.key = f.key) : s.KeepsKeys (s.setRecord x (some f)) := by
  refine ⟨List.length_set, fun y g hg => ?_⟩
  rcases State.record_setRecord_cases hg with ⟨rfl, h⟩ | h
  · cases h
    exact ⟨e, he, hk⟩
  · exact ⟨g, h, rfl⟩

theorem foldl {α : Type} {op : State → α → State} (hop : ∀ (t : State) a, t.KeepsKeys (op t a)) (as : List α) (s : State) :
    s.KeepsKeys (as.foldl op s) := by
  induction as generalizing s with
  | nil => exact refl s
  | cons a as ih => exact (hop s a).trans (ih (op s a))

theorem refuse (he : s.record x = some e) (d : Direct) (r : Reason) : s.KeepsKeys (s.refuse x e d r) := by
  have hrec : ∀ t : State, t.records = s.records → t.record x = some e := fun t h => (State.record_congr h x).trans he
  unfold State.refuse
  split
  · exact (of_records (by simp)).trans (set (hrec _ (by simp)) rfl)
  · exact (of_records (by simp)).trans (setFree _ x)

theorem returnFrame (he : s.record x = some e) (d : Direct) (b : BufId) : s.KeepsKeys (s.returnFrame x e d b) := by
  have hrec : ∀ t : State, t.records = s.records → t.record x = some e := fun t h => (State.record_congr h x).trans he
  unfold State.returnFrame
  split
  · exact (of_records (by simp)).trans (set (hrec _ (by simp)) rfl)
  · exact (of_records (by simp [State.release])).trans (setFree _ x)

theorem settle {f : Exchange} (he : s.record x = some f) (hk : f.key = e.key) (q : Probe) :
    s.KeepsKeys (s.settle x e q) := by
  unfold State.settle
  split
  · exact setFree s x
  · exact set he hk

theorem loseBranch (he : s.record x = some e) (q : Probe) (b : BranchId) : s.KeepsKeys (s.loseBranch x e q b) := by
  unfold State.loseBranch
  split
  · split
    · exact (of_records (State.releaseOpt_records ..)).trans (setFree _ x)
    · exact set he rfl
  · exact settle he rfl _

theorem returnAnswer (he : s.record x = some e) (q : Probe) (b : BufId) : s.KeepsKeys (s.returnAnswer x e q b) := by
  unfold State.returnAnswer
  split
  · exact (of_records rfl).trans (settle (s := s.enqueue (.frameReturn x b)) (e := { e with request := none }) he rfl _)
  · exact (of_records rfl).trans
      (settle (s := (s.release b).count .returnsLost) (e := { e with request := none }) he rfl _)

theorem returnDone (s : State) (x : SlotNo) : s.KeepsKeys (s.returnDone x) := by
  unfold State.returnDone
  split
  case h_1 => exact refl s
  case h_2 e he =>
    split
    · exact setFree s x
    · exact settle he rfl _

theorem returnLost (s : State) (x : SlotNo) : s.KeepsKeys (s.returnLost x) :=
  (returnDone s x).trans (of_records rfl)

theorem downRecord (p : BranchId) (s : State) (x : SlotNo) : s.KeepsKeys (State.downRecord p s x) := by
  unfold State.downRecord
  split
  case h_1 => exact refl s
  case h_2 e he =>
    split
    · split
      · exact refuse he _ _
      · exact refl s
    · split
      · exact loseBranch he _ _
      · exact refl s

theorem flushRecord (s : State) (x : SlotNo) : s.KeepsKeys (s.flushRecord x) := by
  unfold State.flushRecord
  split
  case h_1 => exact refl s
  case h_2 e he =>
    split
    · split
      · exact refuse he _ _
      · exact refl s
    · split
      · exact (of_records (State.releaseOpt_records ..)).trans (setFree _ x)
      · exact settle he rfl _

theorem emptyQueue (s : State) (p : BranchId) : s.KeepsKeys (s.emptyQueue p) := of_records (by simp)

theorem clearBranch (s : State) (p : BranchId) : s.KeepsKeys (s.clearBranch p) := of_records rfl

theorem branchDown (s : State) (b : BranchId) : s.KeepsKeys (s.branchDown b) :=
  ((emptyQueue s b).trans (clearBranch _ b)).trans (foldl (downRecord b) allSlots _)

theorem tearDownBranch (s : State) (b : BranchId) (line : Line) : s.KeepsKeys (s.tearDownBranch b line) :=
  (of_records (State.stopPort_records ..)).trans (branchDown _ b)

theorem flushed (s : State) : s.KeepsKeys s.flushed :=
  (foldl (fun t p => (emptyQueue t p).trans (clearBranch _ p)) allBranches s).trans (foldl flushRecord allSlots _)

theorem dropItem (s : State) (i : TrunkItem) : s.KeepsKeys (s.dropItem i) := by
  cases i with
  | frameReturn x b => exact returnLost s x
  | refusalReturn x r => exact returnLost s x
  | alert a => exact of_records (State.alertLost_records s)
  | _ => exact of_records rfl

theorem dropCurrent (s : State) (tx : Tx) : s.KeepsKeys (s.dropCurrent tx) := by
  unfold State.dropCurrent
  split
  · exact refl s
  · split
    · exact dropItem s _
    · exact refl s

theorem tearDownTrunk (s : State) (line : Line) : s.KeepsKeys (s.tearDownTrunk line) := by
  unfold State.tearDownTrunk
  split
  case h_1 => exact refl s
  case h_2 l _ =>
    have hcurrent : s.KeepsKeys { (s.stopPort .p0 line).dropCurrent l.tx with trunkQueue := [] } :=
      ((of_records (State.stopPort_records ..)).trans (dropCurrent _ l.tx)).trans (of_records rfl)
    exact hcurrent.trans (foldl (fun t i => (of_records (State.releaseOpt_records ..)).trans (dropItem _ i)) _ _)

theorem disable (s : State) (b : BranchId) : s.KeepsKeys (s.disable b) := by
  unfold State.disable
  split
  · exact refl s
  · exact tearDownBranch s b _
  · exact of_records rfl

theorem windowExpired (he : s.record x = some e) (p : BranchId) (d : Direct) :
    s.KeepsKeys (s.windowExpired p x e d) := by
  unfold State.windowExpired
  dsimp only
  split
  · exact (of_records rfl).trans
      (set (s := (((s.count .timeouts).setSlot p none).setLastTimedOut p (some (e.key, x))).setHolder p (some x)) he rfl)
  · exact (of_records rfl).trans
      (refuse (s := ((s.count .timeouts).setSlot p none).setLastTimedOut p (some (e.key, x))) he d .timeout)

theorem takeHolder (s : State) (b : BranchId) (x : SlotNo) (l : Live) : s.KeepsKeys (s.takeHolder b x l) := by
  unfold State.takeHolder
  split
  case h_1 => exact refl s
  case h_2 e he =>
    split
    case h_1 d buf _ _ =>
      exact (set (f := { e with mode := .direct { d with phase := .queued } }) he rfl).trans
        (of_records (by rw [State.take_frame]; rfl))
    all_goals exact refl s

theorem takeItem (s : State) (p : PortId) : s.KeepsKeys (s.takeItem p) := by
  rcases State.takeItem_cases s p with h | ⟨l, -, -, -, h⟩ | ⟨b, l, x, -, -, -, -, -, h⟩ | ⟨b, l, -, -, -, -, -, h⟩ <;>
    rw [h]
  · exact refl s
  · exact of_records (by rw [State.takeTrunk_frame])
  · exact takeHolder s b x l
  · exact of_records (by rw [State.takeBranch_frame])

theorem branchSent (s : State) (p : BranchId) (i : BranchItem) : s.KeepsKeys (s.branchSent p i) := by
  rcases State.branchSent_cases s p i with h | ⟨x, -, -, h⟩ | ⟨x, e, d, -, -, he, -, -, h⟩ <;> rw [h]
  · exact refl s
  · exact of_records rfl
  · exact (set (f := e.sent d) he rfl).trans (of_records rfl)

theorem branchAbandoned (s : State) (p : BranchId) (i : BranchItem) : s.KeepsKeys (s.branchAbandoned p i) := by
  rcases State.branchAbandoned_cases s p i with h | ⟨x, e, q, -, -, he, -, h⟩ | ⟨x, e, d, -, -, he, -, -, h⟩ <;> rw [h]
  · exact refl s
  · exact (of_records rfl).trans (loseBranch (s := s.setSlot p none) he q p)
  · exact (of_records rfl).trans (refuse (s := s.setSlot p none) he d .contention)

end State.KeepsKeys

end Sys2Proof.Machine
end

section
/-! PROOFS. Every effect of a command keeps the keys of the exchanges distinct, and with it O56 (R22, R27). -/

namespace Sys2Proof.Machine

/-- A new exchange keeps the keys distinct where its key is in no use (R27, R55). -/
theorem State.KeysDistinct.opened {s : State} {x : SlotNo} {e : Exchange} (hs : s.KeysDistinct)
    (hk : s.keyInUse e.key = false) : (s.setRecord x (some e)).KeysDistinct := by
  rw [State.keysDistinct_iff] at hs ⊢
  have hother : ∀ y f, s.record y = some f → f.key ≠ e.key := fun y f hf hfe => by
    rw [← hfe, State.keyInUse_of_record hf] at hk
    cases hk
  refine ⟨List.length_set.trans hs.1, fun y z f g hyz hf hg => ?_⟩
  rcases State.record_setRecord_cases hf with ⟨hy, hef⟩ | hf' <;>
    rcases State.record_setRecord_cases hg with ⟨hz, heg⟩ | hg'
  · exact absurd (hy.trans hz.symm) hyz
  · cases hef
    exact (hother z g hg').symm
  · cases heg
    exact hother y f hf'
  · exact hs.2 y z f g hyz hf' hg'

section Effects

variable {s t u v : State}

theorem State.KeysDistinct.of_records (hs : s.KeysDistinct) (h : t.records = s.records) : t.KeysDistinct :=
  (State.KeepsKeys.of_records h).keysDistinct hs

theorem State.KeysDistinct.resetAt (straps : Straps) : (s.resetAt straps).KeysDistinct :=
  State.keysDistinct_resetWith straps

theorem State.KeysDistinct.settleRestart (hs : s.KeysDistinct) (straps : Straps) : (s.settleRestart straps).KeysDistinct := by
  rcases State.settleRestart_cases s straps with h | ⟨-, -, h⟩ <;> rw [h]
  · exact hs
  · exact .resetAt straps

theorem State.KeysDistinct.respond (hs : s.KeysDistinct) (h : Header) (code : Octet) (status : Status) (data : List Octet) :
    (s.respond h code status data).KeysDistinct := by
  rcases State.respond_cases s h code status data with ⟨-, hr⟩ | ⟨-, -, hr⟩ | ⟨-, hr⟩ <;> rw [hr]
  · exact hs.of_records rfl
  · exact hs.of_records rfl
  · exact .resetAt _

theorem State.Manages.keysDistinct (hm : s.Manages v) (hs : s.KeysDistinct) : v.KeysDistinct := by
  cases hm with
  | disables b => exact (State.KeepsKeys.disable s b).keysDistinct hs
  | flushes => exact (State.KeepsKeys.flushed s).keysDistinct hs
  | enables p => exact hs.of_records (by rw [State.enable_frame])
  | _ => exact hs.of_records rfl

theorem State.Operates.keysDistinct {h : Header} (ho : s.Operates h t) (hs : s.KeysDistinct) : t.KeysDistinct := by
  cases ho with
  | answers code status data hm => exact (hm.keysDistinct hs).respond h code status data
  | prepares => exact hs
  | commits => exact hs
  | setsBridge policy window retries ageing dest =>
    exact State.KeysDistinct.of_records
      (s := (s.configureBridge policy window retries ageing dest).respond h 0x0E .ok [])
      (State.KeysDistinct.respond (s := s.configureBridge policy window retries ageing dest) hs ..)
      (State.offerAlert_records _)

theorem State.KeepsKeys.matched {b : BufId} {q : BranchId} {x : SlotNo} {e : Exchange} (he : s.record x = some e)
    (d : Direct) (f : Frame) : s.KeepsKeys (s.matched q x e d f b) := by
  have hrec : ((s.setSlot q none).refreshFor e d f).records = s.records := by rw [State.refreshFor_frame]; rfl
  exact (State.KeepsKeys.of_records hrec).trans (.returnFrame ((State.record_congr hrec x).trans he) d b)

theorem State.KeepsKeys.lateAccepted {b : BufId} {q : BranchId} {x : SlotNo} {e : Exchange} (he : s.record x = some e)
    (d : Direct) (f : Frame) : s.KeepsKeys (s.lateAccepted q x e d f b) := by
  have hrec : ((s.setHolder q none).refreshFor e d f).records = s.records := by rw [State.refreshFor_frame]; rfl
  exact (State.KeepsKeys.of_records hrec).trans (.returnFrame ((State.record_congr hrec x).trans he) d b)

/-- A first answer keeps the keys: the alert of a conflict touches no record, and the return keeps them on its own. -/
theorem State.KeepsKeys.firstAnswer {b : BufId} {p : BranchId} {x : SlotNo} {e : Exchange} (he : s.record x = some e)
    (q : Probe) : s.KeepsKeys (s.firstAnswer p x e q b) := by
  have hstart : (s.firstTaken p x e).records = s.records := by rw [State.firstTaken_frame]
  have hreturn : ∀ t : State, t.records = s.records → s.KeepsKeys (t.returnAnswer x e (s.firstLeft p x q) b) :=
    fun t ht => (State.KeepsKeys.of_records ht).trans (.returnAnswer ((State.record_congr ht x).trans he) _ b)
  rw [State.firstAnswer_eq]
  split
  case isFalse => exact hreturn _ hstart
  case isTrue =>
    rcases State.bothOrders_cases (s.firstTaken p x e) (fun t => t.returnAnswer x e (s.firstLeft p x q) b)
      (fun t => t.raise .addressConflict e.key.station) with h | h | h <;> rw [h]
    · exact (hreturn _ hstart).trans (.of_records (State.raise_records ..))
    · exact hreturn _ ((State.raise_records ..).trans hstart)
    · exact (hreturn _ (by exact hstart)).trans (.of_records (State.raise_records ..))

theorem State.KeepsKeys.furtherAnswer {b : BufId} {p : BranchId} {x : SlotNo} {e : Exchange} (he : s.record x = some e)
    (q : Probe) : s.KeepsKeys (s.furtherAnswer p x e q b) := by
  have hrec : (((s.setSlot p none).learn e.key.station p).release b).records = s.records := by
    rw [State.learn_frame]; rfl
  have hsettle := (State.KeepsKeys.of_records hrec).trans
    (.settle (e := e) ((State.record_congr hrec x).trans he) rfl { q with set := branchSet q.set p false })
  unfold State.furtherAnswer
  dsimp only
  split
  · exact hsettle.trans (.of_records (State.raise_records ..))
  · exact hsettle

theorem State.KeysDistinct.openDirectAt {b : BufId} {f : Frame} (hs : s.KeysDistinct)
    (hk : s.keyInUse f.requestKey = false) (x : SlotNo) (q : BranchId) (window : Octet) (retries : Fin 4) (v : Bool) :
    (s.openDirectAt x f b q window retries v).KeysDistinct :=
  State.KeysDistinct.of_records (hs.opened (x := x) (e :=
    { key := f.requestKey, urgent := f.urgent, window := window, request := some b,
      mode := .direct { phase := .queued, port := q, viaLearned := v, retries := retries, attempts := 0 } }) hk) rfl

theorem State.KeysDistinct.openProbeAt {b : BufId} {f : Frame} (hs : s.KeysDistinct)
    (hk : s.keyInUse f.requestKey = false) (x : SlotNo) (set : PerBranch Bool) :
    (s.openProbeAt x f b set).KeysDistinct :=
  State.KeysDistinct.of_records (hs.opened (x := x) (e :=
    { key := f.requestKey, urgent := f.urgent, window := s.table.probeWindow, request := some b,
      mode := .probe { phase := .probing, set := set, pending := false } }) hk)
    (by rw [State.openProbeAt, State.placeProbes_frame]; rfl)

theorem State.Dispatches.keysDistinct {p : PortId} {b : BufId} (hd : u.Dispatches p b t) (hu : u.KeysDistinct) :
    t.KeysDistinct := by
  cases hd with
  | refusesBusy h _ => exact hu.of_records (by rw [State.refuseBusy_frame]; rfl)
  | operates h _ _ ho => exact ho.keysDistinct (hu.of_records (t := u.release b) rfl)
  | places f targets => exact hu.of_records (by rw [State.placeNotices_frame])
  | refuses r => exact hu.of_records (State.refuseAtOnce_records ..)
  | opensDirect f x q window retries viaLearned hk _ _ _ => exact hu.openDirectAt hk ..
  | opensProbe f x hk _ _ => exact hu.openProbeAt hk ..
  | answersDirect f q sl e d _ he _ _ _ => exact (State.KeepsKeys.matched he d f).keysDistinct hu
  | answersFirst q sl e w _ he _ _ _ _ => exact (State.KeepsKeys.firstAnswer he w).keysDistinct hu
  | answersAgain q sl e w _ he _ _ _ _ => exact (State.KeepsKeys.furtherAnswer he w).keysDistinct hu
  | acceptsLate f q x e d he _ _ _ => exact (State.KeepsKeys.lateAccepted he d f).keysDistinct hu
  | unsolicited q => exact hu.of_records (by rw [State.unsolicitedFrame_frame])
  | lateUnsolicited q => exact hu.of_records (by rw [State.unsolicitedFrame_frame]; rfl)
  | _ => exact hu.of_records rfl

theorem State.Receives.keysDistinct {p : PortId} {m : Live} (hr : u.Receives p m t) (hu : u.KeysDistinct) :
    t.KeysDistinct := by
  cases hr with
  | hands b o _ hd => exact hd.keysDistinct (hu.of_records rfl)
  | _ => exact hu.of_records rfl

theorem State.KeysDistinct.stuck (hs : s.KeysDistinct) (p : PortId) (high : Nat) (straps : Straps) :
    (s.stuck p high straps).KeysDistinct := by
  have hcount : (s.countPort p .faults).KeysDistinct := hs.of_records rfl
  unfold State.stuck
  split
  · exact (((State.KeepsKeys.tearDownTrunk _ _).keysDistinct hcount).of_records (State.raise_records ..)).settleRestart _
  · exact State.bothOrders_induction (fun t => (State.KeepsKeys.tearDownBranch t _ _).keysDistinct)
      (fun t ht => ht.of_records (State.raise_records ..)) (fun h => h.of_records rfl) hcount

theorem State.KeysDistinct.ownerSent (hs : s.KeysDistinct) (p : PortId) (straps : Straps) (i : TxItem) :
    (s.ownerSent p straps i).KeysDistinct := by
  unfold State.ownerSent
  split
  case h_1 i =>
    cases i with
    | response => exact State.KeysDistinct.settleRestart (s := { s with mgmt := { s.mgmt with phase := .idle } }) hs _
    | alert a => exact hs.of_records (State.alertSent_records s a)
    | frameReturn x b => exact (State.KeepsKeys.returnDone s x).keysDistinct hs
    | refusalReturn x r => exact (State.KeepsKeys.returnDone s x).keysDistinct hs
    | _ => exact hs
  case h_2 =>
    split
    · exact (State.KeepsKeys.branchSent ..).keysDistinct hs
    · exact hs

theorem State.KeysDistinct.ownerAbandoned (hs : s.KeysDistinct) (p : PortId) (straps : Straps) (i : TxItem) :
    (s.ownerAbandoned p straps i).KeysDistinct := by
  unfold State.ownerAbandoned
  split
  case h_1 i =>
    cases i with
    | response => exact State.KeysDistinct.settleRestart (s := { s with mgmt := { s.mgmt with phase := .idle } }) hs _
    | alert a => exact hs.of_records (State.alertLost_records s)
    | frameReturn x b => exact (State.KeepsKeys.returnLost s x).keysDistinct hs
    | refusalReturn x r => exact (State.KeepsKeys.returnLost s x).keysDistinct hs
    | _ => exact hs
  case h_2 =>
    split
    · exact (State.KeepsKeys.branchAbandoned ..).keysDistinct hs
    · exact hs

theorem State.KeysDistinct.contended (hs : s.KeysDistinct) (p : PortId) (l : Live) (c : Current) (back : ReadBack)
    (first : Bool) (straps : Straps) : (s.contended p l c back first straps).KeysDistinct := by
  unfold State.contended
  dsimp only
  split
  · exact hs.of_records rfl
  · refine State.KeysDistinct.ownerAbandoned ?_ p straps c.item
    exact hs.of_records (State.releaseOpt_records ..)

theorem State.KeysDistinct.completed (hs : s.KeysDistinct) (p : PortId) (l : Live) (c : Current) (high : Nat)
    (straps : Straps) : (s.completed p l c high straps).KeysDistinct := by
  refine State.KeysDistinct.ownerSent ?_ p straps c.item
  exact hs.of_records (State.releaseOpt_records ..)

theorem State.Does.keysDistinct (hd : u.Does t) (hu : u.KeysDistinct) : t.KeysDistinct := by
  cases hd with
  | refusesBusy h _ => exact hu.of_records (by rw [State.refuseBusy_frame])
  | operates h q _ _ => exact (State.operates_operate q).keysDistinct hu
  | copies h job since _ =>
    cases job
    · exact State.KeysDistinct.respond (s := { u with table := { u.table with shadow := u.table.active } }) hu ..
    · exact State.KeysDistinct.respond (s := { u with table := { u.table with shadow := u.table.active } }) hu ..
  | marked p l m o _ _ _ => exact hu.of_records (by rw [State.marked_frame])
  | unmarked p l m o _ _ _ => exact (State.receives_unmarked ..).keysDistinct hu
  | endsEarly p l m _ _ _ => exact hu.of_records (State.endEarly_records ..)
  | stuck p l high straps _ => exact hu.stuck ..
  | recovers p since _ =>
    exact State.bothOrders_induction (fun t ht => ht.of_records (State.offerAlert_records t))
      (fun t ht => ht.of_records (State.raise_records ..)) (fun h => h.of_records rfl)
      (hu.of_records (t := u.setLive p (.fresh u.now)) rfl)
  | windowExpires b sl start e d _ _ he _ => exact (State.KeepsKeys.windowExpired he b d).keysDistinct hu
  | probeExpires b sl start e q _ _ he _ =>
    exact (State.KeepsKeys.loseBranch (s := u.setSlot b none) he q b).keysDistinct (hu.of_records rfl)
  | ages => exact hu.of_records (by rw [State.age, State.countTimes_records]; rfl)
  | takes p => exact (State.KeepsKeys.takeItem u p).keysDistinct hu
  | startsSend p l c _ _ _ => exact hu.of_records (State.startSend_records ..)
  | contends p l c since frame back first straps _ _ => exact hu.contended ..
  | completes p l c since frame high straps _ _ => exact hu.completed ..
  | resets straps => exact .resetAt straps
  | _ => exact hu.of_records rfl

end Effects

/-- Settles O56: every effect of a command makes one change of the station table and keeps the keys. -/
theorem stepsKeepTableAndKeysSound : Obligations.StepsKeepTableAndKeysSound := by
  unfold Obligations.StepsKeepTableAndKeysSound
  intro s t h
  refine ⟨?_, ?_, ?_⟩
  · exact step_keeps (fun _ _ h => h) (fun _ _ h => h) (fun s p busy h => (State.lineSeen_table s p busy).symm ▸ h)
      (fun _ _ hu hd => hd.table_becomes.banksSound hu) h
  · exact step_keeps (fun _ _ h => h) (fun _ _ h => h)
      (fun s p busy h => by
        rw [State.lineSeen_table]
        exact h)
      (fun _ _ hu hd => hd.table_becomes.placesSound hu) h
  · exact step_keeps (fun _ _ h => h.of_records rfl) (fun _ _ h => h.of_records rfl)
      (fun _ _ _ h => h.of_records (State.lineSeen_records ..)) (fun _ _ hu hd => hd.keysDistinct hu) h

end Sys2Proof.Machine
end

section
/-! PROOFS. The rules of the branch queues and of the trunk queue, and the changes that touch neither the management
unit nor the alert unit (R100, R105 to R107). -/

namespace Sys2Proof.Machine

/-! ### One branch queue (R100) -/

theorem QueueSound.nil : QueueSound [] := ⟨Nat.zero_le 8, .nil⟩

theorem QueueSound.sublist {q r : List BranchItem} (h : QueueSound q) (hr : r.Sublist q) : QueueSound r :=
  ⟨hr.length_le.trans h.1, h.2.sublist hr⟩

/-- A placed item keeps the queue sound where there is room. -/
theorem QueueSound.insertItem {q : List BranchItem} (h : QueueSound q) (hroom : q.length < 8) (i : BranchItem) :
    QueueSound (insertItem q i) := by
  rw [insertItem_eq_placed h, placed]
  cases hi : i.urgent with
  | true =>
    rw [if_pos rfl]
    constructor
    · have hsplit := List.length_eq_length_filter_add (l := q) (fun j => j.urgent)
      rw [List.length_append, List.length_cons]
      omega
    · rw [List.pairwise_append, List.pairwise_cons]
      refine ⟨h.2.filter _, ⟨fun b _ _ => hi, h.2.filter _⟩, fun a ha b _ _ => ?_⟩
      exact (List.mem_filter.mp ha).2
  | false =>
    rw [if_neg Bool.false_ne_true]
    constructor
    · rw [List.length_append]
      exact hroom
    · rw [List.pairwise_append]
      refine ⟨h.2, List.pairwise_singleton .., fun a _ b hb hu => ?_⟩
      rw [List.mem_singleton.mp hb, hi] at hu
      cases hu

/-! ### The trunk queue (R105, R106, R107) -/

/-- What R105 to R107 say of a trunk queue, with the port ACTIVE or not. -/
def TrunkSound (active : Bool) (q : List TrunkItem) : Prop :=
  q.length ≤ 28 ∧ (∀ c, classCount q c ≤ c.limit) ∧
  (q.filter TrunkItem.isResponse).length ≤ 1 ∧ (q.filter TrunkItem.isBusy).length ≤ 1 ∧ (active = false → q = [])

theorem State.trunkQueueSound_iff (s : State) : s.TrunkQueueSound ↔ TrunkSound (s.isActive .p0) s.trunkQueue := Iff.rfl

theorem TrunkSound.nil (active : Bool) : TrunkSound active [] :=
  ⟨Nat.zero_le _, fun _ => Nat.zero_le _, Nat.zero_le _, Nat.zero_le _, fun _ => rfl⟩

theorem TrunkSound.sublist {active : Bool} {q r : List TrunkItem} (h : TrunkSound active q) (hr : r.Sublist q) :
    TrunkSound active r := by
  obtain ⟨hlen, hclass, hresp, hbusy, hdown⟩ := h
  refine ⟨hr.length_le.trans hlen, fun c => ((hr.filter _).length_le).trans (hclass c),
    ((hr.filter _).length_le).trans hresp, ((hr.filter _).length_le).trans hbusy, fun ha => ?_⟩
  rw [hdown ha] at hr
  exact List.sublist_nil.mp hr

theorem classCount_append (q : List TrunkItem) (i : TrunkItem) (c : TrunkClass) :
    classCount (q ++ [i]) c = classCount q c + if i.cls = c then 1 else 0 := by
  rw [classCount, List.filter_append, List.length_append]
  by_cases h : i.cls = c <;> simp [h, classCount]

/-- Each item is of one of the five classes. -/
theorem length_eq_sum_classCount (q : List TrunkItem) :
    q.length = classCount q .exchange + classCount q .management + classCount q .alert + classCount q .immediate +
      classCount q .passUp := by
  induction q with
  | nil => rfl
  | cons i q ih =>
    have hcons : ∀ c, classCount (i :: q) c = classCount q c + if i.cls = c then 1 else 0 := fun c => by
      by_cases h : i.cls = c <;> simp [h, classCount]
    simp only [hcons, List.length_cons, ih]
    cases i.cls <;> simp <;> omega

/-- A kind with a place of its own has one item at most, where an admitted item found its place free (R107). -/
theorem length_filter_append_le_one {f : TrunkItem → Bool} {q : List TrunkItem} {i : TrunkItem}
    (hq : (q.filter f).length ≤ 1) (hfree : (!f i || q.all (fun j => !f j)) = true) :
    ((q ++ [i]).filter f).length ≤ 1 := by
  rw [List.filter_append, List.length_append]
  cases hi : f i with
  | false => simpa [hi] using hq
  | true =>
    have hnone : q.filter f = [] := by
      rw [hi] at hfree
      simpa [List.filter_eq_nil_iff] using hfree
    simp [hnone, hi]

theorem State.admits_iff (s : State) (i : TrunkItem) :
    s.admits i = true ↔
      s.isActive .p0 = true ∧ classCount s.trunkQueue i.cls < i.cls.limit ∧ placeFree s.trunkQueue i = true := by
  simp [State.admits, and_assoc]

/-- An admitted item at the tail keeps the trunk queue sound (R106, R107). -/
theorem TrunkSound.append {s : State} {i : TrunkItem} (h : s.TrunkQueueSound) (ha : s.admits i = true) :
    TrunkSound (s.isActive .p0) (s.trunkQueue ++ [i]) := by
  obtain ⟨hactive, hroom, hplace⟩ := (s.admits_iff i).mp ha
  obtain ⟨-, hclass, hresp, hbusy, -⟩ := h
  have hcount : ∀ c, classCount (s.trunkQueue ++ [i]) c ≤ c.limit := fun c => by
    rw [classCount_append]
    split
    · rename_i hc
      subst hc
      exact hroom
    · exact hclass c
  obtain ⟨hfreeResp, hfreeBusy⟩ := Bool.and_eq_true_iff.mp hplace
  refine ⟨?_, hcount, length_filter_append_le_one hresp hfreeResp, length_filter_append_le_one hbusy hfreeBusy, ?_⟩
  · rw [length_eq_sum_classCount]
    have := hcount .exchange
    have := hcount .management
    have := hcount .alert
    have := hcount .immediate
    have := hcount .passUp
    simp only [TrunkClass.limit] at *
    omega
  · rw [hactive]
    exact nofun

/-! ### Lines whose transmitter keeps its current item -/

/-- The line is as it was, or it is ACTIVE before and after with the same current item. -/
def Line.Alike (l m : Line) : Prop :=
  m = l ∨ ∃ v w : Live, l = .active v ∧ m = .active w ∧ w.tx.current?.map (·.item) = v.tx.current?.map (·.item)

/-- The transmitter holds a trunk item as far as its current item is one. -/
theorem Tx.sendsTrunk_congr {t u : Tx} (h : u.current?.map (·.item) = t.current?.map (·.item))
    (f : TrunkItem → Bool) : u.sendsTrunk f = t.sendsTrunk f := by
  unfold Tx.sendsTrunk
  cases ht : t.current? <;> cases hu : u.current? <;> simp_all

namespace Line.Alike

variable {l m n : Line}

theorem refl (l : Line) : l.Alike l := .inl rfl

theorem active {v w : Live} (h : w.tx.current?.map (·.item) = v.tx.current?.map (·.item)) :
    (Line.active v).Alike (.active w) := .inr ⟨v, w, rfl, rfl, h⟩

theorem trans (h : l.Alike m) (h' : m.Alike n) : l.Alike n := by
  rcases h with rfl | ⟨v, w, rfl, rfl, hi⟩
  · exact h'
  · rcases h' with rfl | ⟨v', w', hm, rfl, hi'⟩
    · exact active hi
    · cases hm
      exact active (hi'.trans hi)

theorem isSome_live? (h : l.Alike m) : m.live?.isSome = l.live?.isSome := by
  rcases h with rfl | ⟨v, w, rfl, rfl, -⟩ <;> rfl

theorem sendsTrunk (h : l.Alike m) (f : TrunkItem → Bool) : m.sendsTrunk f = l.sendsTrunk f := by
  rcases h with rfl | ⟨v, w, rfl, rfl, hi⟩
  · rfl
  · exact Tx.sendsTrunk_congr hi f

theorem ne_disabled (h : l.Alike m) (hl : l ≠ .disabled) : m ≠ .disabled := by
  rcases h with rfl | ⟨v, w, rfl, rfl, -⟩
  · exact hl
  · exact nofun

end Line.Alike

end Sys2Proof.Machine
end

section
/-! PROOFS. The changes that leave the management unit, the alert unit and the transmitters' current items alone, and
keep both kinds of queues sound (R99 to R107). -/

namespace Sys2Proof.Machine

/-- The item belongs to the management unit or to the alert unit: the response, or an alert. -/
def TrunkItem.ofUnit (i : TrunkItem) : Bool := i.isResponse || i.isAlert

/-- Between `s` and `t` nothing happened that the management unit, the alert unit or a transmitter sees, and queues
that were sound are sound. -/
structure State.Quiet (s t : State) : Prop where
  lines : ∀ p, (s.port p).line.Alike (t.port p).line
  guard : (t.port .p0).guard = (s.port .p0).guard
  mgmt : t.mgmt = s.mgmt
  alerts : t.alerts = s.alerts
  units : t.trunkQueue.filter TrunkItem.ofUnit = s.trunkQueue.filter TrunkItem.ofUnit
  branchQueues : s.BranchQueuesSound → t.BranchQueuesSound
  trunk : s.TrunkQueueSound → t.TrunkQueueSound

theorem State.isActive_of_alike {s t : State} {p : PortId} (h : (s.port p).line.Alike (t.port p).line) :
    t.isActive p = s.isActive p := h.isSome_live?

theorem State.TrunkQueueSound.congr {s t : State} (h : s.TrunkQueueSound) (ha : t.isActive .p0 = s.isActive .p0)
    (hq : t.trunkQueue = s.trunkQueue) : t.TrunkQueueSound := by
  rw [State.trunkQueueSound_iff, ha, hq]
  exact h

theorem State.BranchQueuesSound.sublist {s t : State} (h : s.BranchQueuesSound)
    (ha : ∀ b, t.isActive (branchPort b) = s.isActive (branchPort b))
    (hq : ∀ b, (t.branch b).queue.Sublist (s.branch b).queue) : t.BranchQueuesSound := fun b => by
  obtain ⟨hsound, hdown⟩ := h b
  refine ⟨hsound.sublist (hq b), fun hb => ?_⟩
  have := hq b
  rw [hdown (ha _ ▸ hb)] at this
  exact List.sublist_nil.mp this

theorem State.branch_congr {s t : State} (h : t.branches = s.branches) (b : BranchId) : t.branch b = s.branch b := by
  rw [State.branch_eq, h, ← State.branch_eq]

theorem State.port_congr {s t : State} (h : t.ports = s.ports) (p : PortId) : t.port p = s.port p := by
  rw [State.port_eq, h, ← State.port_eq]

namespace State.Quiet

variable {s t u : State}

theorem refl (s : State) : s.Quiet s := ⟨fun _ => .refl _, rfl, rfl, rfl, rfl, id, id⟩

theorem trans (h : s.Quiet t) (h' : t.Quiet u) : s.Quiet u :=
  ⟨fun p => (h.lines p).trans (h'.lines p), h'.guard.trans h.guard, h'.mgmt.trans h.mgmt, h'.alerts.trans h.alerts,
    h'.units.trans h.units, h'.branchQueues ∘ h.branchQueues, h'.trunk ∘ h.trunk⟩

theorem isActive_eq (h : s.Quiet t) (p : PortId) : t.isActive p = s.isActive p := State.isActive_of_alike (h.lines p)

theorem foldl {α : Type} {op : State → α → State} (hop : ∀ (t : State) a, t.Quiet (op t a)) (as : List α) (s : State) :
    s.Quiet (as.foldl op s) := by
  induction as generalizing s with
  | nil => exact refl s
  | cons a as ih => exact (hop s a).trans (ih (op s a))

/-- Lines alike, and branch queues that lost items at most. -/
theorem of_lines (hl : ∀ p, (s.port p).line.Alike (t.port p).line) (hg : (t.port .p0).guard = (s.port .p0).guard)
    (hm : t.mgmt = s.mgmt) (ha : t.alerts = s.alerts) (hq : t.trunkQueue = s.trunkQueue)
    (hb : ∀ b, (t.branch b).queue.Sublist (s.branch b).queue) : s.Quiet t :=
  ⟨hl, hg, hm, ha, by rw [hq], fun h => h.sublist (fun _ => State.isActive_of_alike (hl _)) hb,
    fun h => h.congr (State.isActive_of_alike (hl .p0)) hq⟩

/-- Nothing that the queues, the units or the transmitters hold is touched. -/
theorem of_eq (hp : t.ports = s.ports) (hb : t.branches = s.branches) (hm : t.mgmt = s.mgmt) (ha : t.alerts = s.alerts)
    (hq : t.trunkQueue = s.trunkQueue) : s.Quiet t :=
  of_lines (fun p => State.port_congr hp p ▸ .refl _) (by rw [State.port_congr hp]) hm ha hq
    (fun b => State.branch_congr hb b ▸ .refl _)

/-- What a branch holds changes, and its queue loses items at most. -/
theorem setBranch (s : State) (b : BranchId) {x : Branch} (hx : x.queue.Sublist (s.branch b).queue) :
    s.Quiet (s.setBranch b x) :=
  of_lines (fun _ => .refl _) rfl rfl rfl rfl fun c => by
    rw [State.branch_setBranch]
    split
    · rename_i hc
      exact hc ▸ hx
    · exact .refl _

/-- A port changes, and its line stays alike. -/
theorem setPort (s : State) (p : PortId) {x : Port} (hl : (s.port p).line.Alike x.line)
    (hg : p = .p0 → x.guard = (s.port p).guard) : s.Quiet (s.setPort p x) := by
  refine of_lines (fun q => ?_) ?_ rfl rfl rfl (fun _ => .refl _)
  · rw [State.port_setPort]
    split
    · rename_i hq
      exact hq ▸ hl
    · exact .refl _
  · rw [State.port_setPort]
    split
    · rename_i hq
      rw [hg hq.symm, hq]
    · rfl

theorem line_eq_of_live? {p : PortId} {l : Live} (h : s.live? p = some l) : (s.port p).line = .active l := by
  unfold State.live? at h
  cases hl : (s.port p).line <;> simp_all

theorem setLive {p : PortId} {l m : Live} (h : s.live? p = some l)
    (hi : m.tx.current?.map (·.item) = l.tx.current?.map (·.item)) : s.Quiet (s.setLive p m) :=
  setPort s p (by rw [line_eq_of_live? h]; exact .active hi) (fun _ => rfl)

theorem countPort (s : State) (p : PortId) (c : PortCounter) : s.Quiet (s.countPort p c) :=
  setPort s p (.refl _) (fun _ => rfl)

/-- An admitted item of the exchange engine, of dispatch or of the BUSY refusal stands at the tail, or none does. -/
theorem of_offer {i : TrunkItem} (hi : i.ofUnit = false) (hp : t.ports = s.ports) (hb : t.branches = s.branches)
    (hm : t.mgmt = s.mgmt) (ha : t.alerts = s.alerts) (hadmits : s.admits i = true)
    (hq : t.trunkQueue = s.trunkQueue ++ [i]) : s.Quiet t where
  lines p := State.port_congr hp p ▸ .refl _
  guard := by rw [State.port_congr hp]
  mgmt := hm
  alerts := ha
  units := by rw [hq, List.filter_append, List.filter_singleton, hi]; simp
  branchQueues h := h.sublist (fun _ => by rw [State.isActive_eq, hp, State.isActive_eq])
    (fun b => State.branch_congr hb b ▸ .refl _)
  trunk h := by
    rw [State.trunkQueueSound_iff, hq, State.isActive_eq, hp, ← State.isActive_eq]
    exact TrunkSound.append h hadmits

theorem releaseOpt (s : State) (r : Option BufId) : s.Quiet (s.releaseOpt r) := of_eq (by simp) (by simp) (by simp) (by simp) (by simp)

theorem release (s : State) (b : BufId) : s.Quiet (s.release b) := of_eq rfl rfl rfl rfl rfl

/-- A placed item keeps the branch queue sound where there is room (R100). -/
theorem appendItem {b : BranchId} (hroom : s.branchHasRoom b = true) (i : BranchItem) : s.Quiet (s.appendItem b i) where
  lines _ := .refl _
  guard := rfl
  mgmt := rfl
  alerts := rfl
  units := rfl
  trunk h := h
  branchQueues h := fun c => by
    obtain ⟨hactive, hlen⟩ := Bool.and_eq_true_iff.mp hroom
    obtain ⟨hsound, hdown⟩ := h c
    rw [State.appendItem, State.branch_setBranch]
    split
    · rename_i hc
      subst hc
      refine ⟨hsound.insertItem (of_decide_eq_true hlen) i, fun hb => ?_⟩
      exact absurd (hb.symm.trans hactive) Bool.false_ne_true
    · exact ⟨hsound, hdown⟩

/-! ### The operations of the exchange engine -/

theorem setRecord (s : State) (x : SlotNo) (r : Option Exchange) : s.Quiet (s.setRecord x r) := of_eq rfl rfl rfl rfl rfl

theorem count (s : State) (c : BridgeCounter) : s.Quiet (s.count c) := of_eq rfl rfl rfl rfl rfl

theorem refuse (s : State) (x : SlotNo) (e : Exchange) (d : Direct) (r : Reason) : s.Quiet (s.refuse x e d r) := by
  unfold State.refuse
  split
  · rename_i ha
    exact (releaseOpt s e.request).trans (of_offer (i := .refusalReturn x (e.refusal r)) rfl rfl rfl rfl rfl ha rfl)
  · exact (releaseOpt s e.request).trans (of_eq rfl rfl rfl rfl rfl)

theorem returnFrame (s : State) (x : SlotNo) (e : Exchange) (d : Direct) (b : BufId) :
    s.Quiet (s.returnFrame x e d b) := by
  unfold State.returnFrame
  split
  · rename_i ha
    exact (releaseOpt s e.request).trans (of_offer (i := .frameReturn x b) rfl rfl rfl rfl rfl ha rfl)
  · exact (releaseOpt s e.request).trans (of_eq rfl rfl rfl rfl rfl)

theorem refuseAtOnce (s : State) (b : BufId) (r : RefusalItem) : s.Quiet (s.refuseAtOnce b r) := by
  unfold State.refuseAtOnce
  split
  · rename_i ha
    exact (release s b).trans (of_offer (i := .immediate r) rfl rfl rfl rfl rfl ha rfl)
  · exact of_eq rfl rfl rfl rfl rfl

theorem settle (s : State) (x : SlotNo) (e : Exchange) (q : Probe) : s.Quiet (s.settle x e q) := by
  rw [State.settle_eq]
  exact setRecord ..

theorem loseBranch (s : State) (x : SlotNo) (e : Exchange) (q : Probe) (b : BranchId) :
    s.Quiet (s.loseBranch x e q b) := by
  unfold State.loseBranch
  split
  · split
    · exact (releaseOpt s e.request).trans (of_eq rfl rfl rfl rfl rfl)
    · exact setRecord ..
  · exact settle ..

theorem returnAnswer (s : State) (x : SlotNo) (e : Exchange) (q : Probe) (b : BufId) :
    s.Quiet (s.returnAnswer x e q b) := by
  unfold State.returnAnswer
  split
  · rename_i ha
    have hreturned : s.Quiet (s.enqueue (.frameReturn x b)) := of_offer rfl rfl rfl rfl rfl ha rfl
    exact hreturned.trans (settle ..)
  · have hlost : s.Quiet ((s.release b).count .returnsLost) := of_eq rfl rfl rfl rfl rfl
    exact hlost.trans (settle ..)

theorem returnDone (s : State) (x : SlotNo) : s.Quiet (s.returnDone x) := by
  unfold State.returnDone
  split
  · exact refl s
  · split
    · exact setRecord ..
    · exact settle ..

theorem returnLost (s : State) (x : SlotNo) : s.Quiet (s.returnLost x) := (returnDone s x).trans (count ..)

theorem learn (s : State) (a : Octet) (b : BranchId) : s.Quiet (s.learn a b) := by
  rw [State.learn_frame]
  exact of_eq rfl rfl rfl rfl rfl

theorem refreshFor (s : State) (e : Exchange) (d : Direct) (f : Frame) : s.Quiet (s.refreshFor e d f) := by
  rw [State.refreshFor_frame]
  exact of_eq rfl rfl rfl rfl rfl

theorem setQueue (s : State) (b : BranchId) {q : List BranchItem} (hq : q.Sublist (s.branch b).queue) :
    s.Quiet (s.setQueue b q) := setBranch s b hq

theorem releaseAll (s : State) (bs : List BufId) : s.Quiet (s.releaseAll bs) :=
  of_eq (by simp) (by simp) (by simp) (by simp) (by simp)

theorem cancelIn (x : SlotNo) (s : State) (q : BranchId) : s.Quiet (State.cancelIn x s q) := by
  unfold State.cancelIn
  exact (setQueue s q List.filter_sublist).trans (releaseAll ..)

theorem emptyQueue (s : State) (p : BranchId) : s.Quiet (s.emptyQueue p) := by
  unfold State.emptyQueue
  exact (setQueue s p (List.nil_sublist _)).trans (releaseAll ..)

theorem clearBranch (s : State) (p : BranchId) : s.Quiet (s.clearBranch p) := setBranch s p (.refl _)

theorem setSlot (s : State) (b : BranchId) (v : Option Slot) : s.Quiet (s.setSlot b v) := setBranch s b (.refl _)

theorem setHolder (s : State) (b : BranchId) (v : Option SlotNo) : s.Quiet (s.setHolder b v) := setBranch s b (.refl _)

theorem setLastTimedOut (s : State) (b : BranchId) (v : Option (Key × SlotNo)) : s.Quiet (s.setLastTimedOut b v) :=
  setBranch s b (.refl _)

theorem downRecord (p : BranchId) (s : State) (x : SlotNo) : s.Quiet (State.downRecord p s x) := by
  unfold State.downRecord
  split
  · exact refl s
  · split
    · split
      · exact refuse ..
      · exact refl s
    · split
      · exact loseBranch ..
      · exact refl s

theorem flushRecord (s : State) (x : SlotNo) : s.Quiet (s.flushRecord x) := by
  unfold State.flushRecord
  split
  · exact refl s
  · split
    · split
      · exact refuse ..
      · exact refl s
    · split
      · exact (releaseOpt ..).trans (setRecord ..)
      · exact settle ..

theorem branchDown (s : State) (p : BranchId) : s.Quiet (s.branchDown p) :=
  ((emptyQueue s p).trans (clearBranch _ p)).trans (foldl (downRecord p) allSlots _)

theorem flushed (s : State) : s.Quiet s.flushed :=
  (foldl (fun t p => (emptyQueue t p).trans (clearBranch _ p)) allBranches s).trans (foldl flushRecord allSlots _)

theorem windowExpired (s : State) (p : BranchId) (x : SlotNo) (e : Exchange) (d : Direct) :
    s.Quiet (s.windowExpired p x e d) := by
  have hstart : s.Quiet (((s.count .timeouts).setSlot p none).setLastTimedOut p (some (e.key, x))) :=
    ((count ..).trans (setSlot ..)).trans (setLastTimedOut ..)
  unfold State.windowExpired
  dsimp only
  split
  · exact (hstart.trans (setHolder ..)).trans (setRecord ..)
  · exact hstart.trans (refuse ..)

theorem matched (s : State) (q : BranchId) (x : SlotNo) (e : Exchange) (d : Direct) (f : Frame) (b : BufId) :
    s.Quiet (s.matched q x e d f b) := ((setSlot ..).trans (refreshFor ..)).trans (returnFrame ..)

theorem lateAccepted (s : State) (q : BranchId) (x : SlotNo) (e : Exchange) (d : Direct) (f : Frame) (b : BufId) :
    s.Quiet (s.lateAccepted q x e d f b) := ((setHolder ..).trans (refreshFor ..)).trans (returnFrame ..)

theorem firstTaken (s : State) (p : BranchId) (x : SlotNo) (e : Exchange) : s.Quiet (s.firstTaken p x e) :=
  (((setSlot s p none).trans (foldl (cancelIn x) allBranches _)).trans (releaseOpt ..)).trans (learn ..)

theorem branchSent (s : State) (p : BranchId) (i : BranchItem) : s.Quiet (s.branchSent p i) := by
  rcases State.branchSent_cases s p i with h | ⟨x, -, -, h⟩ | ⟨x, e, d, -, -, -, -, -, h⟩ <;> rw [h]
  · exact refl s
  · exact setSlot ..
  · exact (setRecord ..).trans (setSlot ..)

theorem branchAbandoned (s : State) (p : BranchId) (i : BranchItem) : s.Quiet (s.branchAbandoned p i) := by
  rcases State.branchAbandoned_cases s p i with h | ⟨x, e, q, -, -, -, -, h⟩ | ⟨x, e, d, -, -, -, -, -, h⟩ <;> rw [h]
  · exact refl s
  · exact (setSlot ..).trans (loseBranch ..)
  · exact (setSlot ..).trans (refuse ..)

/-! ### The operations of dispatch and of the receivers -/

theorem refuseBusy (s : State) (h : Header) : s.Quiet (s.refuseBusy h) := by
  unfold State.refuseBusy
  dsimp only
  split
  · rename_i ha
    exact of_offer rfl rfl rfl rfl rfl ha rfl
  · exact count ..

theorem placeNotices (s : State) (f : Frame) (b : BufId) (targets : List BranchId) :
    s.Quiet (s.placeNotices f b targets) := by
  refine (foldl (fun t q => ?_) targets s).trans (release _ b)
  unfold State.placeNotice
  split
  · rename_i hroom
    exact appendItem hroom _
  · exact countPort ..

theorem openDirectAt {q : BranchId} (hroom : s.branchHasRoom q = true) (x : SlotNo) (f : Frame) (b : BufId)
    (window : Octet) (retries : Fin 4) (v : Bool) : s.Quiet (s.openDirectAt x f b q window retries v) := by
  refine ((setRecord s x _).trans (appendItem ?_ _)).trans (count ..)
  exact hroom

/-- The room that the probe set was found to have is still there where each branch is offered its copy once (R56). -/
theorem placeProbes {x : SlotNo} {f : Frame} {b : BufId} {set : PerBranch Bool} {qs : List BranchId} (hnd : qs.Nodup)
    (hroom : ∀ q ∈ qs, branchGet set q = true → s.branchHasRoom q = true) :
    s.Quiet (qs.foldl (State.placeProbe x f b set) s) := by
  induction qs generalizing s with
  | nil => exact refl s
  | cons q qs ih =>
    obtain ⟨hq, hnd⟩ := List.nodup_cons.mp hnd
    rw [List.foldl_cons]
    have hkept : ∀ c, c ≠ q → (State.placeProbe x f b set s q).branchHasRoom c = s.branchHasRoom c := fun c hc => by
      unfold State.placeProbe
      split
      · rw [State.branchHasRoom, State.appendItem, State.branch_setBranch, if_neg hc]
        rfl
      · rfl
    have hfirst : s.Quiet (State.placeProbe x f b set s q) := by
      unfold State.placeProbe
      split
      · rename_i hset
        exact appendItem (hroom q (List.mem_cons_self ..) hset) _
      · exact refl s
    refine hfirst.trans (ih hnd fun c hc hset => ?_)
    rw [hkept c (fun h => hq (h ▸ hc))]
    exact hroom c (List.mem_cons_of_mem _ hc) hset

theorem openProbeAt (s : State) (x : SlotNo) (f : Frame) (b : BufId) :
    s.Quiet (s.openProbeAt x f b s.probeSet) := by
  refine ((setRecord ..).trans (placeProbes (by decide) fun q _ hq => ?_)).trans (count ..)
  have hqual : branchGet s.probeSet q = s.qualifies q := by cases q <;> rfl
  rw [hqual] at hq
  exact (Bool.and_eq_true_iff.mp hq).2

theorem unsolicitedFrame (s : State) (q : BranchId) (b : BufId) : s.Quiet (s.unsolicitedFrame q b) := by
  unfold State.unsolicitedFrame
  split
  · exact (countPort ..).trans (release ..)
  · split
    · rename_i ha
      exact (countPort ..).trans (of_offer rfl rfl rfl rfl rfl ha rfl)
    · exact ((countPort ..).trans (release ..)).trans (countPort ..)

theorem endEarly {p : PortId} {l m : Live} (h : s.live? p = some l)
    (hi : m.tx.current?.map (·.item) = l.tx.current?.map (·.item)) : s.Quiet (s.endEarly p m) := by
  unfold State.endEarly
  split
  · exact refl s
  · refine Quiet.trans ?_ (release ..)
    refine Quiet.trans ?_ (countPort ..)
    exact setLive h hi
  · exact setLive h hi

theorem clearPortCounters (s : State) (p : PortId) : s.Quiet (s.clearPortCounters p) :=
  setPort s p (.refl _) (fun _ => rfl)

theorem configure (s : State) (b : BranchId) (rate guard unsolicited broadcast probe : Octet) :
    s.Quiet (s.configure b rate guard unsolicited broadcast probe) := by
  unfold State.configure
  refine Quiet.trans (setPort s (branchPort b) ?_ ?_) (setBranch _ b ?_)
  · exact .refl _
  · exact fun h => absurd h (by cases b <;> decide)
  · exact .refl _

theorem age (s : State) : s.Quiet s.age := by
  unfold State.age
  rw [State.countTimes_frame]
  exact of_eq rfl rfl rfl rfl rfl

theorem retain (s : State) (b : BufId) : s.Quiet (s.retain b) := of_eq rfl rfl rfl rfl rfl

/-- What the holder's exchange leaves of the branch when it is taken (R33). -/
theorem holderTaken (s : State) (b : BranchId) (x : SlotNo) (r : Option Exchange) (v : Option Slot) (buf : BufId) :
    s.Quiet ((((s.setRecord x r).setHolder b none).setSlot b v).retain buf) :=
  (((setRecord ..).trans (setHolder ..)).trans (setSlot ..)).trans (retain ..)

/-- What the head of a branch queue leaves of the branch when it is taken (R32). -/
theorem headTaken {b : BranchId} {i : BranchItem} {rest : List BranchItem} (hq : (s.branch b).queue = i :: rest)
    (v : Option Slot) : s.Quiet ((s.setQueue b rest).setSlot b v) :=
  (setQueue s b (hq ▸ List.sublist_cons_self i rest)).trans (setSlot ..)

end State.Quiet

end Sys2Proof.Machine
end

section
/-! PROOFS. The end of the trunk's items at a teardown: what the units hear of it (R110, R121, R155, R181). -/

namespace Sys2Proof.Machine

/-! ### The items of the trunk -/

/-- The trunk item that the transmitter of a line holds (R130). -/
def Line.trunkItem? (l : Line) : Option TrunkItem :=
  match l.live?.bind (fun v => v.tx.current?) with
  | some c => match c.item with
    | .trunk i => some i
    | .branch _ => none
  | none => none

/-- A line sends a trunk item of a kind as far as the one it holds is of the kind. -/
theorem Line.sendsTrunk_eq (l : Line) (f : TrunkItem → Bool) :
    l.sendsTrunk f = (l.trunkItem?.toList.filter f).length := by
  cases l with
  | disabled => rfl
  | fault n => rfl
  | active v =>
    simp only [Line.sendsTrunk, Tx.sendsTrunk, Line.trunkItem?, Line.live?_active, Option.bind_some]
    cases v.tx.current? with
    | none => rfl
    | some c =>
      obtain ⟨item, n⟩ := c
      cases item with
      | branch i => rfl
      | trunk i => cases hf : f i <;> simp [hf]

/-- The items of the trunk, the current one ahead of the queue (R105, R130). -/
def State.trunkItems (s : State) : List TrunkItem := (s.port .p0).line.trunkItem?.toList ++ s.trunkQueue

theorem State.standing_eq (s : State) (f : TrunkItem → Bool) : s.standing f = (s.trunkItems.filter f).length := by
  rw [State.standing, Line.sendsTrunk_eq, State.trunkItems, List.filter_append, List.length_append, Nat.add_comm]

theorem State.standing_eq_zero_iff (s : State) (f : TrunkItem → Bool) : s.standing f = 0 ↔ s.trunkItems.any f = false := by
  rw [State.standing_eq, List.length_eq_zero_iff, List.filter_eq_nil_iff, List.any_eq_false]

/-! ### Items dropped while P0 is not ACTIVE -/

/-- The management unit when items have been dropped (R155). -/
def Mgmt.afterDrop (m : Mgmt) (items : List TrunkItem) : Mgmt :=
  if items.any TrunkItem.isResponse then { m with phase := .idle } else m

/-- The alert unit when items have been dropped (R181). -/
def AlertUnit.afterDrop (u : AlertUnit) (items : List TrunkItem) : AlertUnit :=
  if items.any TrunkItem.isAlert then { u with offered := false } else u

theorem Mgmt.afterDrop_append (m : Mgmt) (is js : List TrunkItem) :
    m.afterDrop (is ++ js) = (m.afterDrop is).afterDrop js := by
  unfold Mgmt.afterDrop
  rw [List.any_append]
  cases is.any TrunkItem.isResponse <;> cases js.any TrunkItem.isResponse <;> rfl

theorem AlertUnit.afterDrop_append (u : AlertUnit) (is js : List TrunkItem) :
    u.afterDrop (is ++ js) = (u.afterDrop is).afterDrop js := by
  unfold AlertUnit.afterDrop
  rw [List.any_append]
  cases is.any TrunkItem.isAlert <;> cases js.any TrunkItem.isAlert <;> rfl

section

variable {s : State}

/-- No alert is offered while P0 is not ACTIVE. -/
theorem State.offerAlert_of_down (h : s.isActive .p0 = false) : s.offerAlert = s :=
  State.offerAlert_of_not_due (.inr (.inr (.inr h)))

/-- An alert that is lost while P0 is not ACTIVE is not offered again (R179, R181). -/
theorem State.alertLost_of_down (h : s.isActive .p0 = false) :
    s.alertLost = { s with alerts := { s.alerts with offered := false } } :=
  State.offerAlert_of_down (s := { s with alerts := { s.alerts with offered := false } }) h

/-- What the units and the queue see of one dropped item while P0 is not ACTIVE. -/
theorem State.dropItem_of_down (h : s.isActive .p0 = false) (i : TrunkItem) :
    (s.dropItem i).mgmt = s.mgmt.afterDrop [i] ∧ (s.dropItem i).alerts = s.alerts.afterDrop [i] ∧
      (s.dropItem i).trunkQueue = s.trunkQueue := by
  cases i with
  | frameReturn x b => exact ⟨State.returnLost_mgmt s x, State.returnLost_alerts s x, State.returnLost_trunkQueue s x⟩
  | refusalReturn x r => exact ⟨State.returnLost_mgmt s x, State.returnLost_alerts s x, State.returnLost_trunkQueue s x⟩
  | alert a =>
    rw [State.dropItem, State.alertLost_of_down h]
    exact ⟨rfl, rfl, rfl⟩
  | _ => exact ⟨rfl, rfl, rfl⟩

theorem State.isActive_dropItem (s : State) (i : TrunkItem) (p : PortId) : (s.dropItem i).isActive p = s.isActive p := by
  rw [State.isActive_eq, State.dropItem_ports, ← State.isActive_eq]

theorem State.dropItems_of_down (h : s.isActive .p0 = false) (q : List TrunkItem) :
    (q.foldl (fun t i => (t.releaseOpt i.buf?).dropItem i) s).mgmt = s.mgmt.afterDrop q ∧
    (q.foldl (fun t i => (t.releaseOpt i.buf?).dropItem i) s).alerts = s.alerts.afterDrop q ∧
    (q.foldl (fun t i => (t.releaseOpt i.buf?).dropItem i) s).trunkQueue = s.trunkQueue := by
  induction q generalizing s with
  | nil => exact ⟨rfl, rfl, rfl⟩
  | cons i q ih =>
    have hdown : (s.releaseOpt i.buf?).isActive .p0 = false := by
      rw [State.isActive_eq, State.releaseOpt_ports, ← State.isActive_eq, h]
    obtain ⟨hm, ha, hq⟩ := State.dropItem_of_down hdown i
    obtain ⟨hm', ha', hq'⟩ := ih ((State.isActive_dropItem ..).trans hdown)
    rw [List.foldl_cons, hm', ha', hq', hm, ha, hq, State.releaseOpt_mgmt, State.releaseOpt_alerts,
      State.releaseOpt_trunkQueue, ← List.singleton_append (l := q), Mgmt.afterDrop_append, AlertUnit.afterDrop_append]
    exact ⟨rfl, rfl, rfl⟩

theorem State.dropCurrent_of_down (h : s.isActive .p0 = false) (l : Live) :
    (s.dropCurrent l.tx).mgmt = s.mgmt.afterDrop (Line.active l).trunkItem?.toList ∧
    (s.dropCurrent l.tx).alerts = s.alerts.afterDrop (Line.active l).trunkItem?.toList ∧
    (s.dropCurrent l.tx).trunkQueue = s.trunkQueue := by
  unfold State.dropCurrent Line.trunkItem?
  simp only [Line.live?_active, Option.bind_some]
  cases l.tx.current? with
  | none => exact ⟨rfl, rfl, rfl⟩
  | some c =>
    obtain ⟨item, n⟩ := c
    cases item with
    | branch i => exact ⟨rfl, rfl, rfl⟩
    | trunk i => exact State.dropItem_of_down h i

/-! ### The teardown -/

/-- The port that a teardown leaves (R121). -/
def State.stoppedPort (s : State) (p : PortId) (l : Live) (line : Line) : Port :=
  { s.port p with line := line, tail := l.tx.tailAt s.now (s.charTime p) (s.port p).rate (s.port p).tail }

theorem State.stopPort_of_live {p : PortId} {l : Live} (h : s.live? p = some l) (line : Line) :
    s.stopPort p line = ((s.setPort p (s.stoppedPort p l line)).releaseOpt l.rx.buf?).releaseOpt l.tx.buf? := by
  rw [State.stopPort, h]
  rfl

theorem State.stopPort_of_not_live {p : PortId} (h : s.live? p = none) (line : Line) : s.stopPort p line = s := by
  rw [State.stopPort, h]

theorem State.stopPort_ports_of_live {p : PortId} {l : Live} (h : s.live? p = some l) (line : Line) :
    (s.stopPort p line).ports = portSet s.ports p (s.stoppedPort p l line) := by
  rw [State.stopPort_of_live h, State.releaseOpt_ports, State.releaseOpt_ports, State.setPort_ports]

theorem State.port_stopPort_of_live {p : PortId} {l : Live} (h : s.live? p = some l) (line : Line) (q : PortId) :
    (s.stopPort p line).port q = if q = p then s.stoppedPort p l line else s.port q := by
  rw [State.port_eq, State.stopPort_ports_of_live h, portGet_portSet, ← State.port_eq]

theorem State.isActive_of_line {p : PortId} {line : Line} (h : (s.port p).line = line) (hl : line.live? = none) :
    s.isActive p = false := by
  rw [State.isActive, State.live?, h, hl]
  rfl

theorem State.line_of_live? {p : PortId} {l : Live} (h : s.live? p = some l) : (s.port p).line = .active l :=
  State.Quiet.line_eq_of_live? h

/-- What the teardown of the trunk leaves of the queue, the units and the ports. -/
theorem State.tearDownTrunk_of_live {l : Live} (h : s.live? .p0 = some l) {line : Line} (hl : line.live? = none) :
    (s.tearDownTrunk line).ports = portSet s.ports .p0 (s.stoppedPort .p0 l line) ∧
    (s.tearDownTrunk line).mgmt = s.mgmt.afterDrop s.trunkItems ∧
    (s.tearDownTrunk line).alerts = s.alerts.afterDrop s.trunkItems ∧
    (s.tearDownTrunk line).trunkQueue = [] := by
  have hports : ((s.stopPort .p0 line).dropCurrent l.tx).ports = portSet s.ports .p0 (s.stoppedPort .p0 l line) :=
    (State.dropCurrent_ports ..).trans (State.stopPort_ports_of_live h line)
  have hdown : ∀ t : State, t.ports = portSet s.ports .p0 (s.stoppedPort .p0 l line) → t.isActive .p0 = false :=
    fun t ht => State.isActive_of_line (line := line) (by rw [State.port_eq, ht, portGet_portSet]; rfl) hl
  obtain ⟨hm, ha, -⟩ := State.dropCurrent_of_down (hdown _ (State.stopPort_ports_of_live h line)) l
  obtain ⟨hm', ha', hq'⟩ := State.dropItems_of_down
    (s := { (s.stopPort .p0 line).dropCurrent l.tx with trunkQueue := [] }) (hdown _ hports) s.trunkQueue
  rw [State.tearDownTrunk, h]
  refine ⟨(State.dropItems_ports ..).trans hports, ?_, ?_, hq'⟩
  · rw [State.trunkItems, State.line_of_live? h, Mgmt.afterDrop_append]
    exact hm'.trans (by rw [hm, State.stopPort_mgmt])
  · rw [State.trunkItems, State.line_of_live? h, AlertUnit.afterDrop_append]
    exact ha'.trans (by rw [ha, State.stopPort_alerts])

end

end Sys2Proof.Machine
end

section
/-! PROOFS. Every effect of a command keeps the branch queues and the trunk queue sound, and with it O57. -/

namespace Sys2Proof.Machine

/-- Both kinds of queues are sound (R100, R105 to R107). -/
def State.QueuesSound (s : State) : Prop := s.BranchQueuesSound ∧ s.TrunkQueueSound

section Effects

variable {s t u v : State}

theorem State.Quiet.queuesSound (h : s.Quiet t) (hs : s.QueuesSound) : t.QueuesSound :=
  ⟨h.branchQueues hs.1, h.trunk hs.2⟩

/-- Queues that lost items at most are sound while the same ports are ACTIVE. -/
theorem State.QueuesSound.sublist (hs : s.QueuesSound) (ha : ∀ p, t.isActive p = s.isActive p)
    (hb : ∀ b, (t.branch b).queue.Sublist (s.branch b).queue) (hq : t.trunkQueue.Sublist s.trunkQueue) :
    t.QueuesSound := by
  refine ⟨hs.1.sublist (fun _ => ha _) hb, ?_⟩
  rw [State.trunkQueueSound_iff, ha]
  exact TrunkSound.sublist hs.2 hq

theorem State.QueuesSound.of_eq (hs : s.QueuesSound) (hp : t.ports = s.ports) (hb : t.branches = s.branches)
    (hq : t.trunkQueue = s.trunkQueue) : t.QueuesSound :=
  hs.sublist (fun p => by rw [State.isActive_eq, hp, State.isActive_eq])
    (fun b => State.branch_congr hb b ▸ .refl _) (hq ▸ .refl _)

theorem State.QueuesSound.offer (hs : s.QueuesSound) {i : TrunkItem} (ha : s.admits i = true) (hp : t.ports = s.ports)
    (hb : t.branches = s.branches) (hq : t.trunkQueue = s.trunkQueue ++ [i]) : t.QueuesSound := by
  refine ⟨hs.1.sublist (fun _ => by rw [State.isActive_eq, hp, State.isActive_eq])
    (fun b => State.branch_congr hb b ▸ .refl _), ?_⟩
  rw [State.trunkQueueSound_iff, hq, State.isActive_eq, hp, ← State.isActive_eq]
  exact TrunkSound.append hs.2 ha

theorem State.QueuesSound.resetAt (straps : Straps) : (s.resetAt straps).QueuesSound :=
  ⟨State.branchQueuesSound_resetWith straps, State.trunkQueueSound_resetWith straps⟩

/-! ### The units -/

theorem State.QueuesSound.offerAlert (hs : s.QueuesSound) : s.offerAlert.QueuesSound := by
  unfold State.offerAlert
  split
  · exact hs
  · split
    case isTrue h =>
      obtain ⟨-, -, ha⟩ := h
      exact hs.offer ha rfl rfl rfl
    case isFalse => exact hs

theorem State.QueuesSound.raise (hs : s.QueuesSound) (k : AlertKind) (a : Octet) : (s.raise k a).QueuesSound :=
  State.QueuesSound.offerAlert (s := { s with alerts := s.alerts.add k a }) hs

theorem State.QueuesSound.alertLost (hs : s.QueuesSound) : s.alertLost.QueuesSound :=
  State.QueuesSound.offerAlert (s := { s with alerts := { s.alerts with offered := false } }) hs

theorem State.QueuesSound.alertSent (hs : s.QueuesSound) (a : AlertItem) : (s.alertSent a).QueuesSound :=
  State.QueuesSound.offerAlert (s := { s with alerts := { s.alerts with
    list := s.alerts.list.tail, offered := false, overflow := s.alerts.overflow && !a.overflow } }) hs

theorem State.QueuesSound.settleRestart (hs : s.QueuesSound) (straps : Straps) :
    (s.settleRestart straps).QueuesSound := by
  rcases State.settleRestart_cases s straps with h | ⟨-, -, h⟩ <;> rw [h]
  · exact hs
  · exact .resetAt straps

theorem State.QueuesSound.respond (hs : s.QueuesSound) (h : Header) (code : Octet) (status : Status)
    (data : List Octet) : (s.respond h code status data).QueuesSound := by
  rcases State.respond_cases s h code status data with ⟨ha, hr⟩ | ⟨-, -, hr⟩ | ⟨-, hr⟩ <;> rw [hr]
  · exact hs.offer ha rfl rfl rfl
  · exact hs
  · exact .resetAt _

/-! ### Ports that leave ACTIVE or become it -/

/-- A port that is ACTIVE may hold items in its queue. -/
theorem State.QueuesSound.setLive (hs : s.QueuesSound) (p : PortId) (l : Live) : (s.setLive p l).QueuesSound := by
  have hactive : ∀ q, (s.setLive p l).isActive q = if q = p then true else s.isActive q := fun q => by
    rw [State.isActive, State.live?, State.setLive, State.setLine, State.port_setPort]
    split <;> rfl
  refine ⟨fun b => ⟨(hs.1 b).1, fun hb => (hs.1 b).2 ?_⟩, ?_⟩
  · rw [hactive] at hb
    split at hb
    · cases hb
    · exact hb
  · obtain ⟨hlen, hclass, hresp, hbusy, hdown⟩ := hs.2
    refine ⟨hlen, hclass, hresp, hbusy, fun hb => hdown ?_⟩
    rw [hactive] at hb
    split at hb
    · cases hb
    · exact hb

theorem branchPort_ne_p0 (b : BranchId) : branchPort b ≠ .p0 := by cases b <;> decide

theorem State.branch_emptyQueue (s : State) (b c : BranchId) :
    ((s.emptyQueue b).branch c).queue = if c = b then [] else (s.branch c).queue := by
  have hbranches : (s.emptyQueue b).branches = (s.setQueue b []).branches := State.releaseAll_branches ..
  rw [State.branch_congr hbranches, State.setQueue, State.branch_setBranch]
  split <;> rfl

/-- The teardown of a branch empties its queue (R103, R121). -/
theorem State.QueuesSound.tearDownBranch (hs : s.QueuesSound) (b : BranchId) (line : Line) :
    (s.tearDownBranch b line).QueuesSound := by
  have hstop : ∀ q, q ≠ branchPort b → (s.stopPort (branchPort b) line).isActive q = s.isActive q := fun q hq => by
    cases hl : s.live? (branchPort b) with
    | none => rw [State.stopPort_of_not_live hl]
    | some l => rw [State.isActive, State.live?, State.port_stopPort_of_live hl, if_neg hq]; rfl
  have hkept : ∀ q, q ≠ branchPort b →
      ((s.stopPort (branchPort b) line).emptyQueue b).isActive q = s.isActive q := fun q hq => by
    rw [State.isActive_eq, State.emptyQueue_ports, ← State.isActive_eq, hstop q hq]
  have hempty : (((s.stopPort (branchPort b) line).emptyQueue b).clearBranch b).QueuesSound := by
    refine (State.Quiet.clearBranch _ b).queuesSound ?_
    refine ⟨fun c => ?_, ?_⟩
    · rw [State.branch_emptyQueue]
      split
      · exact ⟨.nil, fun _ => rfl⟩
      · rename_i hc
        rw [State.branch_congr (State.stopPort_branches ..), hkept _ (fun h => hc (branchPort_injective h))]
        exact hs.1 c
    · exact hs.2.congr (hkept _ (branchPort_ne_p0 b).symm)
        ((State.emptyQueue_trunkQueue ..).trans (State.stopPort_trunkQueue ..))
  unfold State.tearDownBranch State.branchDown
  exact (State.Quiet.foldl (.downRecord b) allSlots _).queuesSound hempty

/-- A port that was not ACTIVE stays so. -/
theorem State.QueuesSound.setLine_down (hs : s.QueuesSound) {p : PortId} {l m : Line} (h : (s.port p).line = l)
    (hl : l.live? = none) (hm : m.live? = none) : (s.setLine p m).QueuesSound := by
  refine hs.sublist (fun q => ?_) (fun _ => .refl _) (.refl _)
  rw [State.isActive, State.live?, State.setLine, State.port_setPort]
  split
  · rename_i hq
    rw [hq, State.isActive, State.live?, h, hl, hm]
  · rfl

theorem State.QueuesSound.disable (hs : s.QueuesSound) (b : BranchId) : (s.disable b).QueuesSound := by
  unfold State.disable
  split
  · exact hs
  · exact hs.tearDownBranch b _
  case h_3 since hl => exact hs.setLine_down hl rfl rfl

theorem State.QueuesSound.tearDownTrunk (hs : s.QueuesSound) {l : Live} (hl : s.live? .p0 = some l) {line : Line}
    (hline : line.live? = none) : (s.tearDownTrunk line).QueuesSound := by
  obtain ⟨hp, -, -, hq⟩ := State.tearDownTrunk_of_live hl hline
  refine ⟨hs.1.sublist (fun b => ?_) (fun b => ?_), ?_⟩
  · rw [State.isActive_eq, hp, portGet_portSet, if_neg (branchPort_ne_p0 b), ← State.isActive_eq]
  · rw [State.branch_congr (State.tearDownTrunk_branches ..)]
  · rw [State.trunkQueueSound_iff, hq]
    exact .nil _

theorem State.QueuesSound.stuck (hs : s.QueuesSound) {p : PortId} {l : Live} (hl : s.live? p = some l) (high : Nat)
    (straps : Straps) : (s.stuck p high straps).QueuesSound := by
  have hcount : (s.countPort p .faults).QueuesSound := (State.Quiet.countPort ..).queuesSound hs
  unfold State.stuck
  split
  case h_1 hp =>
    cases p with
    | p0 =>
      have hlive : (s.countPort .p0 .faults).live? .p0 = some l := (State.live?_countPort ..).trans hl
      exact ((hcount.tearDownTrunk hlive rfl).raise ..).settleRestart _
    | _ => cases hp
  case h_2 b _ =>
    exact State.bothOrders_induction (fun t ht => ht.tearDownBranch b _) (fun t ht => ht.raise ..)
      (fun h => h.of_eq rfl rfl rfl) hcount

/-! ### Requests and frames -/

theorem State.QueuesSound.enable (hs : s.QueuesSound) (p : PortId) : (s.enable p).QueuesSound := by
  unfold State.enable
  split
  · exact hs.setLive ..
  · exact hs
  · exact hs

theorem State.Manages.queuesSound (hm : s.Manages v) (hs : s.QueuesSound) : v.QueuesSound := by
  cases hm with
  | clearsPort p => exact (State.Quiet.clearPortCounters s p).queuesSound hs
  | configures b rate guard unsolicited broadcast probe =>
    exact (State.Quiet.configure ..).queuesSound hs
  | enables p => exact hs.enable p
  | disables b => exact hs.disable b
  | flushes => exact (State.Quiet.flushed s).queuesSound hs
  | _ => exact hs.of_eq rfl rfl rfl

theorem State.Operates.queuesSound {h : Header} (ho : s.Operates h t) (hs : s.QueuesSound) : t.QueuesSound := by
  cases ho with
  | answers code status data hm => exact (hm.queuesSound hs).respond h code status data
  | setsBridge policy window retries ageing dest =>
    have hconf : (s.configureBridge policy window retries ageing dest).QueuesSound := hs.of_eq rfl rfl rfl
    exact (hconf.respond ..).offerAlert
  | _ => exact hs.of_eq rfl rfl rfl

theorem State.QueuesSound.firstAnswer (hs : s.QueuesSound) (p : BranchId) (x : SlotNo) (e : Exchange) (q : Probe)
    (b : BufId) : (s.firstAnswer p x e q b).QueuesSound :=
  State.firstAnswer_induction (fun _ => (State.Quiet.returnAnswer ..).queuesSound) (fun _ ht => ht.raise ..)
    (fun h => h.of_eq rfl rfl rfl) ((State.Quiet.firstTaken ..).queuesSound hs)

theorem State.QueuesSound.furtherAnswer (hs : s.QueuesSound) (p : BranchId) (x : SlotNo) (e : Exchange) (q : Probe)
    (b : BufId) : (s.furtherAnswer p x e q b).QueuesSound := by
  have hsettled : ((((s.setSlot p none).learn e.key.station p).release b).settle x e
      { q with set := branchSet q.set p false }).QueuesSound :=
    ((((State.Quiet.setSlot ..).trans (.learn ..)).trans (.release ..)).trans (.settle ..)).queuesSound hs
  unfold State.furtherAnswer
  dsimp only
  split
  · exact hsettled.raise ..
  · exact hsettled

theorem State.Dispatches.queuesSound {p : PortId} {b : BufId} (hd : u.Dispatches p b t) (hu : u.QueuesSound) :
    t.QueuesSound := by
  cases hd with
  | malformed => exact ((State.Quiet.countPort ..).trans (.release ..)).queuesSound hu
  | released => exact (State.Quiet.release ..).queuesSound hu
  | refusesBusy h _ => exact ((State.Quiet.release ..).trans (.refuseBusy ..)).queuesSound hu
  | operates h _ _ ho => exact ho.queuesSound ((State.Quiet.release ..).queuesSound hu)
  | places f targets => exact (State.Quiet.placeNotices ..).queuesSound hu
  | refuses r => exact (State.Quiet.refuseAtOnce ..).queuesSound hu
  | counts c => exact ((State.Quiet.release ..).trans (.count ..)).queuesSound hu
  | opensDirect f x q window retries viaLearned _ _ hactive hlen =>
    exact (State.Quiet.openDirectAt (by simp [State.branchHasRoom, hactive, hlen]) ..).queuesSound hu
  | opensProbe f x _ _ _ => exact (State.Quiet.openProbeAt ..).queuesSound hu
  | answersDirect f q sl e d _ _ _ _ _ => exact (State.Quiet.matched ..).queuesSound hu
  | answersFirst q sl e w _ _ _ _ _ _ => exact hu.firstAnswer ..
  | answersAgain q sl e w _ _ _ _ _ _ => exact hu.furtherAnswer ..
  | acceptsLate f q x e d _ _ _ _ => exact (State.Quiet.lateAccepted ..).queuesSound hu
  | unsolicited q => exact (State.Quiet.unsolicitedFrame ..).queuesSound hu
  | lateUnsolicited q => exact ((State.Quiet.countPort ..).trans (.unsolicitedFrame ..)).queuesSound hu
  | lateDiscarded q => exact ((State.Quiet.countPort ..).trans (.release ..)).queuesSound hu

/-! ### Receivers -/

theorem State.QueuesSound.claim (hs : s.QueuesSound) (p : PortId) : (s.claim p).2.QueuesSound := by
  unfold State.claim
  split
  · exact hs
  · split
    · exact hs
    case h_2 b rest _ =>
      have hgranted : State.QueuesSound { s with pool := s.pool.grant b rest } := hs
      split
      · exact hgranted.raise ..
      · exact hgranted

theorem State.QueuesSound.startFrame (hs : s.QueuesSound) (p : PortId) (l : Live) (o : Octet) :
    (s.startFrame p l o).QueuesSound := by
  rcases State.startFrame_cases s p l o with ⟨b, -, h⟩ | ⟨-, h⟩ <;> rw [h]
  · exact State.QueuesSound.of_eq ((hs.claim p).setLive p { l with rx := .collect b }) rfl rfl rfl
  · exact (State.Quiet.countPort ..).queuesSound ((hs.claim p).setLive p { l with rx := .discard 1 none })

theorem State.QueuesSound.endEarly (hs : s.QueuesSound) (p : PortId) (l : Live) : (s.endEarly p l).QueuesSound := by
  unfold State.endEarly
  split
  · exact hs
  · exact ((State.Quiet.countPort ..).trans (.release ..)).queuesSound (hs.setLive ..)
  · exact hs.setLive ..

theorem State.Receives.queuesSound {p : PortId} {m : Live} (hr : u.Receives p m t) (hu : u.QueuesSound) :
    t.QueuesSound := by
  have hset : ∀ (b : BufId) (o : Octet) (c : PortCounter),
      ((State.setRx { u with pool := u.pool.store b o } p m .hunt).countPort p c).QueuesSound := fun b o c =>
    (State.Quiet.countPort ..).queuesSound
      (State.QueuesSound.setLive (s := { u with pool := u.pool.store b o }) hu p { m with rx := .hunt })
  cases hr with
  | stores b o _ => exact State.QueuesSound.setLive (s := { u with pool := u.pool.store b o }) hu p m
  | fails b o c _ => exact (State.Quiet.release ..).queuesSound (hset b o c)
  | hands b o _ hd => exact hd.queuesSound (hset b o .framesIn)
  | _ => exact hu.setLive ..

/-! ### Transmitters -/

theorem State.QueuesSound.startSend (hs : s.QueuesSound) (p : PortId) (l : Live) (c : Current) :
    (s.startSend p l c).QueuesSound := (hs.endEarly p l).setLive ..

theorem State.QueuesSound.take (hs : s.QueuesSound) (p : PortId) (l : Live) (i : TxItem) :
    (s.take p l i).QueuesSound := by
  unfold State.take
  split
  · exact hs.startSend ..
  · exact hs.setLive ..

theorem State.QueuesSound.takeItem (hs : s.QueuesSound) (p : PortId) : (s.takeItem p).QueuesSound := by
  rcases State.takeItem_cases s p with h | ⟨l, -, -, -, h⟩ | ⟨b, l, x, -, -, -, -, -, h⟩ | ⟨b, l, -, -, -, -, -, h⟩ <;>
    rw [h]
  · exact hs
  · unfold State.takeTrunk
    split
    · exact hs
    · rename_i i rest hq
      have hrest : State.QueuesSound { s with trunkQueue := rest } :=
        hs.sublist (fun _ => rfl) (fun _ => .refl _) (hq ▸ List.sublist_cons_self i rest)
      exact hrest.take ..
  · unfold State.takeHolder
    split
    · exact hs
    · split
      · refine State.QueuesSound.take ?_ _ l _
        exact (State.Quiet.holderTaken ..).queuesSound hs
      · exact hs
      · exact hs
  · unfold State.takeBranch
    split
    · exact hs
    · rename_i i rest hq
      refine State.QueuesSound.take ?_ _ l _
      exact (State.Quiet.headTaken hq _).queuesSound hs

theorem State.QueuesSound.ownerSent (hs : s.QueuesSound) (p : PortId) (straps : Straps) (i : TxItem) :
    (s.ownerSent p straps i).QueuesSound := by
  unfold State.ownerSent
  split
  case h_1 i =>
    cases i with
    | response => exact State.QueuesSound.settleRestart (s := { s with mgmt := { s.mgmt with phase := .idle } }) hs _
    | alert a => exact hs.alertSent a
    | frameReturn x b => exact (State.Quiet.returnDone s x).queuesSound hs
    | refusalReturn x r => exact (State.Quiet.returnDone s x).queuesSound hs
    | _ => exact hs
  case h_2 =>
    split
    · exact (State.Quiet.branchSent ..).queuesSound hs
    · exact hs

theorem State.QueuesSound.ownerAbandoned (hs : s.QueuesSound) (p : PortId) (straps : Straps) (i : TxItem) :
    (s.ownerAbandoned p straps i).QueuesSound := by
  unfold State.ownerAbandoned
  split
  case h_1 i =>
    cases i with
    | response => exact State.QueuesSound.settleRestart (s := { s with mgmt := { s.mgmt with phase := .idle } }) hs _
    | alert a => exact hs.alertLost
    | frameReturn x b => exact (State.Quiet.returnLost s x).queuesSound hs
    | refusalReturn x r => exact (State.Quiet.returnLost s x).queuesSound hs
    | _ => exact hs
  case h_2 =>
    split
    · exact (State.Quiet.branchAbandoned ..).queuesSound hs
    · exact hs

theorem State.QueuesSound.contended (hs : s.QueuesSound) (p : PortId) (l : Live) (c : Current) (back : ReadBack)
    (first : Bool) (straps : Straps) : (s.contended p l c back first straps).QueuesSound := by
  unfold State.contended
  dsimp only
  split
  · exact (State.Quiet.countPort ..).queuesSound (hs.setLive ..)
  · refine State.QueuesSound.ownerAbandoned ?_ p straps c.item
    exact (((State.Quiet.countPort ..).trans (.countPort ..)).trans (.releaseOpt ..)).queuesSound (hs.setLive ..)

theorem State.QueuesSound.completed (hs : s.QueuesSound) (p : PortId) (l : Live) (c : Current) (high : Nat)
    (straps : Straps) : (s.completed p l c high straps).QueuesSound := by
  refine State.QueuesSound.ownerSent ?_ p straps c.item
  exact ((State.Quiet.countPort ..).trans (.releaseOpt ..)).queuesSound (hs.setLive ..)

/-! ### The step -/

theorem State.Does.queuesSound (hd : u.Does t) (hu : u.QueuesSound) : t.QueuesSound := by
  cases hd with
  | nothing => exact hu
  | refusesBusy h _ => exact (State.Quiet.refuseBusy ..).queuesSound hu
  | operates h q _ _ => exact (State.operates_operate q).queuesSound hu
  | copies h job since _ =>
    have hcopied : State.QueuesSound { u with table := { u.table with shadow := u.table.active } } := hu
    cases job
    · exact hcopied.respond ..
    · exact hcopied.respond ..
  | marked p l m o _ _ _ => exact ((hu.setLive ..).endEarly ..).startFrame ..
  | unmarked p l m o _ _ _ => exact (State.receives_unmarked ..).queuesSound hu
  | endsEarly p l m _ _ _ => exact (hu.setLive ..).endEarly ..
  | stuck p l high straps hl => exact hu.stuck hl ..
  | recovers p since _ =>
    exact State.bothOrders_induction (fun t ht => ht.offerAlert) (fun t ht => ht.raise ..)
      (fun h => h.of_eq rfl rfl rfl) (hu.setLive ..)
  | restartsRecovery p since again hl =>
    exact hu.setLine_down hl rfl rfl
  | windowExpires b sl start e d _ _ _ _ => exact (State.Quiet.windowExpired ..).queuesSound hu
  | probeExpires b sl start e q _ _ _ _ => exact ((State.Quiet.setSlot ..).trans (.loseBranch ..)).queuesSound hu
  | ages =>
    refine (State.Quiet.age _).queuesSound ?_
    exact hu.of_eq rfl rfl rfl
  | takes p => exact hu.takeItem p
  | startsSend p l c _ _ _ => exact hu.startSend ..
  | contends p l c since frame back first straps _ _ => exact hu.contended ..
  | completes p l c since frame high straps _ _ => exact hu.completed ..
  | resets straps => exact .resetAt straps

end Effects

/-- Settles O57: every effect of a command keeps the queues sound. -/
theorem stepsKeepQueuesSound : Obligations.StepsKeepQueuesSound := by
  unfold Obligations.StepsKeepQueuesSound
  intro s t hb hq h
  refine step_keeps (I := State.QueuesSound) (fun _ _ h => h.of_eq rfl rfl rfl) (fun _ _ h => h.of_eq rfl rfl rfl)
    (fun s p busy hs => ?_) (fun _ _ hu hd => hd.queuesSound hu) h ⟨hb, hq⟩
  cases hl : s.live? p with
  | none => rwa [State.lineSeen_of_not_live hl]
  | some l => rw [State.lineSeen_of_live hl]; exact hs.setLive ..

end Sys2Proof.Machine
end

section
/-! PROOFS. Every effect of a command keeps the trunk port, the management unit and the alert unit sound, and with it
O58. -/

namespace Sys2Proof.Machine

/-! ### What stands on the trunk -/

/-- The trunk port and the alert list are sound, no branch sends a trunk item, and `r` responses and `a` alerts stand
in the trunk queue or are being sent. -/
structure State.Stands (s : State) (r a : Nat) : Prop where
  trunkPort : s.TrunkPortSound
  branches : s.BranchesSendBranch
  responses : s.standing TrunkItem.isResponse = r
  alerts : s.standing TrunkItem.isAlert = a
  list : s.AlertsSound

/-- The alerts that stand are those that the alert unit has offered (R175). -/
structure State.Offers (s : State) (r : Nat) : Prop extends s.Stands r (if s.alerts.offered then 1 else 0) where
  listed : s.alerts.offered = true → s.alerts.list ≠ []

/-- The units are sound (R152, R155, R175, R179). -/
structure State.UnitsSound (s : State) : Prop extends s.Offers (if s.mgmt.phase = .answering then 1 else 0) where
  restart : s.mgmt.restart = true → s.mgmt.phase = .answering
  due : s.OfferDue

theorem State.unitsSound_iff (s : State) :
    s.UnitsSound ↔ s.TrunkPortSound ∧ s.UnitSound ∧ s.OfferSound ∧ s.AlertsSound ∧ s.OfferDue := by
  constructor
  · exact fun h => ⟨h.trunkPort, ⟨h.branches, h.responses, h.restart⟩, ⟨h.branches, h.alerts, h.listed⟩, h.list, h.due⟩
  · rintro ⟨hport, ⟨hbranches, hresponses, hrestart⟩, ⟨-, halerts, hlisted⟩, hlist, hdue⟩
    exact ⟨⟨⟨hport, hbranches, hresponses, halerts, hlist⟩, hlisted⟩, hrestart, hdue⟩

section Effects

variable {s t u v : State} {r a : Nat}

/-! ### Quiet changes -/

theorem State.standing_congr {f : TrunkItem → Bool} (hf : ∀ i, f i = true → i.ofUnit = true)
    (hl : (s.port .p0).line.Alike (t.port .p0).line)
    (hq : t.trunkQueue.filter TrunkItem.ofUnit = s.trunkQueue.filter TrunkItem.ofUnit) : t.standing f = s.standing f := by
  have hsub : ∀ q : List TrunkItem, q.filter f = (q.filter TrunkItem.ofUnit).filter f := fun q => by
    rw [List.filter_filter]
    refine List.filter_congr fun i _ => ?_
    cases hi : f i with
    | false => rfl
    | true => rw [hf i hi]; rfl
  rw [State.standing, State.standing, hl.sendsTrunk, hsub, hq, ← hsub]

theorem State.BranchesSendBranch.congr (h : s.BranchesSendBranch)
    (hl : ∀ b, (s.port (branchPort b)).line.Alike (t.port (branchPort b)).line) : t.BranchesSendBranch := fun b => by
  rw [(hl b).sendsTrunk]
  exact h b

theorem State.Quiet.stands (h : s.Quiet t) (hs : s.Stands r a) : t.Stands r a where
  trunkPort := ⟨(h.lines .p0).ne_disabled hs.trunkPort.1, h.guard.trans hs.trunkPort.2⟩
  branches := hs.branches.congr fun b => h.lines _
  responses := (State.standing_congr (fun i hi => by simp [TrunkItem.ofUnit, hi]) (h.lines _) h.units).trans hs.responses
  alerts := (State.standing_congr (fun i hi => by simp [TrunkItem.ofUnit, hi]) (h.lines _) h.units).trans hs.alerts
  list := by rw [State.AlertsSound, h.alerts]; exact hs.list

theorem State.Quiet.offers (h : s.Quiet t) (hs : s.Offers r) : t.Offers r :=
  ⟨by rw [h.alerts]; exact h.stands hs.toStands, by rw [h.alerts]; exact hs.listed⟩

theorem State.Quiet.offerDue (h : s.Quiet t) (hs : s.OfferDue) : t.OfferDue := by
  rw [State.OfferDue, h.alerts, h.isActive_eq]
  exact hs

theorem State.Quiet.unitsSound (h : s.Quiet t) (hs : s.UnitsSound) : t.UnitsSound :=
  ⟨by rw [h.mgmt]; exact h.offers hs.toOffers, by rw [h.mgmt]; exact hs.restart, h.offerDue hs.due⟩

theorem State.UnitsSound.of_eq (hs : s.UnitsSound) (hp : t.ports = s.ports) (hb : t.branches = s.branches)
    (hm : t.mgmt = s.mgmt) (ha : t.alerts = s.alerts) (hq : t.trunkQueue = s.trunkQueue) : t.UnitsSound :=
  (State.Quiet.of_eq hp hb hm ha hq).unitsSound hs

theorem State.UnitsSound.resetAt (straps : Straps) : (s.resetAt straps).UnitsSound :=
  (State.unitsSound_iff _).mpr ⟨State.trunkPortSound_resetWith straps, State.unitSound_resetWith straps,
    State.offerSound_resetWith straps, State.alertsSound_resetWith straps, State.offerDue_resetWith straps⟩

/-! ### The alert unit -/

/-- One more item at the tail stands there. -/
theorem State.standing_enqueue (s : State) (i : TrunkItem) (f : TrunkItem → Bool) :
    (s.enqueue i).standing f = s.standing f + if f i then 1 else 0 := by
  have hline : (s.enqueue i).port .p0 = s.port .p0 := rfl
  rw [State.standing, State.standing, hline, State.enqueue_trunkQueue, List.filter_append, List.length_append]
  cases hi : f i with
  | false => simp [hi]
  | true =>
    simp [hi]
    omega

theorem classCount_alert_eq (q : List TrunkItem) : classCount q .alert = (q.filter TrunkItem.isAlert).length := by
  refine congrArg List.length (List.filter_congr fun i _ => ?_)
  cases i <;> rfl

/-- An alert is admitted where P0 is ACTIVE and no alert stands. -/
theorem State.admits_alert_of_none (hactive : s.isActive .p0 = true) (h : s.standing TrunkItem.isAlert = 0)
    (i : AlertItem) : s.admits (.alert i) = true := by
  rw [State.admits_alert_iff, classCount_alert_eq]
  exact ⟨hactive, (Nat.add_eq_zero_iff.mp h).1⟩

/-- The offer leaves no due offer unmade (R179). -/
theorem State.Offers.offerAlert (hs : s.Offers r) : s.offerAlert.Offers r ∧ s.offerAlert.OfferDue := by
  cases hlist : s.alerts.list with
  | nil =>
    rw [State.offerAlert_of_not_due (.inl hlist)]
    exact ⟨hs, fun h => absurd hlist h⟩
  | cons e rest =>
    by_cases hdest : s.alerts.dest = 0
    · rw [State.offerAlert_of_not_due (.inr (.inl hdest))]
      exact ⟨hs, fun _ h => absurd hdest h⟩
    · cases hoff : s.alerts.offered with
      | true =>
        rw [State.offerAlert_of_not_due (.inr (.inr (.inl hoff)))]
        exact ⟨hs, fun _ _ _ => hoff⟩
      | false =>
        cases hactive : s.isActive .p0 with
        | false =>
          rw [State.offerAlert_of_down hactive]
          exact ⟨hs, fun _ _ h => absurd (h.symm.trans hactive) (by decide)⟩
        | true =>
          have hnone : s.standing TrunkItem.isAlert = 0 := by rw [hs.alerts, hoff]; rfl
          rw [State.offerAlert_of_due hlist hdest hoff (State.admits_alert_of_none hactive hnone _)]
          refine ⟨⟨⟨hs.trunkPort, hs.branches, ?_, ?_, hs.list⟩, fun _ => ?_⟩, fun _ _ _ => rfl⟩
          · exact (State.standing_enqueue s _ _).trans (by rw [hs.responses]; rfl)
          · exact (State.standing_enqueue s _ _).trans (by rw [hnone]; rfl)
          · exact fun h => List.cons_ne_nil e rest (hlist.symm.trans h)

theorem AlertUnit.add_sound {w : AlertUnit} (hw : w.list.length ≤ 8 ∧ w.list.Pairwise differentAlert) (k : AlertKind)
    (n : Octet) : ((w.add k n).list.length ≤ 8 ∧ (w.add k n).list.Pairwise differentAlert) ∧ (w.add k n).list ≠ [] := by
  by_cases hin : ∃ e, e ∈ w.list ∧ e.kind = k ∧ e.subject = n
  · obtain ⟨e, he, rfl, rfl⟩ := hin
    rw [AlertUnit.add_of_listed he]
    refine ⟨⟨by simpa using hw.1, ?_⟩, fun h => ?_⟩
    · refine List.pairwise_map.mpr (hw.2.imp fun {x y} hxy => ?_)
      unfold AlertEntry.merged differentAlert at *
      split_ifs <;> exact hxy
    · rw [List.map_eq_nil_iff] at h
      rw [h] at he
      cases he
  · have hnew : ∀ e, e ∈ w.list → ¬ (e.kind = k ∧ e.subject = n) := fun e he h => hin ⟨e, he, h⟩
    rw [AlertUnit.add_of_not_listed hnew]
    split
    · rename_i hroom
      refine ⟨⟨by simpa using hroom, ?_⟩, by simp⟩
      rw [List.pairwise_append]
      refine ⟨hw.2, List.pairwise_singleton .., fun x hx y hy => ?_⟩
      rw [List.mem_singleton.mp hy]
      exact differentAlert_iff.mpr (hnew x hx)
    · rename_i hfull
      exact ⟨hw, fun h => hfull (by rw [h]; decide)⟩

theorem State.Offers.add (hs : s.Offers r) (k : AlertKind) (n : Octet) :
    State.Offers { s with alerts := s.alerts.add k n } r := by
  obtain ⟨hsound, hne⟩ := AlertUnit.add_sound hs.list k n
  refine ⟨⟨hs.trunkPort, hs.branches, hs.responses, ?_, hsound⟩, fun _ => hne⟩
  exact hs.alerts.trans (by rw [← AlertUnit.add_offered s.alerts k n])

theorem State.Offers.raise (hs : s.Offers r) (k : AlertKind) (n : Octet) :
    (s.raise k n).Offers r ∧ (s.raise k n).OfferDue := (hs.add k n).offerAlert

theorem State.UnitsSound.raise (hs : s.UnitsSound) (k : AlertKind) (n : Octet) : (s.raise k n).UnitsSound := by
  obtain ⟨hoffers, hdue⟩ := hs.toOffers.raise k n
  exact ⟨by rw [State.raise_mgmt]; exact hoffers, by rw [State.raise_mgmt]; exact hs.restart, hdue⟩

/-- The offered entry's item has ended without completion: the entry is offered again (R181). -/
theorem State.Stands.alertLost (hs : s.Stands r 0) : s.alertLost.Offers r ∧ s.alertLost.OfferDue :=
  State.Offers.offerAlert (s := { s with alerts := { s.alerts with offered := false } })
    ⟨⟨hs.trunkPort, hs.branches, hs.responses, hs.alerts, hs.list⟩, nofun⟩

/-- The offered entry's item has been sent: the entry is removed (R180). -/
theorem State.Stands.alertSent (hs : s.Stands r 0) (i : AlertItem) :
    (s.alertSent i).Offers r ∧ (s.alertSent i).OfferDue :=
  State.Offers.offerAlert (s := { s with alerts := { s.alerts with
      list := s.alerts.list.tail, offered := false, overflow := s.alerts.overflow && !i.overflow } })
    ⟨⟨hs.trunkPort, hs.branches, hs.responses, hs.alerts,
      ⟨(List.tail_sublist _).length_le.trans hs.list.1, hs.list.2.sublist (List.tail_sublist _)⟩⟩, nofun⟩

/-! ### The management unit -/

/-- A response is offered by a unit that has none standing (R154). -/
theorem State.Offers.respond (hs : s.Offers 0) (hdue : s.OfferDue) (h : Header) (code : Octet) (status : Status)
    (data : List Octet) : (s.respond h code status data).UnitsSound := by
  rcases State.respond_cases s h code status data with ⟨-, hr⟩ | ⟨-, hclear, hr⟩ | ⟨-, hr⟩ <;> rw [hr]
  · refine ⟨⟨⟨hs.trunkPort, hs.branches, ?_, ?_, hs.list⟩, hs.listed⟩, fun _ => rfl, hdue⟩
    · exact (State.standing_enqueue s _ _).trans (by rw [hs.responses]; rfl)
    · exact (State.standing_enqueue s _ _).trans (by rw [hs.alerts]; rfl)
  · exact ⟨⟨⟨hs.trunkPort, hs.branches, hs.responses, hs.alerts, hs.list⟩, hs.listed⟩,
      fun h => absurd (hclear.symm.trans h) (by decide), hdue⟩
  · exact .resetAt _

/-- The response has ended: the unit is IDLE, or the part is reset (R155, R172). -/
theorem State.Offers.responseEnds (hs : s.Offers 0) (hdue : s.OfferDue) (straps : Straps) :
    (State.settleRestart { s with mgmt := { s.mgmt with phase := .idle } } straps).UnitsSound := by
  cases hr : s.mgmt.restart with
  | false =>
    rw [State.settleRestart_of_clear (s := { s with mgmt := { s.mgmt with phase := .idle } }) hr]
    exact ⟨⟨⟨hs.trunkPort, hs.branches, hs.responses, hs.alerts, hs.list⟩, hs.listed⟩,
      fun h => absurd (hr.symm.trans h) (by decide), hdue⟩
  | true =>
    rw [State.settleRestart_of_set (s := { s with mgmt := { s.mgmt with phase := .idle } }) hr rfl]
    exact .resetAt straps

/-! ### Ports -/

theorem State.BranchesSendBranch.set (hs : s.BranchesSendBranch) {p : PortId} {x : Port}
    (hx : x.line.sendsTrunk (fun _ => true) = 0) : (s.setPort p x).BranchesSendBranch := fun b => by
  rw [State.port_setPort]
  split
  · exact hx
  · exact hs b

/-- The port of a branch changes, and sends no trunk item after it. -/
theorem State.UnitsSound.setBranchPort (hs : s.UnitsSound) (b : BranchId) {x : Port}
    (hx : x.line.sendsTrunk (fun _ => true) = 0) : (s.setPort (branchPort b) x).UnitsSound := by
  have hp0 : (s.setPort (branchPort b) x).port .p0 = s.port .p0 := by
    rw [State.port_setPort, if_neg (branchPort_ne_p0 b).symm]
  have hstand : ∀ f, (s.setPort (branchPort b) x).standing f = s.standing f := fun f => by
    rw [State.standing, State.standing, hp0]; rfl
  refine ⟨⟨⟨?_, hs.branches.set hx, (hstand _).trans hs.responses, (hstand _).trans hs.alerts, hs.list⟩, hs.listed⟩,
    hs.restart, ?_⟩
  · rw [State.TrunkPortSound, hp0]
    exact hs.trunkPort
  · rw [State.OfferDue, State.isActive, State.live?, hp0]
    exact hs.due

theorem State.UnitsSound.tearDownBranch (hs : s.UnitsSound) (b : BranchId) {line : Line} (hline : line.live? = none) :
    (s.tearDownBranch b line).UnitsSound := by
  have hsends : line.sendsTrunk (fun _ => true) = 0 := by
    cases line with
    | active l => cases hline
    | _ => rfl
  unfold State.tearDownBranch
  refine (State.Quiet.branchDown _ b).unitsSound ?_
  cases hl : s.live? (branchPort b) with
  | none => rw [State.stopPort_of_not_live hl]; exact hs
  | some l =>
    rw [State.stopPort_of_live hl]
    exact ((State.Quiet.releaseOpt ..).trans (.releaseOpt ..)).unitsSound (hs.setBranchPort b hsends)

theorem State.UnitsSound.disable (hs : s.UnitsSound) (b : BranchId) : (s.disable b).UnitsSound := by
  unfold State.disable
  split
  · exact hs
  · exact hs.tearDownBranch b rfl
  · exact hs.setBranchPort b rfl

theorem portId_cases (p : PortId) : p = .p0 ∨ ∃ b, p = branchPort b := by
  cases p
  · exact .inl rfl
  · exact .inr ⟨.b1, rfl⟩
  · exact .inr ⟨.b2, rfl⟩
  · exact .inr ⟨.b3, rfl⟩

theorem State.UnitsSound.enable (hs : s.UnitsSound) (p : PortId) : (s.enable p).UnitsSound := by
  unfold State.enable
  split
  case h_1 hl =>
    rcases portId_cases p with rfl | ⟨b, rfl⟩
    · exact absurd hl hs.trunkPort.1
    · exact hs.setBranchPort b rfl
  · exact hs
  · exact hs

/-- The teardown of the trunk drops what stands: no response and no alert is left (R110, R155, R181). -/
theorem State.UnitsSound.tearDownTrunk (hs : s.UnitsSound) {l : Live} (hl : s.live? .p0 = some l) {line : Line}
    (hline : line.live? = none) (hne : line ≠ .disabled) :
    (s.tearDownTrunk line).Offers 0 ∧ (s.tearDownTrunk line).OfferDue ∧ (s.tearDownTrunk line).mgmt.phase ≠ .answering ∧
      ((s.tearDownTrunk line).mgmt.restart = true → (s.tearDownTrunk line).mgmt.phase = .idle) := by
  obtain ⟨hports, hmgmt, halerts, hqueue⟩ := State.tearDownTrunk_of_live hl hline
  have hport : (s.tearDownTrunk line).port .p0 = s.stoppedPort .p0 l line := by
    rw [State.port_eq, hports, portGet_portSet]; rfl
  have hstand : ∀ f, (s.tearDownTrunk line).standing f = 0 := fun f => by
    rw [State.standing, hport, hqueue, State.stoppedPort]
    cases line with
    | active m => cases hline
    | _ => rfl
  have hoff : (s.tearDownTrunk line).alerts.offered = false := by
    rw [halerts, AlertUnit.afterDrop]
    split
    · rfl
    · rename_i hany
      have := (s.standing_eq_zero_iff TrunkItem.isAlert).mpr (by simpa using hany)
      rw [hs.alerts] at this
      cases hoff : s.alerts.offered with
      | false => rfl
      | true => rw [hoff] at this; cases this
  have hphase : (s.tearDownTrunk line).mgmt.phase ≠ .answering ∧
      ((s.tearDownTrunk line).mgmt.restart = true → (s.tearDownTrunk line).mgmt.phase = .idle) := by
    rw [hmgmt, Mgmt.afterDrop]
    split
    · exact ⟨nofun, fun _ => rfl⟩
    · rename_i hany
      have := (s.standing_eq_zero_iff TrunkItem.isResponse).mpr (by simpa using hany)
      rw [hs.responses] at this
      have hph : s.mgmt.phase ≠ .answering := fun h => by rw [if_pos h] at this; cases this
      exact ⟨hph, fun h => absurd (hs.restart h) hph⟩
  have hlist : (s.tearDownTrunk line).alerts.list = s.alerts.list := by
    rw [halerts, AlertUnit.afterDrop]; split <;> rfl
  refine ⟨⟨⟨?_, ?_, hstand _, ?_, ?_⟩, ?_⟩, ?_, hphase⟩
  · rw [State.TrunkPortSound, hport]
    exact ⟨hne, hs.trunkPort.2⟩
  · intro b
    rw [State.port_eq, hports, portGet_portSet, if_neg (branchPort_ne_p0 b), ← State.port_eq]
    exact hs.branches b
  · rw [hoff, hstand]; rfl
  · rw [State.AlertsSound, hlist]; exact hs.list
  · rw [hoff]; exact nofun
  · intro _ _ h
    rw [State.isActive_of_line (by rw [hport]; rfl) hline] at h
    cases h

/-! ### Requests and frames -/

theorem State.UnitsSound.settleDown (hs : s.Offers 0) (hdue : s.OfferDue) (hph : s.mgmt.phase ≠ .answering)
    (hrestart : s.mgmt.restart = true → s.mgmt.phase = .idle) (straps : Straps) : (s.settleRestart straps).UnitsSound := by
  rcases State.settleRestart_cases s straps with h | ⟨-, -, h⟩
  · rw [h]
    refine ⟨by rw [if_neg hph]; exact hs, fun hr => ?_, hdue⟩
    have hset : s.settleRestart straps = s.resetAt straps := State.settleRestart_of_set hr (hrestart hr) straps
    rw [hset] at h
    have hclear : s.mgmt.restart = false := (congrArg (fun t : State => t.mgmt.restart) h).symm
    exact absurd (hclear.symm.trans hr) (by decide)
  · rw [h]
    exact .resetAt straps

theorem State.UnitsSound.stuck (hs : s.UnitsSound) {p : PortId} {l : Live} (hl : s.live? p = some l) (high : Nat)
    (straps : Straps) : (s.stuck p high straps).UnitsSound := by
  have hcount : (s.countPort p .faults).UnitsSound := (State.Quiet.countPort ..).unitsSound hs
  unfold State.stuck
  split
  case h_1 hp =>
    cases p with
    | p0 =>
      have hlive : (s.countPort .p0 .faults).live? .p0 = some l := (State.live?_countPort ..).trans hl
      obtain ⟨hoffers, -, hph, hrestart⟩ := hcount.tearDownTrunk hlive (line := .fault high) rfl nofun
      obtain ⟨hoffers', hdue'⟩ := hoffers.raise .portFault (portNumber .p0)
      exact State.UnitsSound.settleDown hoffers' hdue' (by rw [State.raise_mgmt]; exact hph)
        (by rw [State.raise_mgmt]; exact hrestart) straps
    | _ => cases hp
  case h_2 b _ =>
    exact State.bothOrders_induction (fun t ht => ht.tearDownBranch b rfl) (fun t ht => ht.raise ..)
      (fun h => h.of_eq rfl rfl rfl rfl rfl) hcount

/-- What a request changes before its response is offered, the restart flag aside. -/
theorem State.Manages.offers (hm : s.Manages v) (hs : s.UnitsSound) (hidle : s.mgmt.phase = .idle) :
    v.Offers 0 ∧ v.OfferDue := by
  have hnone : ∀ w : State, w.UnitsSound → w.mgmt = s.mgmt → w.Offers 0 ∧ w.OfferDue := fun w hw hmgmt => by
    have := hw.toOffers
    rw [hmgmt, hidle] at this
    exact ⟨this, hw.due⟩
  cases hm with
  | clearsPort p => exact hnone _ ((State.Quiet.clearPortCounters s p).unitsSound hs) rfl
  | configures b rate guard unsolicited broadcast probe =>
    exact hnone _ ((State.Quiet.configure ..).unitsSound hs) rfl
  | enables p => exact hnone _ (hs.enable p) (State.enable_mgmt s p)
  | disables b => exact hnone _ (hs.disable b) (State.disable_mgmt s b)
  | flushes => exact hnone _ ((State.Quiet.flushed s).unitsSound hs) (State.flushed_mgmt s)
  | restarts =>
    obtain ⟨hoffers, hdue⟩ := hnone s hs rfl
    exact ⟨⟨⟨hoffers.trunkPort, hoffers.branches, hoffers.responses, hoffers.alerts, hoffers.list⟩, hoffers.listed⟩, hdue⟩
  | _ => exact hnone _ (hs.of_eq rfl rfl rfl rfl rfl) rfl

/-- The unit becomes WORKING: no response stands, and the restart flag is clear (R152). -/
theorem State.UnitsSound.startCopy (hs : s.UnitsSound) (hidle : s.mgmt.phase = .idle) (h : Header) (job : CopyJob) :
    (s.startCopy h job).UnitsSound := by
  have hoffers := hs.toOffers
  rw [hidle] at hoffers
  refine ⟨⟨⟨hoffers.trunkPort, hoffers.branches, hoffers.responses, hoffers.alerts, hoffers.list⟩, hoffers.listed⟩,
    fun hr => ?_, hs.due⟩
  have hph := hs.restart hr
  rw [hidle] at hph
  cases hph

/-- The settings of SET-BRIDGE leave what stands alone; the offer that they make due follows the response (R170). -/
theorem State.Offers.configureBridge (hs : s.Offers r) (policy window retries ageing dest : Octet) :
    (s.configureBridge policy window retries ageing dest).Offers r :=
  ⟨⟨hs.trunkPort, hs.branches, hs.responses, hs.alerts, hs.list⟩, hs.listed⟩

/-- A response that is offered, where the offer of an alert follows it (R154, R170). -/
theorem State.Offers.respondThenOffer (hs : s.Offers 0) (h : Header) (code : Octet) (status : Status)
    (data : List Octet) : ((s.respond h code status data).offerAlert).UnitsSound := by
  have hfinish : ∀ w : State, w.Offers (if w.mgmt.phase = .answering then 1 else 0) →
      (w.mgmt.restart = true → w.mgmt.phase = .answering) → w.offerAlert.UnitsSound := fun w hw hr => by
    obtain ⟨hoffers, hdue⟩ := hw.offerAlert
    exact ⟨by rw [State.offerAlert_mgmt]; exact hoffers, by rw [State.offerAlert_mgmt]; exact hr, hdue⟩
  rcases State.respond_cases s h code status data with ⟨-, hr⟩ | ⟨-, hclear, hr⟩ | ⟨-, hr⟩ <;> rw [hr]
  · refine hfinish _ ⟨⟨hs.trunkPort, hs.branches, ?_, ?_, hs.list⟩, hs.listed⟩ (fun _ => rfl)
    · exact (State.standing_enqueue s _ _).trans (by rw [hs.responses]; rfl)
    · exact (State.standing_enqueue s _ _).trans (by rw [hs.alerts]; rfl)
  · exact hfinish _ ⟨⟨hs.trunkPort, hs.branches, hs.responses, hs.alerts, hs.list⟩, hs.listed⟩
      (fun h => absurd (hclear.symm.trans h) (by decide))
  · exact hfinish _ (State.UnitsSound.resetAt _).toOffers (State.UnitsSound.resetAt _).restart

theorem State.Operates.unitsSound {h : Header} (ho : s.Operates h t) (hs : s.UnitsSound) (hidle : s.mgmt.phase = .idle) :
    t.UnitsSound := by
  cases ho with
  | answers code status data hm =>
    obtain ⟨hoffers, hdue⟩ := hm.offers hs hidle
    exact hoffers.respond hdue ..
  | prepares => exact hs.startCopy hidle ..
  | commits =>
    have hswapped : State.UnitsSound { s with table := s.table.swap } :=
      hs.of_eq rfl rfl rfl rfl rfl
    exact hswapped.startCopy hidle ..
  | setsBridge policy window retries ageing dest =>
    have hoffers := hs.toOffers
    rw [hidle] at hoffers
    exact (hoffers.configureBridge ..).respondThenOffer ..

theorem State.UnitsSound.firstAnswer (hs : s.UnitsSound) (p : BranchId) (x : SlotNo) (e : Exchange) (q : Probe)
    (b : BufId) : (s.firstAnswer p x e q b).UnitsSound :=
  State.firstAnswer_induction (fun _ => (State.Quiet.returnAnswer ..).unitsSound) (fun _ ht => ht.raise ..)
    (fun h => h.of_eq rfl rfl rfl rfl rfl) ((State.Quiet.firstTaken ..).unitsSound hs)

theorem State.UnitsSound.furtherAnswer (hs : s.UnitsSound) (p : BranchId) (x : SlotNo) (e : Exchange) (q : Probe)
    (b : BufId) : (s.furtherAnswer p x e q b).UnitsSound := by
  have hsettled : ((((s.setSlot p none).learn e.key.station p).release b).settle x e
      { q with set := branchSet q.set p false }).UnitsSound :=
    ((((State.Quiet.setSlot ..).trans (.learn ..)).trans (.release ..)).trans (.settle ..)).unitsSound hs
  unfold State.furtherAnswer
  dsimp only
  split
  · exact hsettled.raise ..
  · exact hsettled

theorem State.Dispatches.unitsSound {p : PortId} {b : BufId} (hd : u.Dispatches p b t) (hu : u.UnitsSound) :
    t.UnitsSound := by
  cases hd with
  | malformed => exact ((State.Quiet.countPort ..).trans (.release ..)).unitsSound hu
  | released => exact (State.Quiet.release ..).unitsSound hu
  | refusesBusy h _ => exact ((State.Quiet.release ..).trans (.refuseBusy ..)).unitsSound hu
  | operates h _ hidle ho => exact ho.unitsSound ((State.Quiet.release ..).unitsSound hu) hidle
  | places f targets => exact (State.Quiet.placeNotices ..).unitsSound hu
  | refuses r => exact (State.Quiet.refuseAtOnce ..).unitsSound hu
  | counts c => exact ((State.Quiet.release ..).trans (.count ..)).unitsSound hu
  | opensDirect f x q window retries viaLearned _ _ hactive hlen =>
    exact (State.Quiet.openDirectAt (by simp [State.branchHasRoom, hactive, hlen]) ..).unitsSound hu
  | opensProbe f x _ _ _ => exact (State.Quiet.openProbeAt ..).unitsSound hu
  | answersDirect f q sl e d _ _ _ _ _ => exact (State.Quiet.matched ..).unitsSound hu
  | answersFirst q sl e w _ _ _ _ _ _ => exact hu.firstAnswer ..
  | answersAgain q sl e w _ _ _ _ _ _ => exact hu.furtherAnswer ..
  | acceptsLate f q x e d _ _ _ _ => exact (State.Quiet.lateAccepted ..).unitsSound hu
  | unsolicited q => exact (State.Quiet.unsolicitedFrame ..).unitsSound hu
  | lateUnsolicited q => exact ((State.Quiet.countPort ..).trans (.unsolicitedFrame ..)).unitsSound hu
  | lateDiscarded q => exact ((State.Quiet.countPort ..).trans (.release ..)).unitsSound hu

/-! ### Receivers -/

theorem State.UnitsSound.claim (hs : s.UnitsSound) (p : PortId) : (s.claim p).2.UnitsSound := by
  unfold State.claim
  split
  · exact hs
  · split
    · exact hs
    case h_2 b rest _ =>
      have hgranted : State.UnitsSound { s with pool := s.pool.grant b rest } :=
        hs.of_eq rfl rfl rfl rfl rfl
      split
      · exact hgranted.raise ..
      · exact hgranted

theorem State.live?_claim (s : State) (p q : PortId) : (s.claim p).2.live? q = s.live? q := by
  rw [State.live?, State.port_congr (State.claim_ports s p), State.live?]

/-- The receiver's state changes, and the transmitter's current item stays. -/
theorem State.Quiet.setRx {p : PortId} {l m : Live} (h : s.live? p = some l) (hm : m.tx = l.tx) (rx : Rx) :
    s.Quiet (s.setRx p m rx) := .setLive h (by rw [hm])

theorem State.UnitsSound.startFrame (hs : s.UnitsSound) {p : PortId} {l m : Live} (h : s.live? p = some l)
    (hm : m.tx = l.tx) (o : Octet) : (s.startFrame p m o).UnitsSound := by
  have hlive : (s.claim p).2.live? p = some l := (State.live?_claim ..).trans h
  rcases State.startFrame_cases s p m o with ⟨b, -, h⟩ | ⟨-, h⟩ <;> rw [h]
  · have hset := (State.Quiet.setRx hlive hm (.collect b)).unitsSound (hs.claim p)
    exact hset.of_eq rfl rfl rfl rfl rfl
  · exact ((State.Quiet.setRx hlive hm _).trans (.countPort ..)).unitsSound (hs.claim p)

theorem State.UnitsSound.marked (hs : s.UnitsSound) {p : PortId} {l m : Live} (h : s.live? p = some l)
    (hm : m.tx = l.tx) (o : Octet) : (s.marked p o m).UnitsSound := by
  have hset : (s.setLive p m).UnitsSound := (State.Quiet.setLive h (by rw [hm])).unitsSound hs
  have hend : ((s.setLive p m).endEarly p m).UnitsSound :=
    (State.Quiet.endEarly (State.live?_setLive ..) rfl).unitsSound hset
  exact hend.startFrame (State.live?_endEarly (State.live?_setLive ..)) rfl o

theorem State.Receives.unitsSound {p : PortId} {l m : Live} (h : u.live? p = some l) (hm : m.tx = l.tx)
    (hr : u.Receives p m t) (hu : u.UnitsSound) : t.UnitsSound := by
  have hset : ∀ (b : BufId) (o : Octet) (rx : Rx),
      (State.setRx { u with pool := u.pool.store b o } p m rx).UnitsSound := fun b o rx =>
    (State.Quiet.setRx (s := { u with pool := u.pool.store b o }) h hm rx).unitsSound
      (hu.of_eq rfl rfl rfl rfl rfl)
  cases hr with
  | hunts _ => exact (State.Quiet.setLive h (by rw [hm])).unitsSound hu
  | stores b o _ => exact hset b o m.rx
  | fails b o c _ => exact ((State.Quiet.countPort ..).trans (.release ..)).unitsSound (hset b o .hunt)
  | hands b o _ hd => exact hd.unitsSound ((State.Quiet.countPort ..).unitsSound (hset b o .hunt))
  | follows n k len next _ => exact (State.Quiet.setRx h hm _).unitsSound hu
  | ends n len _ => exact (State.Quiet.setRx h hm _).unitsSound hu

/-! ### Transmitters -/

theorem State.trunkItems_of_current {l : Live} (h : s.live? .p0 = some l) :
    s.trunkItems = (Line.active l).trunkItem?.toList ++ s.trunkQueue := by
  rw [State.trunkItems, State.line_of_live? h]

theorem Line.trunkItem?_of_none {l : Live} (h : l.tx.current? = none) : (Line.active l).trunkItem? = none := by
  rw [Line.trunkItem?, Line.live?_active, Option.bind_some, h]

theorem Line.trunkItem?_of_trunk {l : Live} {c : Current} {i : TrunkItem} (h : l.tx.current? = some c)
    (hc : c.item = .trunk i) : (Line.active l).trunkItem? = some i := by
  rw [Line.trunkItem?, Line.live?_active, Option.bind_some, h]
  dsimp only
  rw [hc]

theorem Line.trunkItem?_of_branch {l : Live} {c : Current} {i : BranchItem} (h : l.tx.current? = some c)
    (hc : c.item = .branch i) : (Line.active l).trunkItem? = none := by
  rw [Line.trunkItem?, Line.live?_active, Option.bind_some, h]
  dsimp only
  rw [hc]

/-- The trunk's line changes, and so do its queue and its current item, in such a way that the same items of the
units stand. -/
theorem State.UnitsSound.setTrunk (hs : s.UnitsSound) {l m : Live} (h : s.live? .p0 = some l) {q : List TrunkItem}
    (hsame : ((Line.active m).trunkItem?.toList ++ q) = (Line.active l).trunkItem?.toList ++ s.trunkQueue) :
    (State.setLive { s with trunkQueue := q } .p0 m).UnitsSound := by
  have hlive : (State.setLive { s with trunkQueue := q } .p0 m).live? .p0 = some m := State.live?_setLive ..
  have hstand : ∀ f, (State.setLive { s with trunkQueue := q } .p0 m).standing f = s.standing f := fun f => by
    rw [State.standing_eq, State.standing_eq, State.trunkItems_of_current hlive, State.trunkItems_of_current h]
    exact congrArg (fun items => (items.filter f).length) hsame
  refine ⟨⟨⟨⟨?_, hs.trunkPort.2⟩, ?_, (hstand _).trans hs.responses, (hstand _).trans hs.alerts, hs.list⟩, hs.listed⟩,
    hs.restart, fun hl hd _ => hs.due hl hd ?_⟩
  · rw [State.line_of_live? hlive]
    exact nofun
  · intro b
    rw [State.setLive, State.setLine, State.port_setPort, if_neg (branchPort_ne_p0 b)]
    exact hs.branches b
  · rw [State.isActive, h]
    rfl

/-- The transmitter of a branch takes an item of the branch, or has none. -/
theorem State.UnitsSound.setBranchLive (hs : s.UnitsSound) (b : BranchId) {m : Live}
    (hm : (Line.active m).trunkItem? = none) : (s.setLive (branchPort b) m).UnitsSound := by
  refine hs.setBranchPort b ?_
  show (Line.active m).sendsTrunk _ = 0
  rw [Line.sendsTrunk_eq, hm]
  rfl

/-- An item is taken: the port has it as its current item, and the frame in progress ends early where the sending
starts at once (R129, R131). -/
theorem State.take_eq (s : State) (p : PortId) (l : Live) (i : TxItem) :
    ∃ m : Live, m.tx.current? = some { item := i, contentions := 0 } ∧
      (s.take p l i = (s.setLive p m).endEarly p m ∨ s.take p l i = s.setLive p m) := by
  unfold State.take
  split
  · refine ⟨{ l with tx := .send { item := i, contentions := 0 } s.now (s.itemFrame i) }, rfl, .inl ?_⟩
    exact (State.endEarly_setLive (l := l)
      (m := { l with tx := .send { item := i, contentions := 0 } s.now (s.itemFrame i) }) rfl s p).symm
  · exact ⟨{ l with tx := .defer { item := i, contentions := 0 } }, rfl, .inr rfl⟩

theorem State.Quiet.startSend {p : PortId} {l : Live} {c : Current} (h : s.live? p = some l)
    (hc : l.tx.current? = some c) : s.Quiet (s.startSend p l c) := by
  unfold State.startSend
  refine (State.Quiet.endEarly h rfl).trans (.setLive (State.live?_endEarly h) ?_)
  rw [hc]
  rfl

/-- An item is taken in the state `u`, where the change of the port alone keeps the units sound. -/
theorem State.UnitsSound.take {p : PortId} {l : Live} {i : TxItem}
    (hset : ∀ m : Live, m.tx.current? = some { item := i, contentions := 0 } → (u.setLive p m).UnitsSound) :
    (u.take p l i).UnitsSound := by
  obtain ⟨m, hm, h | h⟩ := State.take_eq u p l i <;> rw [h]
  · exact (State.Quiet.endEarly (State.live?_setLive ..) rfl).unitsSound (hset m hm)
  · exact hset m hm

theorem Line.trunkItem?_of_idle {l : Live} (h : l.tx = .idle) : (Line.active l).trunkItem? = none :=
  Line.trunkItem?_of_none (by rw [h]; rfl)

theorem State.UnitsSound.takeItem (hs : s.UnitsSound) (p : PortId) : (s.takeItem p).UnitsSound := by
  rcases State.takeItem_cases s p with h | ⟨l, -, hl, hidle, h⟩ | ⟨b, l, x, -, hl, hidle, -, -, h⟩ |
    ⟨b, l, -, hl, hidle, -, -, h⟩ <;> rw [h]
  · exact hs
  · unfold State.takeTrunk
    split
    · exact hs
    · rename_i i rest hq
      refine State.UnitsSound.take fun m hm => hs.setTrunk hl ?_
      rw [Line.trunkItem?_of_trunk hm rfl, Line.trunkItem?_of_idle hidle, hq]
      rfl
  · unfold State.takeHolder
    split
    · exact hs
    · split
      · refine State.UnitsSound.take fun m hm => ?_
        exact ((State.Quiet.holderTaken ..).unitsSound hs).setBranchLive b (Line.trunkItem?_of_branch hm rfl)
      · exact hs
      · exact hs
  · unfold State.takeBranch
    split
    · exact hs
    · rename_i i rest hq
      refine State.UnitsSound.take fun m hm => ?_
      exact ((State.Quiet.headTaken hq _).unitsSound hs).setBranchLive b (Line.trunkItem?_of_branch hm rfl)

/-! ### The end of the current item -/

/-- The trunk item `i` has left the queue and the transmitter, and its owner has not been told. -/
structure State.Ended (s : State) (i : TrunkItem) : Prop where
  stands : ∃ r a, s.Stands r a ∧
    (if s.mgmt.phase = .answering then 1 else 0) = r + (if i.isResponse then 1 else 0) ∧
    (if s.alerts.offered then 1 else 0) = a + (if i.isAlert then 1 else 0)
  listed : s.alerts.offered = true → s.alerts.list ≠ []
  restart : s.mgmt.restart = true → s.mgmt.phase = .answering
  due : s.OfferDue

theorem State.Quiet.ended {i : TrunkItem} (h : s.Quiet t) (hs : s.Ended i) : t.Ended i := by
  obtain ⟨⟨r, a, hstands, hr, ha⟩, hlisted, hrestart, hdue⟩ := hs
  exact ⟨⟨r, a, h.stands hstands, by rw [h.mgmt]; exact hr, by rw [h.alerts]; exact ha⟩, by rw [h.alerts]; exact hlisted,
    by rw [h.mgmt]; exact hrestart, h.offerDue hdue⟩

/-- The owner of an item that is neither a response nor an alert has nothing to do with the units. -/
theorem State.Ended.unitsSound {i : TrunkItem} (hs : s.Ended i) (hr : i.isResponse = false) (ha : i.isAlert = false) :
    s.UnitsSound := by
  obtain ⟨⟨r, a, hstands, hresp, halert⟩, hlisted, hrestart, hdue⟩ := hs
  rw [hr] at hresp
  rw [ha] at halert
  refine ⟨⟨?_, hlisted⟩, hrestart, hdue⟩
  rw [hresp, halert]
  exact hstands

/-- The response has ended, and with it the ANSWERING of the unit. -/
theorem State.Ended.response (hs : s.Ended .response) (straps : Straps) :
    (State.settleRestart { s with mgmt := { s.mgmt with phase := .idle } } straps).UnitsSound := by
  obtain ⟨⟨r, a, hstands, hresp, halert⟩, hlisted, -, hdue⟩ := hs
  have hzero : r = 0 := by
    have hone : (if TrunkItem.response.isResponse = true then 1 else 0) = 1 := rfl
    rw [hone] at hresp
    split at hresp <;> omega
  have hoffers : s.Offers 0 := by
    subst hzero
    refine ⟨?_, hlisted⟩
    rw [halert]
    exact hstands
  exact hoffers.responseEnds hdue straps

/-- The offered alert's item has ended: what the alert unit goes on with keeps the units sound. -/
theorem State.Ended.alert {i : AlertItem} (hs : s.Ended (.alert i)) (hmgmt : t.mgmt = s.mgmt)
    (hgo : ∀ r, s.Stands r 0 → t.Offers r ∧ t.OfferDue) : t.UnitsSound := by
  obtain ⟨⟨r, a, hstands, hresp, halert⟩, -, hrestart, -⟩ := hs
  have hzero : a = 0 := by
    have hone : (if (TrunkItem.alert i).isAlert = true then 1 else 0) = 1 := rfl
    rw [hone] at halert
    split at halert <;> omega
  obtain ⟨hoffers, hdue⟩ := hgo r (hzero ▸ hstands)
  refine ⟨?_, by rw [hmgmt]; exact hrestart, hdue⟩
  rw [hmgmt, hresp]
  exact hoffers

theorem State.Ended.trunkSent {i : TrunkItem} (hs : s.Ended i) (straps : Straps) : (s.trunkSent straps i).UnitsSound := by
  cases i with
  | response => exact hs.response straps
  | alert i => exact hs.alert (State.alertSent_mgmt s i) fun r hr => hr.alertSent i
  | frameReturn x b => exact (State.Quiet.returnDone s x).unitsSound (hs.unitsSound rfl rfl)
  | refusalReturn x r => exact (State.Quiet.returnDone s x).unitsSound (hs.unitsSound rfl rfl)
  | busy r => exact hs.unitsSound rfl rfl
  | immediate r => exact hs.unitsSound rfl rfl
  | passUp b => exact hs.unitsSound rfl rfl

theorem State.Ended.trunkAbandoned {i : TrunkItem} (hs : s.Ended i) (straps : Straps) :
    (s.trunkAbandoned straps i).UnitsSound := by
  cases i with
  | response => exact hs.response straps
  | alert i => exact hs.alert (State.alertLost_mgmt s) fun r hr => hr.alertLost
  | frameReturn x b => exact (State.Quiet.returnLost s x).unitsSound (hs.unitsSound rfl rfl)
  | refusalReturn x r => exact (State.Quiet.returnLost s x).unitsSound (hs.unitsSound rfl rfl)
  | busy r => exact hs.unitsSound rfl rfl
  | immediate r => exact hs.unitsSound rfl rfl
  | passUp b => exact hs.unitsSound rfl rfl

/-- The P0 transmitter becomes IDLE, and its trunk item has ended. -/
theorem State.UnitsSound.trunkIdle (hs : s.UnitsSound) {l m : Live} {c : Current} {i : TrunkItem}
    (h : s.live? .p0 = some l) (hc : l.tx.current? = some c) (hi : c.item = .trunk i) (hm : m.tx = .idle) :
    (s.setLive .p0 m).Ended i := by
  have hlive : (s.setLive .p0 m).live? .p0 = some m := State.live?_setLive ..
  have hstand : ∀ f, s.standing f = (s.setLive .p0 m).standing f + if f i then 1 else 0 := fun f => by
    rw [State.standing_eq, State.standing_eq, State.trunkItems_of_current hlive, State.trunkItems_of_current h,
      Line.trunkItem?_of_trunk hc hi, Line.trunkItem?_of_idle hm]
    cases hf : f i <;> simp [hf]
  refine ⟨⟨_, _, ⟨⟨?_, hs.trunkPort.2⟩, ?_, rfl, rfl, hs.list⟩, ?_, ?_⟩, hs.listed, hs.restart,
    fun hl hd _ => hs.due hl hd ?_⟩
  · rw [State.line_of_live? hlive]
    exact nofun
  · intro b
    rw [State.setLive, State.setLine, State.port_setPort, if_neg (branchPort_ne_p0 b)]
    exact hs.branches b
  · exact hs.responses.symm.trans (hstand _)
  · exact hs.alerts.symm.trans (hstand _)
  · rw [State.isActive, h]
    rfl

/-- A branch transmitter sends an item of the branch (R131). -/
theorem State.BranchesSendBranch.item (hs : s.BranchesSendBranch) {b : BranchId} {l : Live} {c : Current}
    (h : s.live? (branchPort b) = some l) (hc : l.tx.current? = some c) : ∃ i, c.item = .branch i := by
  have hnone := hs b
  rw [State.line_of_live? h, Line.sendsTrunk_eq] at hnone
  cases hi : c.item with
  | branch i => exact ⟨i, rfl⟩
  | trunk i =>
    rw [Line.trunkItem?_of_trunk hc hi] at hnone
    cases hnone

/-- The current item of a port has ended, sent or abandoned: the port is IDLE, counters have counted, the buffer is
released, and the owner is told (R136, R137). -/
theorem State.UnitsSound.itemEnds (hs : s.UnitsSound) {p : PortId} {l m : Live} {c : Current} (h : s.live? p = some l)
    (hc : l.tx.current? = some c) (hm : m.tx = .idle) (hq : (s.setLive p m).Quiet v) (straps : Straps) :
    (v.ownerSent p straps c.item).UnitsSound ∧ (v.ownerAbandoned p straps c.item).UnitsSound := by
  rcases portId_cases p with rfl | ⟨b, rfl⟩
  · cases hi : c.item with
    | trunk i =>
      have hended := hq.ended (hs.trunkIdle h hc hi hm)
      exact ⟨hended.trunkSent straps, hended.trunkAbandoned straps⟩
    | branch i =>
      have hset : (s.setLive .p0 m).UnitsSound := hs.setTrunk h (q := s.trunkQueue)
        (by rw [Line.trunkItem?_of_idle hm, Line.trunkItem?_of_branch hc hi])
      exact ⟨hq.unitsSound hset, hq.unitsSound hset⟩
  · obtain ⟨i, hi⟩ := hs.branches.item h hc
    have hv := hq.unitsSound (hs.setBranchLive b (Line.trunkItem?_of_idle hm))
    rw [hi, State.ownerSent, State.ownerAbandoned]
    simp only [portBranch_branchPort]
    exact ⟨(State.Quiet.branchSent ..).unitsSound hv, (State.Quiet.branchAbandoned ..).unitsSound hv⟩

theorem State.UnitsSound.contended (hs : s.UnitsSound) {p : PortId} {l : Live} {c : Current} (h : s.live? p = some l)
    (hc : l.tx.current? = some c) (back : ReadBack) (first : Bool) (straps : Straps) :
    (s.contended p l c back first straps).UnitsSound := by
  unfold State.contended
  dsimp only
  split
  · refine ((State.Quiet.setLive h ?_).trans (.countPort ..)).unitsSound hs
    rw [hc]
    rfl
  · exact (hs.itemEnds h hc rfl (((State.Quiet.countPort ..).trans (.countPort ..)).trans (.releaseOpt ..)) straps).2

theorem State.UnitsSound.completed (hs : s.UnitsSound) {p : PortId} {l : Live} {c : Current} (h : s.live? p = some l)
    (hc : l.tx.current? = some c) (high : Nat) (straps : Straps) : (s.completed p l c high straps).UnitsSound :=
  (hs.itemEnds h hc rfl ((State.Quiet.countPort ..).trans (.releaseOpt ..)) straps).1

/-! ### The step -/

/-- A port in FAULT that recovers is ACTIVE with nothing to send, and what is due is offered in either order (R119). -/
theorem State.UnitsSound.recover (hs : s.UnitsSound) {p : PortId} {since : Nat} (h : (s.port p).line = .fault since) :
    (s.recover p).UnitsSound := by
  have hfresh : (s.setLive p (.fresh s.now)).Offers (if s.mgmt.phase = .answering then 1 else 0) := by
    rcases portId_cases p with rfl | ⟨b, rfl⟩
    · have hstand : ∀ f, (s.setLive .p0 (.fresh s.now)).standing f = s.standing f := fun f => by
        rw [State.standing, State.standing, State.line_of_live? (State.live?_setLive ..), h]
        rfl
      refine ⟨⟨⟨?_, hs.trunkPort.2⟩, ?_, (hstand _).trans hs.responses, (hstand _).trans hs.alerts, hs.list⟩, hs.listed⟩
      · rw [State.line_of_live? (State.live?_setLive ..)]
        exact nofun
      · intro b
        rw [State.setLive, State.setLine, State.port_setPort, if_neg (branchPort_ne_p0 b)]
        exact hs.branches b
    · exact (hs.setBranchLive b (Line.trunkItem?_of_idle rfl)).toOffers
  have hfinish : ∀ w : State, w.mgmt = s.mgmt → w.Offers (if s.mgmt.phase = .answering then 1 else 0) ∧ w.OfferDue →
      w.UnitsSound := fun w hm hw => ⟨by rw [hm]; exact hw.1, by rw [hm]; exact hs.restart, hw.2⟩
  have hdrawn : State.Offers { s.setLive p (.fresh s.now) with choices := s.choices + 1 }
      (if s.mgmt.phase = .answering then 1 else 0) := by
    refine State.Quiet.offers ?_ hfresh
    exact .of_eq rfl rfl rfl rfl rfl
  unfold State.recover
  rcases State.bothOrders_cases (s.setLive p (.fresh s.now)) State.offerAlert
    (fun t => t.raise .portRecovered (portNumber p)) with h | h | h <;> rw [h]
  · exact hfinish _ (by rw [State.raise_mgmt, State.offerAlert_mgmt]; rfl) (hfresh.offerAlert.1.raise ..)
  · exact hfinish _ (by rw [State.offerAlert_mgmt, State.raise_mgmt]; rfl)
      (State.Offers.offerAlert (hdrawn.raise ..).1)
  · exact hfinish _ (by rw [State.raise_mgmt, State.offerAlert_mgmt]; rfl) (State.Offers.raise hdrawn.offerAlert.1 ..)

theorem State.Does.unitsSound (hd : u.Does t) (hu : u.UnitsSound) : t.UnitsSound := by
  cases hd with
  | nothing => exact hu
  | refusesBusy h _ => exact (State.Quiet.refuseBusy ..).unitsSound hu
  | operates h q _ hidle => exact (State.operates_operate q).unitsSound hu hidle
  | copies h job since hph =>
    have hcopied : State.UnitsSound { u with table := { u.table with shadow := u.table.active } } :=
      hu.of_eq rfl rfl rfl rfl rfl
    have hoffers := hcopied.toOffers
    rw [if_neg (by rw [hph]; exact nofun)] at hoffers
    cases job
    · exact hoffers.respond hcopied.due ..
    · exact hoffers.respond hcopied.due ..
  | marked p l m o hl _ hm => exact hu.marked hl.1 hm o
  | unmarked p l m o hl _ hm => exact (State.receives_unmarked ..).unitsSound hl.1 hm hu
  | endsEarly p l m hl _ hm =>
    exact ((State.Quiet.setLive hl.1 (by rw [hm])).trans (.endEarly (State.live?_setLive ..) rfl)).unitsSound hu
  | stuck p l high straps hl => exact hu.stuck hl ..
  | recovers p since hl => exact hu.recover hl
  | restartsRecovery p since again hl =>
    rcases portId_cases p with rfl | ⟨b, rfl⟩
    · have hdown : (u.setLine .p0 (.fault again)).isActive .p0 = false := State.isActive_of_line (line := .fault again) rfl rfl
      have hstand : ∀ f, (u.setLine .p0 (.fault again)).standing f = u.standing f := fun f => by
        rw [State.standing, State.standing, hl]
        rfl
      refine ⟨⟨⟨⟨nofun, hu.trunkPort.2⟩, ?_, (hstand _).trans hu.responses, (hstand _).trans hu.alerts, hu.list⟩,
        hu.listed⟩, hu.restart, fun _ _ ha => absurd (ha.symm.trans hdown) (by decide)⟩
      intro b
      rw [State.setLine, State.port_setPort, if_neg (branchPort_ne_p0 b)]
      exact hu.branches b
    · exact hu.setBranchPort b rfl
  | windowExpires b sl start e d _ _ _ _ => exact (State.Quiet.windowExpired ..).unitsSound hu
  | probeExpires b sl start e q _ _ _ _ => exact ((State.Quiet.setSlot ..).trans (.loseBranch ..)).unitsSound hu
  | ages =>
    refine (State.Quiet.age _).unitsSound ?_
    exact hu.of_eq rfl rfl rfl rfl rfl
  | takes p => exact hu.takeItem p
  | startsSend p l c hl hc _ => exact (State.Quiet.startSend hl hc).unitsSound hu
  | contends p l c since frame back first straps hl htx => exact hu.contended hl (by rw [htx]; rfl) ..
  | completes p l c since frame high straps hl htx => exact hu.completed hl (by rw [htx]; rfl) ..
  | resets straps => exact .resetAt straps

end Effects

/-- Settles O58: every effect of a command keeps the units sound. -/
theorem stepsKeepTheUnitsSound : Obligations.StepsKeepTheUnitsSound := by
  unfold Obligations.StepsKeepTheUnitsSound
  intro s t hport hunit hoffer halerts hdue h
  refine (State.unitsSound_iff t).mp (step_keeps (I := State.UnitsSound) (fun _ _ h => h.of_eq rfl rfl rfl rfl rfl)
    (fun _ _ h => h.of_eq rfl rfl rfl rfl rfl) (fun s p busy hs => ?_) (fun _ _ hu hd => hd.unitsSound hu) h
    ((State.unitsSound_iff s).mpr ⟨hport, hunit, hoffer, halerts, hdue⟩))
  cases hl : s.live? p with
  | none => rwa [State.lineSeen_of_not_live hl]
  | some l =>
    rw [State.lineSeen_of_live hl]
    exact (State.Quiet.setLive (m := { l with busy := l.busy || busy }) hl rfl).unitsSound hs

end Sys2Proof.Machine
end

section
/-! PROOFS. Reading the counters back after they are counted (R183), and the lists of all records and branches. -/

namespace Sys2Proof.Machine

theorem mem_allSlots (x : SlotNo) : x ∈ allSlots := by
  revert x
  decide

theorem nodup_allSlots : allSlots.Nodup := by decide

theorem mem_allBranches (b : BranchId) : b ∈ allBranches := by
  cases b <;> decide

theorem nodup_allBranches : allBranches.Nodup := by decide

/-- A port counter is read back counted once, and the other counters as they were. -/
theorem portCounterGet_bump (c : PortCounters) (k j : PortCounter) :
    portCounterGet (portCounterBump c k) j = if j = k then saturate (portCounterGet c k) else portCounterGet c j := by
  cases k <;> cases j <;> rfl

theorem refusalCounterGet_bump (c : RefusalCounters) (r q : Reason) :
    refusalCounterGet (refusalCounterBump c r) q =
      if q = r then saturate (refusalCounterGet c r) else refusalCounterGet c q := by
  cases r <;> cases q <;> rfl

/-- A bridge counter is read back counted once, and the other counters as they were. -/
theorem bridgeCounterGet_bump (c : BridgeCounters) (k j : BridgeCounter) :
    bridgeCounterGet (bridgeCounterBump c k) j =
      if j = k then saturate (bridgeCounterGet c k) else bridgeCounterGet c j := by
  cases k
  case refusals r =>
    cases j
    case refusals q =>
      have hiff : (BridgeCounter.refusals q = .refusals r) = (q = r) := by simp
      simp only [hiff]
      exact refusalCounterGet_bump c.refusals r q
    all_goals rfl
  all_goals cases j <;> rfl

theorem State.bridgeCounter_count (s : State) (k j : BridgeCounter) :
    (s.count k).bridgeCounter j = if j = k then saturate (s.bridgeCounter k) else s.bridgeCounter j :=
  bridgeCounterGet_bump s.counters k j

end Sys2Proof.Machine
end

section
/-! PROOFS. Accepted management requests: READ-PORT, PREPARE-SHADOW, COMMIT, the shadow copy, FORGET and PORT-CONTROL
(R159, R164, R165, R167, R169). -/

namespace Sys2Proof.Machine

/-! ### Counting and clearing (R184) -/

/-- Setting the counters of a port leaves every port as ACTIVE as it was. -/
theorem State.isActive_clearPortCounters (s : State) (p q : PortId) :
    (s.clearPortCounters p).isActive q = s.isActive q := by
  unfold State.clearPortCounters State.isActive State.live?
  rw [State.port_setPort]
  split_ifs with h
  · rw [h]
  · rfl

theorem UnsolicitedPolicy.code_eq (u : UnsolicitedPolicy) : u.code = if u = .passUp then 1 else 0 := by
  cases u <;> rfl

/-- Settles O9: the octet of the port decides before the clear flag, and the counters are read at the instant at which
clear flag 1 sets them to 0. -/
theorem readPortAnswers : Obligations.ReadPortAnswers := by
  unfold Obligations.ReadPortAnswers
  intro dt h port clear s hu hl
  have hrun := exec_request_of_free (c := .readPort dt h port clear) (code := 0x03) (s := s) rfl hu hl (by decide)
  constructor
  · intro hport
    rw [portOfOctet_of_high hport] at hrun
    exact hrun.trans (congrArg _ (State.respond_of_free hu dt 0x03 .badIndex []))
  · rintro p rfl
    rw [portOfOctet_portNumber] at hrun
    constructor
    · intro hclear
      rw [hrun]
      dsimp only
      rw [if_neg (octet_ne_of_le_of_lt (by decide) hclear), if_neg (octet_ne_of_le_of_lt (by decide) hclear),
        State.respond_of_free hu]
      rfl
    · intro hclear
      rw [hrun]
      rcases octet_eq_zero_or_one hclear with rfl | rfl
      · dsimp only
        rw [if_pos rfl, State.respond_of_free hu]
        simp only [State.portData, State.settingOctets, UnsolicitedPolicy.code_eq]
        cases p <;> rfl
      · dsimp only
        rw [if_neg (by decide), if_pos rfl,
          State.respond_of_trunk_kept _ hu (State.isActive_clearPortCounters (s.advance dt) p .p0) rfl]
        simp only [State.portData, State.settingOctets, UnsolicitedPolicy.code_eq]
        cases p <;> rfl

/-! ### The shadow copy (R3, R18) -/

/-- Settles O14: clear mode empties SHADOW at once, and copy mode only makes the unit WORKING. -/
theorem prepareShadowClearsOrStartsCopy : Obligations.PrepareShadowClearsOrStartsCopy := by
  unfold Obligations.PrepareShadowClearsOrStartsCopy
  intro dt h s hu hl
  constructor
  · rw [exec_request_of_free (c := .prepareShadowClear dt h) (code := 0x07) rfl hu hl (by decide)]
    exact congrArg _ (State.respond_table_of_free hu dt _ 0x07 .ok [])
  · rw [exec_request_of_free (c := .prepareShadowCopy dt h) (code := 0x07) rfl hu hl (by decide)]
    rfl

/-- A place keeps its entry through a commit where the new ACTIVE bank does not cover it. -/
theorem uncovered_eq_filter (bank : List (Option Entry)) :
    uncovered bank = Option.filter (fun e => !covers bank e.addr) := by
  funext o
  cases o with
  | none => rfl
  | some e => cases hc : covers bank e.addr <;> simp [uncovered, Option.filter, hc]

/-- Settles O15: the expected generation decides between STALE and the swap of the banks. -/
theorem commitSwapsOrAnswersStale : Obligations.CommitSwapsOrAnswersStale := by
  unfold Obligations.CommitSwapsOrAnswersStale
  intro dt h expected s hu hl
  have hrun := exec_request_of_free (c := .commit dt h expected) (code := 0x08) (s := s) rfl hu hl (by decide)
  constructor
  · intro hstale
    rw [hrun, if_neg (show expected ≠ (s.advance dt).table.generation from hstale), State.respond_of_free hu]
    rfl
  · intro heq
    refine ⟨s.table.active, ?_⟩
    rw [hrun, if_pos (show expected = (s.advance dt).table.generation from heq), ← uncovered_eq_filter]
    rfl

/-- The copy of a WORKING unit that ends in time. -/
theorem exec_shadowCopyCompletion_of_working {s : State} {h : Header} {job : CopyJob} {since dt : Nat}
    (hphase : s.mgmt.phase = .working h job since) (hdt : s.now + dt ≤ since + timeUnit) :
    exec (.shadowCopyCompletion dt) s = .next ((s.advance dt).copyDone h job) := by
  have hrun : exec (.shadowCopyCompletion dt) s = execShadowCopyCompletion dt s := rfl
  rw [hrun, execShadowCopyCompletion, hphase]
  dsimp only
  rw [if_pos hdt]

/-- A response that is not admitted is dropped, and without a RESTART pending the unit is IDLE (R154). -/
theorem State.respond_of_dropped {s : State} (h : Header) (code : Octet) (status : Status) (data : List Octet)
    (ha : s.admits .response = false) (hr : s.mgmt.restart = false) :
    s.respond h code status data = { s with mgmt :=
      { s.mgmt with phase := .idle, response := responseFrame s.ownAddress h code status data } } := by
  simp [State.respond, ha, State.settleRestart, hr]

theorem State.admits_of_not_active {s : State} (ha : s.isActive .p0 = false) (i : TrunkItem) : s.admits i = false := by
  simp [State.admits, ha]

/-- Settles O16: SHADOW takes the entries of ACTIVE, and the response is offered or dropped. -/
theorem shadowCopyCompletes : Obligations.ShadowCopyCompletes := by
  unfold Obligations.ShadowCopyCompletes
  intro dt h job since s hphase hrestart hdt
  rw [exec_shadowCopyCompletion_of_working hphase hdt]
  constructor
  · intro hadmits
    cases job with
    | commit => exact congrArg _ (State.respond_of_admits (s := { s.advance dt with table :=
        { s.table with shadow := s.table.active } }) h 0x08 .ok _ hadmits)
    | prepare => exact congrArg _ (State.respond_of_admits (s := { s.advance dt with table :=
        { s.table with shadow := s.table.active } }) h 0x07 .ok _ hadmits)
  · intro hdown
    cases job with
    | commit =>
      refine ⟨_, congrArg _ (State.respond_of_dropped (s := { s.advance dt with table :=
        { s.table with shadow := s.table.active } }) h 0x08 .ok _ (State.admits_of_not_active hdown _) hrestart)⟩
    | prepare =>
      refine ⟨_, congrArg _ (State.respond_of_dropped (s := { s.advance dt with table :=
        { s.table with shadow := s.table.active } }) h 0x07 .ok _ (State.admits_of_not_active hdown _) hrestart)⟩

/-! ### FORGET (R19) -/

/-- The place of the forgotten address is emptied, and no other. -/
theorem forgetPlace_eq_filter (a : Octet) : forgetPlace a = Option.filter (fun e => decide (e.addr ≠ a)) := by
  funext o
  cases o with
  | none => rfl
  | some e => by_cases ha : e.addr = a <;> simp [forgetPlace, Option.filter, ha]

theorem Table.forgetCount_eq (t : Table) (a : Octet) :
    t.forgetCount a = (t.learned.filter (fun o => decide (o.map (·.addr) = some a))).length := by
  have hpick : (fun o : Option Learned => o.isSome && (forgetPlace a o).isNone) =
      fun o => decide (o.map (·.addr) = some a) := by
    funext o
    cases o with
    | none => rfl
    | some e => by_cases ha : e.addr = a <;> simp [forgetPlace, ha]
  rw [Table.forgetCount, hpick]

theorem Table.learnedCount_eq (t : Table) : t.learnedCount = (t.learned.filter Option.isSome).length := by
  have hpick : isLearned = Option.isSome (α := Learned) := by
    funext o
    cases o <;> rfl
  rw [Table.learnedCount, hpick]

/-- Settles O18: both forms empty the places they remove and answer how many there were. -/
theorem forgetRemovesLearnedEntries : Obligations.ForgetRemovesLearnedEntries := by
  unfold Obligations.ForgetRemovesLearnedEntries
  intro dt h a s hu hl
  constructor
  · rw [exec_request_of_free (c := .forgetAddress dt h a) (code := 0x0A) rfl hu hl (by decide),
      ← forgetPlace_eq_filter, ← Table.forgetCount_eq]
    exact congrArg _ (State.respond_table_of_free hu dt _ 0x0A .ok _)
  · rw [exec_request_of_free (c := .forgetAll dt h) (code := 0x0A) rfl hu hl (by decide),
      ← Table.learnedCount_eq, ← List.map_const']
    exact congrArg _ (State.respond_table_of_free hu dt _ 0x0A .ok _)

/-! ### PORT-CONTROL (R117, R120) -/

section PortControl

variable {s : State} {p : PortId}

theorem State.enable_of_disabled (h : (s.port p).line = .disabled) : s.enable p = s.setLive p (.fresh s.now) := by
  rw [State.enable, h]

theorem State.enable_of_active {l : Live} (h : (s.port p).line = .active l) : s.enable p = s := by
  rw [State.enable, h]

theorem State.enable_of_fault {since : Nat} (h : (s.port p).line = .fault since) : s.enable p = s := by
  rw [State.enable, h]

theorem State.disable_of_disabled {b : BranchId} (h : (s.port (branchPort b)).line = .disabled) : s.disable b = s := by
  rw [State.disable, h]

theorem State.disable_of_fault {b : BranchId} {since : Nat} (h : (s.port (branchPort b)).line = .fault since) :
    s.disable b = s.setLine (branchPort b) .disabled := by
  rw [State.disable, h]

end PortControl

/-- A change of the line of a branch leaves the trunk as ACTIVE as it was. -/
theorem State.isActive_trunk_setLine (s : State) (b : BranchId) (line : Line) :
    (s.setLine (branchPort b) line).isActive .p0 = s.isActive .p0 := by
  cases b <;> rfl

/-- An ACTIVE trunk is not DISABLED. -/
theorem State.line_ne_disabled_of_isActive {s : State} {p : PortId} (h : s.isActive p = true) :
    (s.port p).line ≠ .disabled := by
  intro hline
  rw [State.isActive_eq, ← State.port_eq, hline] at h
  exact Bool.false_ne_true h

/-- Enabling a DISABLED port leaves the trunk, which is ACTIVE, as it was. -/
theorem State.isActive_trunk_enable_of_disabled {s : State} {h : Header} (hu : s.UnitFree h) {p : PortId}
    (hp : (s.port p).line = .disabled) (dt : Nat) (l : Live) :
    ((s.advance dt).setLive p l).isActive .p0 = s.isActive .p0 := by
  cases p with
  | p0 => exact absurd hp (State.line_ne_disabled_of_isActive (State.isActive_of_unitFree hu))
  | p1 => rfl
  | p2 => rfl
  | p3 => rfl

/-- Settles O20: the port octet decides first, and then the state of the port. -/
theorem portControlSetsPortState : Obligations.PortControlSetsPortState := by
  unfold Obligations.PortControlSetsPortState
  intro dt h port s hu hl enable disable
  have henable : enable = _ := exec_request_of_free (c := .portControlEnable dt h port) (code := 0x0D) (s := s) rfl hu
    hl (by decide)
  have hdisable : disable = _ := exec_request_of_free (c := .portControlDisable dt h port) (code := 0x0D) (s := s) rfl
    hu hl (by decide)
  refine ⟨?badIndex, ?trunk, ?enabling, ?disabling⟩
  case badIndex =>
    intro hport
    rw [portOfOctet_of_high hport] at henable hdisable
    exact ⟨henable.trans (congrArg _ (State.respond_of_free hu dt 0x0D .badIndex [])),
      hdisable.trans (congrArg _ (State.respond_of_free hu dt 0x0D .badIndex []))⟩
  case trunk =>
    rintro rfl
    exact hdisable.trans (congrArg _ (State.respond_of_free hu dt 0x0D .notPermitted []))
  case enabling =>
    rintro p rfl
    rw [portOfOctet_portNumber] at henable
    rw [henable]
    dsimp only
    cases hline : (s.port p).line with
    | disabled =>
      rw [State.enable_of_disabled (s := s.advance dt) hline, State.respond_of_trunk_kept _ hu
        (State.isActive_trunk_enable_of_disabled hu hline dt _) rfl]
      cases p <;> rfl
    | active l =>
      have hport : (s.advance dt).port p = s.port p := rfl
      rw [State.enable_of_active (s := s.advance dt) hline, State.respond_of_free hu, hport, hline]
      rfl
    | fault since =>
      have hport : (s.advance dt).port p = s.port p := rfl
      rw [State.enable_of_fault (s := s.advance dt) hline, State.respond_of_free hu, hport, hline]
      rfl
  case disabling =>
    rintro b rfl
    rw [portOfOctet_branchNumber] at hdisable
    dsimp only at hdisable
    rw [portBranch_branchPort] at hdisable
    constructor
    · intro hline
      have hport : (s.advance dt).port (branchPort b) = s.port (branchPort b) := rfl
      rw [hdisable]
      dsimp only
      rw [State.disable_of_disabled (s := s.advance dt) hline, State.respond_of_free hu, hport, hline]
      rfl
    · intro since hline
      rw [hdisable]
      dsimp only
      rw [State.disable_of_fault (s := s.advance dt) hline,
        State.respond_of_trunk_kept _ hu (State.isActive_trunk_setLine (s.advance dt) b .disabled) rfl]
      cases b <;> rfl

end Sys2Proof.Machine
end

section
/-! PROOFS. The form of a management request, the busy unit, and the frame that carries a request (R78, R79, R147,
R153). -/

namespace Sys2Proof.Machine

/-! ### The form of a request (R147, R153) -/

/-- A row that names an operation checks the form of its request before it operates. -/
theorem exec_request_eq_withLen {c : Instr} {dt : Nat} {h : Header} {code : Octet}
    (hc : requestOf c = some (dt, h, code)) :
    ∃ op : State → State, ∀ s : State,
      exec c s = .next ((s.advance dt).requestArrives h (fun t => t.withLen h code op)) := by
  cases c <;> cases hc <;> exact ⟨_, fun _ => rfl⟩

/-- The table of R147 is the one the unit goes by. -/
theorem requestLen_of_mem_lenTable {code len : Octet} (h : (code, len) ∈ lenTable) : requestLen code = len := by
  have hall : lenTable.all (fun e => requestLen e.1 == e.2) = true := by decide
  exact eq_of_beq (List.all_eq_true.mp hall _ h)

theorem State.withLen_of_other_len {h : Header} {code : Octet} (h0 : h.len ≠ 0) (hl : h.len ≠ requestLen code) (s : State)
    (op : State → State) : s.withLen h code op = s.respond h code .badLength [] := by
  rw [State.withLen, if_neg h0, if_neg hl]

theorem isOperationCode_eq_false_iff (code : Octet) : isOperationCode code = false ↔ code = 0 ∨ 0x10 < code.toNat := by
  rw [← Bool.not_eq_true, isOperationCode_iff]
  constructor
  · intro h
    by_cases h0 : code = 0
    · exact .inl h0
    · have hpos : code.toNat ≠ 0 := fun hz => h0 (BitVec.eq_of_toNat_eq hz)
      exact .inr (by omega)
  · rintro (rfl | h)
    · decide
    · omega

/-- Settles O25: LEN 0, a code without an operation and another LEN are each found before the operation runs. -/
theorem wrongFormIsAnswered : Obligations.WrongFormIsAnswered := by
  unfold Obligations.WrongFormIsAnswered
  intro s h hu
  constructor
  · intro c dt code len hc hlen
    obtain ⟨op, hop⟩ := exec_request_eq_withLen hc
    rw [hop, State.requestArrives_of_free hu]
    constructor
    · intro h0
      exact congrArg _ ((State.withLen_of_len_zero h0 _ code op).trans (State.respond_of_free hu dt 0 .badOperation []))
    · intro h0 hl
      rw [← requestLen_of_mem_lenTable hlen] at hl
      exact congrArg _ ((State.withLen_of_other_len h0 hl _ op).trans (State.respond_of_free hu dt code .badLength []))
  · intro dt code
    constructor
    · intro h0
      rw [exec_badOperation_eq_operate (.inl h0), State.requestArrives_of_free hu, State.operate_of_len_zero h0]
      exact congrArg _ (State.respond_of_free hu dt 0 .badOperation [])
    · intro h0 hcode
      have hno := (isOperationCode_eq_false_iff code).mpr hcode
      rw [exec_badOperation_eq_operate (.inr hno), State.requestArrives_of_free hu,
        State.operate_of_no_code (q := payloadAt (.badOperation dt h code)) h0 hno, State.badOperation, if_neg h0]
      exact congrArg _ (State.respond_of_free hu dt code .badOperation [])

/-! ### The busy unit (R78, R79) -/

theorem TrunkItem.isBusy_iff (i : TrunkItem) : i.isBusy = true ↔ ∃ r, i = .busy r := by
  cases i <;> simp [TrunkItem.isBusy]

/-- A BUSY refusal is admitted to an ACTIVE trunk with room in its class and no other BUSY refusal (R107). -/
theorem State.admits_busy_iff (s : State) (r : RefusalItem) :
    s.admits (.busy r) = true ↔
      s.isActive .p0 = true ∧ classCount s.trunkQueue .management < 2 ∧ ∀ r', TrunkItem.busy r' ∉ s.trunkQueue := by
  have hplace : placeFree s.trunkQueue (.busy r) = true ↔ ∀ r', TrunkItem.busy r' ∉ s.trunkQueue := by
    have hown : placeFree s.trunkQueue (.busy r) = s.trunkQueue.all (fun j => !j.isBusy) := rfl
    rw [hown, List.all_eq_true]
    constructor
    · intro h r' hr
      exact Bool.false_ne_true (h _ hr)
    · intro h i hi
      rw [Bool.not_eq_true', ← Bool.not_eq_true, TrunkItem.isBusy_iff]
      rintro ⟨r', rfl⟩
      exact h r' hi
  rw [State.admits_iff, hplace]
  rfl

/-- A port that hears is ACTIVE. -/
theorem State.isActive_of_hears {s : State} {p : PortId} (h : s.hears p = true) : s.isActive p = true := by
  unfold State.hears at h
  unfold State.isActive
  cases hl : s.live? p with
  | none => rw [hl] at h; exact h
  | some l => rfl

/-- Every request that names an operation, or none, is handed over in one way. -/
theorem exec_request_arrives {c : Instr} {dt : Nat} {h : Header} {code : Octet}
    (hc : requestOf c = some (dt, h, code) ∨ (c = .badOperation dt h code ∧ (h.len = 0 ∨ code = 0 ∨ 0x10 < code.toNat)))
    (s : State) : exec c s = .next ((s.advance dt).requestArrives h (fun t => t.operate h (payloadAt c))) := by
  rcases hc with hc | ⟨rfl, hform⟩
  · exact exec_request_eq_operate hc s
  · exact exec_badOperation_eq_operate (hform.imp_right (isOperationCode_eq_false_iff code).mpr) s

/-- Settles O26: the request goes no further than its hand-over, where the busy unit refuses or discards it. -/
theorem busyUnitRefusesRequests : Obligations.BusyUnitRefusesRequests := by
  unfold Obligations.BusyUnitRefusesRequests
  intro c dt h code s hc hhears hsource hphase
  rw [exec_request_arrives hc, State.requestArrives_of_busy hhears hsource hphase]
  have hadmits := State.admits_busy_iff (s.advance dt)
    { requester := h.src, station := s.ownAddress, tag := h.tag, urgent := h.urgent, reason := .busy }
  constructor
  · rintro ⟨r, hr⟩
    refine congrArg _ (if_neg fun ha => ?_)
    obtain ⟨-, -, hnone⟩ := hadmits.mp ha
    exact hnone r hr
  · intro hnone hroom
    exact congrArg _ (if_pos (hadmits.mpr ⟨State.isActive_of_hears hhears, hroom, hnone⟩))

/-! ### The frame that carries a request (R77, R78, log 5) -/

section RequestFrame

variable {s : State} {dt : Nat} {p : PortId} {l : Live} {b : BufId} {o : Octet} {f : Frame}

/-- A good frame carries as many payload octets as its LEN says (R128, R141). -/
theorem State.GoodFrameEnds.payload_length (hg : s.GoodFrameEnds dt p l b o f) : f.payload.length = f.len.toNat := by
  obtain ⟨-, -, -, hlen, -, rfl⟩ := hg
  simp only [frameOf, List.length_take, List.length_drop]
  omega

theorem State.GoodFrameEnds.len_of_payload (hg : s.GoodFrameEnds dt p l b o f) {os : List Octet} {n : Octet}
    (hpay : f.payload = os) (hn : os.length = n.toNat) : f.header.len = n := by
  have hlen := hg.payload_length
  rw [hpay, hn] at hlen
  exact (BitVec.eq_of_toNat_eq hlen).symm

/-- After the frame end the port listens as before. -/
theorem State.GoodFrameEnds.hears (hg : s.GoodFrameEnds dt p l b o f) : (s.atFrameEnd dt p l b o).hears p = true := by
  obtain ⟨⟨⟨-, hquiet⟩, -⟩, -⟩ := hg
  unfold State.hears State.atFrameEnd
  rw [State.live?_countPort, State.live?_setLive]
  simp [hquiet]

/-- A well-formed frame to the own address has a source that a request can have (R76). -/
theorem State.validSource_of_wellFormed {t : State} (hm : f.malformed = false) (hdest : f.dest = t.ownAddress) :
    t.validSource f.header = true := by
  simp only [Frame.malformed, Bool.or_eq_false_iff, decide_eq_false_iff_not] at hm
  obtain ⟨⟨⟨⟨-, hzero⟩, hall⟩, hself⟩, -⟩ := hm
  simp only [State.validSource, Frame.header, ← hdest, hzero, hall, hself, decide_false, Bool.not_false, Bool.and_true]

/-- The request of a good frame to the own address arrives at the unit once its buffer is released. -/
theorem frameEnd_of_request (hg : s.GoodFrameEnds dt .p0 l b o f) (hm : f.malformed = false) (hk : f.kind = .request)
    (hdest : f.dest = s.ownAddress) :
    exec (.frameEnd dt .p0 o) s = .next ((((s.atFrameEnd dt .p0 l b o).release b).advance 0).requestArrives f.header
      (fun t => t.operate f.header (fun i => f.payload.getD i 0))) := by
  have hown : f.dest = (s.atFrameEnd dt .p0 l b o).ownAddress := hdest
  have hhears : (((s.atFrameEnd dt .p0 l b o).release b).advance 0).hears .p0 = true := hg.hears
  have hsource : (((s.atFrameEnd dt .p0 l b o).release b).advance 0).validSource f.header = true :=
    State.validSource_of_wellFormed hm hdest
  rw [frameEnd_of_wellFormed hg hm, State.requestArrives, hhears, hsource]
  refine congrArg _ ?_
  change State.trunkFrame _ _ _ = _
  rw [State.trunkFrame, if_pos hown, State.toOwn, hk]
  rfl

/-- The frame has the effect of a row whose payload the unit reads as it reads the frame's. -/
theorem frameEnd_eq_request {c : Instr} {code : Octet} (hg : s.GoodFrameEnds dt .p0 l b o f) (hm : f.malformed = false)
    (hk : f.kind = .request) (hdest : f.dest = s.ownAddress)
    (hc : requestOf c = some (0, f.header, code))
    (hreads : ∀ t : State, t.operate f.header (fun i => f.payload.getD i 0) = t.operate f.header (payloadAt c)) :
    exec (.frameEnd dt .p0 o) s = exec c ((s.atFrameEnd dt .p0 l b o).release b) := by
  rw [frameEnd_of_request hg hm hk hdest, exec_request_eq_operate hc, funext hreads]

/-- A frame whose payload names no operation has the effect of BAD_OPERATION (R153). -/
theorem frameEnd_eq_badOperation (hg : s.GoodFrameEnds dt .p0 l b o f) (hm : f.malformed = false)
    (hk : f.kind = .request) (hdest : f.dest = s.ownAddress) {code : Octet} (hcode : f.payload.getD 0 0 = code)
    (hno : code = 0 ∨ 0x10 < code.toNat) :
    exec (.frameEnd dt .p0 o) s = exec (.badOperation 0 f.header code) ((s.atFrameEnd dt .p0 l b o).release b) := by
  have hout := (isOperationCode_eq_false_iff code).mpr hno
  rw [frameEnd_of_request hg hm hk hdest, exec_badOperation_eq_operate (.inr hout)]
  refine congrArg (fun op => Host.Outcome.next (State.requestArrives _ f.header op)) (funext fun t => ?_)
  by_cases h0 : f.header.len = 0
  · rw [State.operate_of_len_zero h0, State.operate_of_len_zero h0]
  · rw [State.operate_of_no_code (q := fun i => f.payload.getD i 0) h0 (hcode ▸ hout),
      State.operate_of_no_code (q := payloadAt (.badOperation 0 f.header code)) h0 hout, hcode]
    rfl

/-- A request of one of the three operations with a choice octet, accepted, whose choice octet has no meaning. -/
theorem frameEnd_of_choice (hg : s.GoodFrameEnds dt .p0 l b o f) (hm : f.malformed = false) (hk : f.kind = .request)
    (hdest : f.dest = s.ownAddress) (hu : ((s.atFrameEnd dt .p0 l b o).release b).UnitFree f.header)
    (hne : f.payload ≠ []) {code : Octet} {status : Status}
    (hop : ∀ t : State, f.header.len ≠ 0 →
      t.operate f.header (fun i => f.payload.getD i 0) = t.respond f.header code status []) :
    exec (.frameEnd dt .p0 o) s =
      .next (((s.atFrameEnd dt .p0 l b o).release b).answered 0 f.header code status.code []) := by
  have h0 : f.header.len ≠ 0 := by
    intro hzero
    have hlen : f.payload.length = f.header.len.toNat := hg.payload_length
    rw [hzero] at hlen
    exact hne (List.length_eq_zero_iff.mp hlen)
  rw [frameEnd_of_request hg hm hk hdest, State.requestArrives_of_free hu, hop _ h0, State.respond_of_free hu]

end RequestFrame

theorem portOfOctet_of_low {o : Octet} (h : ¬ 3 < o.toNat) : ∃ p, portOfOctet o = some p := by
  have hcases : o = 0 ∨ o = 1 ∨ o = 2 ∨ o = 3 := by bv_omega
  rcases hcases with rfl | rfl | rfl | rfl <;> exact ⟨_, rfl⟩

/-- A PORT-CONTROL whose action has no meaning is refused for its port first (R153, R169). -/
theorem State.controlOther_of_len {h : Header} (h0 : h.len ≠ 0) (hl : h.len = requestLen 0x0D) (t : State)
    (port : Octet) :
    t.controlOther h port = t.respond h 0x0D (if 3 < port.toNat then .badIndex else .badValue) [] := by
  rw [State.controlOther, State.withLen_of_len h0 hl]
  split_ifs with hport
  · rw [portOfOctet_of_high hport]
  · obtain ⟨p, hp⟩ := portOfOctet_of_low hport
    rw [hp]

theorem octet_ne_zero_one {o : Octet} (h : 1 < o.toNat) : o ≠ 0 ∧ o ≠ 1 :=
  ⟨octet_ne_of_le_of_lt (by decide) h, octet_ne_of_le_of_lt (by decide) h⟩

/-- Settles O32: the payload is read as the row's would be, and a choice octet without a meaning is answered. -/
theorem managementRequestFrameIsItsCommand : Obligations.ManagementRequestFrameIsItsCommand := by
  unfold Obligations.ManagementRequestFrameIsItsCommand
  intro dt l b o f s hg hm hk hdest u h run q
  have hrow : ∀ {c : Instr} {code : Octet}, requestOf c = some (0, h, code) →
      (∀ t : State, t.operate h q = t.operate h (payloadAt c)) → run = exec c u :=
    fun hc hreads => frameEnd_eq_request hg hm hk hdest hc hreads
  refine ⟨?empty, fun _ => ⟨?other, ?_, ?_, ?_, ?_, ?_, ?_, ?_, ?_, ?commit, ?_, ?_, ?_, ?_, ?_, ?_, ?_, ?_, ?_, ?_⟩,
    fun hu => ⟨?prepare, ?forget, ?control⟩⟩
  case empty =>
    intro hnil
    exact frameEnd_eq_badOperation hg hm hk hdest (by rw [hnil]; rfl) (.inl rfl)
  case other => exact fun hno => frameEnd_eq_badOperation hg hm hk hdest rfl hno
  case commit =>
    intro hcode
    refine hrow (c := .commit 0 h (q 2 ++ q 1)) rfl fun t => ?_
    simp only [State.operate, hcode]
    exact congrArg (fun w => if h.len = 0 then t.badOperation h 0 else t.commit h w)
      (Word.hi_append_lo (q 2 ++ q 1)).symm
  case prepare =>
    intro m hpay hm1
    obtain ⟨hm0, hm1⟩ := octet_ne_zero_one hm1
    refine frameEnd_of_choice hg hm hk hdest hu (by rw [hpay]; simp) (status := .badValue) fun t h0 => ?_
    have hl : f.header.len = requestLen 0x07 := hg.len_of_payload hpay rfl
    rw [State.operate, if_neg h0, hpay]
    change (if m = 0 then _ else if m = 1 then _ else _) = _
    rw [if_neg hm0, if_neg hm1, State.badChoice, State.withLen_of_len h0 hl]
  case forget =>
    intro m a hpay hm1
    obtain ⟨hm0, hm1⟩ := octet_ne_zero_one hm1
    refine frameEnd_of_choice hg hm hk hdest hu (by rw [hpay]; simp) (status := .badValue) fun t h0 => ?_
    have hl : f.header.len = requestLen 0x0A := hg.len_of_payload hpay rfl
    rw [State.operate, if_neg h0, hpay]
    change (if m = 0 then _ else if m = 1 then _ else _) = _
    rw [if_neg hm0, if_neg hm1, State.badChoice, State.withLen_of_len h0 hl]
  case control =>
    intro p m hpay hm1
    obtain ⟨hm0, hm1⟩ := octet_ne_zero_one hm1
    have hl : f.header.len = requestLen 0x0D := hg.len_of_payload hpay rfl
    have hop : ∀ t : State, f.header.len ≠ 0 → t.operate f.header (fun i => f.payload.getD i 0) =
        t.respond f.header 0x0D (if 3 < p.toNat then .badIndex else .badValue) [] := by
      intro t h0
      rw [State.operate, if_neg h0, hpay]
      change (if m = 0 then _ else if m = 1 then _ else _) = _
      rw [if_neg hm0, if_neg hm1]
      exact State.controlOther_of_len h0 hl t p
    refine (frameEnd_of_choice hg hm hk hdest hu (by rw [hpay]; simp) hop).trans ?_
    split_ifs <;> rfl
  all_goals
    intros
    refine hrow rfl fun t => ?_
    simp only [State.operate, *]
    rfl

end Sys2Proof.Machine
end

section
/-! PROOFS. The receivers of the ports: the start of a frame, its octets, and its end (R122 to R128). -/

namespace Sys2Proof.Machine

/-! ### The alert unit does not look at ports or buffers -/

/-- An offer depends on the ports only through the state of the trunk, and on the pool not at all. -/
theorem State.offerAlert_with {s : State} {ports : PerPort Port} (pool : Pool)
    (h : State.isActive { s with ports := ports } .p0 = s.isActive .p0) :
    State.offerAlert { s with ports := ports, pool := pool } = { s.offerAlert with ports := ports, pool := pool } := by
  have hadmits : ∀ i, State.admits { s with ports := ports, pool := pool } i = s.admits i :=
    fun i => State.admits_congr h rfl i
  unfold State.offerAlert
  cases s.alerts.list with
  | nil => rfl
  | cons e rest =>
    dsimp only
    rw [hadmits]
    by_cases hdue : s.alerts.dest ≠ 0 ∧ s.alerts.offered = false ∧ s.admits (.alert (s.alertItem e)) = true
    · rw [if_pos hdue]
      exact if_pos hdue
    · rw [if_neg hdue]
      exact if_neg hdue

/-- A raised alert depends on the ports only through the state of the trunk, and on the pool not at all. -/
theorem State.raise_with {s : State} {ports : PerPort Port} (pool : Pool) (k : AlertKind) (a : Octet)
    (h : State.isActive { s with ports := ports } .p0 = s.isActive .p0) :
    State.raise { s with ports := ports, pool := pool } k a =
      { s.raise k a with ports := ports, pool := pool } :=
  State.offerAlert_with (s := { s with alerts := s.alerts.add k a }) pool h

/-! ### The start of a frame (R122, R95) -/

section StartFrame

variable {s t : State} {p : PortId} {l : Live} {dt : Nat}

theorem State.startFrame_of_granted {b : BufId} (h : s.claim p = (some b, t)) (l : Live) (o : Octet) :
    s.startFrame p l o = { t.setRx p l (.collect b) with pool := t.pool.store b o } := by
  rw [State.startFrame, h]

theorem State.startFrame_of_refused (h : s.claim p = (none, t)) (l : Live) (o : Octet) :
    s.startFrame p l o = (t.setRx p l (.discard 1 none)).countPort p .nobufDrops := by
  rw [State.startFrame, h]

/-- In HUNT a marked character starts a frame on the state that the line timers of the character leave. -/
theorem exec_markedCharacter_of_hunt (hl : s.Hears p l dt) (hrx : l.rx = .hunt) (o : Octet) :
    exec (.markedCharacter dt p o) s = .next (((s.advance dt).setLive p (l.heard (s.now + dt))).startFrame p
      (l.heard (s.now + dt)) o) := by
  rw [exec_markedCharacter_of_hears hl, State.marked_of_hunt (m := l.heard (s.now + dt)) hrx]

/-- The first octet of a frame in a granted buffer. -/
theorem Pool.store_grant {P : Pool} (h : P.buffers.length = 48) (b : BufId) (rest : List BufId) (o : Octet) :
    (P.grant b rest).store b o =
      { buffers := P.buffers.set b.val { octets := [o], refs := 1 }, free := rest, armed := P.armed && !rest.isEmpty } := by
  have hb : (P.grant b rest).buffer b = { octets := [], refs := 1 } := by
    have hset := Pool.buffer_set h b b { octets := [], refs := 1 }
    rw [if_pos rfl] at hset
    exact hset
  rw [Pool.store, hb]
  simp only [Pool.grant, List.set_set, List.nil_append]

end StartFrame

theorem claimNeeds_eq (p : PortId) : claimNeeds p = if p = .p0 then 9 else 1 := by
  cases p <;> rfl

/-- Settles O27: the claim is granted with the alert of the last buffer, granted without, or refused. -/
theorem markedCharacterStartsFrame : Obligations.MarkedCharacterStartsFrame := by
  unfold Obligations.MarkedCharacterStartsFrame
  intro dt p o l s hl hrx enters needs
  have hneeds : claimNeeds p = needs := claimNeeds_eq p
  rw [exec_markedCharacter_of_hunt hl hrx]
  constructor
  · intro b rest hfree hroom hbuffers pool
    rw [← hneeds] at hroom
    constructor
    · intro hquiet
      have hclaim := State.claim_granted (s := (s.advance dt).setLive p (l.heard (s.now + dt))) (p := p) hfree hroom
        hquiet
      have harmed : (s.pool.armed && !rest.isEmpty) = if rest = [] then false else s.pool.armed := by
        cases rest <;> simp
      have hpool : (s.pool.grant b rest).store b o = pool := by rw [Pool.store_grant hbuffers, harmed]
      rw [State.startFrame_of_granted hclaim, ← hpool]
      cases p <;> rfl
    · rintro rfl harmed
      have hone : claimNeeds p ≤ 1 := by rw [hfree] at hroom; exact hroom
      have hclaim := State.claim_last (s := (s.advance dt).setLive p (l.heard (s.now + dt))) (p := p) hfree hone harmed
      have hraise := State.raise_with (s := s.advance dt) (ports := ((s.advance dt).setLive p (l.heard (s.now + dt))).ports)
        (s.pool.grant b []) .poolEmpty 0 (State.isActive_setLive (s.advance dt) p .p0 l (l.heard (s.now + dt)) hl.1.1)
      have hpool : (s.pool.grant b []).store b o = pool := by
        rw [Pool.store_grant hbuffers, List.isEmpty_nil, Bool.not_true, Bool.and_false]
        rfl
      rw [State.startFrame_of_granted hclaim]
      refine congrArg _ ?_
      rw [← hpool]
      refine (congrArg (fun u : State => ({ u.setRx p (l.heard (s.now + dt)) (.collect b) with
        pool := u.pool.store b o } : State)) hraise).trans ?_
      cases p <;> simp [State.setRx, State.setLive, State.setLine, enters, Live.heard] <;> rfl
  · intro hroom
    rw [← hneeds] at hroom
    have hclaim := State.claim_refused (s := (s.advance dt).setLive p (l.heard (s.now + dt))) (p := p) hroom
    rw [State.startFrame_of_refused hclaim]
    cases p <;> rfl

/-! ### A character with marker 0 (R122, R123, R127) -/

section Unmarked

variable {s : State} {p : PortId} {l m : Live} {dt : Nat} {b : BufId} {o : Octet}

theorem exec_marker0Character_of_hears (hl : s.Hears p l dt) (o : Octet) :
    exec (.marker0Character dt p o) s = .next ((s.advance dt).unmarked p o (l.heard (s.now + dt))) :=
  congrArg Host.Outcome.next (State.character_of_hears hl _)

theorem State.unmarked_of_hunt (h : m.rx = .hunt) (s : State) (p : PortId) (o : Octet) :
    s.unmarked p o m = s.setLive p m := by
  rw [State.unmarked, h]

theorem State.unmarked_of_collect (h : m.rx = .collect b) (s : State) (p : PortId) (o : Octet) :
    s.unmarked p o m = s.collectOctet p m b o := by
  rw [State.unmarked, h]

theorem State.unmarked_of_discard {n : Nat} {len : Option Octet} (h : m.rx = .discard n len) (s : State) (p : PortId)
    (o : Octet) : s.unmarked p o m = s.discardOctet p m n len o := by
  rw [State.unmarked, h]

/-- A LEN octet above 56 ends the frame at once (R123). -/
theorem State.collectOctet_of_oversize (hbuffers : s.pool.buffers.length = 48) (hlen : (s.octets b).length = 3)
    (ho : 56 < o.toNat) (p : PortId) (m : Live) :
    s.collectOctet p m b o =
      ((State.setRx { s with pool := s.pool.store b o } p m .hunt).countPort p .malformed).release b := by
  refine if_pos ⟨?_, ho⟩
  rw [show State.octets { s with pool := s.pool.store b o } b = s.octets b ++ [o] from State.octets_store hbuffers]
  simp [hlen]

/-- An octet that neither oversizes nor ends the frame is stored, and nothing else (R123). -/
theorem State.collectOctet_of_stored (hbuffers : s.pool.buffers.length = 48)
    (hsize : ¬ ((s.octets b ++ [o]).length = 4 ∧ 56 < o.toNat))
    (hend : ¬ (4 < (s.octets b ++ [o]).length ∧
      (s.octets b ++ [o]).length = ((s.octets b ++ [o]).getD 3 0).toNat + 6)) (p : PortId) (m : Live) :
    s.collectOctet p m b o = State.setLive { s with pool := s.pool.store b o } p m := by
  have hos : State.octets { s with pool := s.pool.store b o } b = s.octets b ++ [o] := State.octets_store hbuffers
  rw [State.collectOctet, hos, if_neg hsize, if_neg hend]

/-- The last octet of a frame that is not oversize completes the frame (R123, R128). -/
theorem State.collectOctet_of_last (hbuffers : s.pool.buffers.length = 48)
    (hlast : (s.octets b ++ [o]).length = ((s.octets b ++ [o]).getD 3 0).toNat + 6) (p : PortId) (m : Live) :
    s.collectOctet p m b o = State.frameDone { s with pool := s.pool.store b o } p m b := by
  have hos : State.octets { s with pool := s.pool.store b o } b = s.octets b ++ [o] := State.octets_store hbuffers
  have hsize : ¬ ((s.octets b ++ [o]).length = 4 ∧ 56 < o.toNat) := by
    rintro ⟨hfour, -⟩
    omega
  rw [State.collectOctet, hos, if_neg hsize, if_pos ⟨by omega, hlast⟩]

/-- Before the LEN octet a discarded octet is only counted (R127). -/
theorem State.discardOctet_of_early {n : Nat} (h : n < 3) (s : State) (p : PortId) (m : Live) (o : Octet) :
    s.discardOctet p m n none o = s.setRx p m (.discard (n + 1) none) := by
  rw [State.discardOctet, if_neg (by omega)]

/-- The LEN octet of a discarded frame is read (R127). -/
theorem State.discardOctet_of_len (s : State) (p : PortId) (m : Live) (o : Octet) :
    s.discardOctet p m 3 none o = if 56 < o.toNat then s.setRx p m .hunt else s.setRx p m (.discard 4 (some o)) := by
  rw [State.discardOctet, if_pos rfl]

/-- Behind the LEN octet a discarded octet is counted up to the end of the frame (R127). -/
theorem State.discardOctet_of_late {n : Nat} (h : 4 ≤ n) (len : Octet) (s : State) (p : PortId) (m : Live) (o : Octet) :
    s.discardOctet p m n (some len) o =
      if n + 1 = len.toNat + 6 then s.setRx p m .hunt else s.setRx p m (.discard (n + 1) (some len)) := by
  rw [State.discardOctet, if_neg (by omega)]

end Unmarked

/-- Settles O29: what a character with marker 0 is to the receiver in each of its states. -/
theorem marker0CharacterIsStored : Obligations.Marker0CharacterIsStored := by
  unfold Obligations.Marker0CharacterIsStored
  intro dt p o s
  refine ⟨⟨rfl, rfl, rfl⟩, ?_⟩
  intro l hl heard
  have hsame : exec (.oversizeLen dt p o) s = exec (.marker0Character dt p o) s := rfl
  have hends : exec (.discardedFrameEnd dt p o) s = exec (.marker0Character dt p o) s := rfl
  rw [hsame, hends, exec_marker0Character_of_hears hl]
  have hsetRx : ∀ rx, (s.advance dt).setRx p (l.heard (s.now + dt)) rx = heard rx := fun _ => rfl
  refine ⟨?hunt, ?stored, ?early, ?len, ?counted, ?oversize, ?discardedOversize, ?discardedEnd⟩
  case hunt =>
    intro hrx
    rw [State.unmarked_of_hunt (m := l.heard (s.now + dt)) hrx, ← hsetRx, State.setRx]
    exact congrArg (fun rx => Host.Outcome.next ((s.advance dt).setLive p { l.heard (s.now + dt) with rx := rx })) hrx
  case stored =>
    intro b hrx hbuffers os hsize hend
    rw [State.unmarked_of_collect (m := l.heard (s.now + dt)) hrx,
      State.collectOctet_of_stored (s := s.advance dt) hbuffers hsize hend, ← hsetRx, State.setRx]
    exact congrArg (fun rx => Host.Outcome.next (State.setLive { s.advance dt with pool := s.pool.store b o } p
      { l.heard (s.now + dt) with rx := rx })) hrx
  case early =>
    intro n hrx hn
    rw [State.unmarked_of_discard (m := l.heard (s.now + dt)) hrx, State.discardOctet_of_early hn, hsetRx]
  case len =>
    intro hrx ho
    rw [State.unmarked_of_discard (m := l.heard (s.now + dt)) hrx, State.discardOctet_of_len,
      if_neg (Nat.not_lt.mpr ho), hsetRx]
  case counted =>
    intro n len hrx hn hnot
    rw [State.unmarked_of_discard (m := l.heard (s.now + dt)) hrx, State.discardOctet_of_late hn, if_neg hnot, hsetRx]
  case oversize =>
    intro b hrx hbuffers hlen ho
    rw [State.unmarked_of_collect (m := l.heard (s.now + dt)) hrx,
      State.collectOctet_of_oversize (s := s.advance dt) hbuffers hlen ho]
    rfl
  case discardedOversize =>
    intro hrx ho
    rw [State.unmarked_of_discard (m := l.heard (s.now + dt)) hrx, State.discardOctet_of_len, if_pos ho, hsetRx]
  case discardedEnd =>
    intro n len hrx hn hlast
    rw [State.unmarked_of_discard (m := l.heard (s.now + dt)) hrx, State.discardOctet_of_late hn, if_pos hlast, hsetRx]

/-! ### The end of a frame (R76, R128) -/

theorem Frame.kind_eq_reserved_iff (f : Frame) : f.kind = .reserved ↔ 4 ≤ (f.ctl.extractLsb' 0 3).toNat := by
  unfold Frame.kind
  generalize (f.ctl.extractLsb' 0 3).toNat = n
  match n with
  | 0 => decide
  | 1 => decide
  | 2 => decide
  | 3 => decide
  | n + 4 => simp

theorem Frame.kind_eq_notice_iff (f : Frame) : f.kind = .notice ↔ (f.ctl.extractLsb' 0 3).toNat = 0 := by
  unfold Frame.kind
  generalize (f.ctl.extractLsb' 0 3).toNat = n
  match n with
  | 0 => decide
  | 1 => decide
  | 2 => decide
  | 3 => decide
  | n + 4 => simp

/-- What makes a frame malformed (R76, R142). -/
theorem Frame.malformed_iff (f : Frame) :
    f.malformed = true ↔ 4 ≤ (f.ctl.extractLsb' 0 3).toNat ∨ f.dest = 0x00#8 ∨ f.src = 0x00#8 ∨ f.src = 0xFF#8 ∨
      f.src = f.dest ∨ (f.dest = 0xFF#8 ∧ (f.ctl.extractLsb' 0 3).toNat ≠ 0) := by
  simp only [Frame.malformed, Bool.or_eq_true, Bool.and_eq_true, decide_eq_true_eq, Bool.not_eq_true',
    decide_eq_false_iff_not, Frame.kind_eq_reserved_iff, Frame.kind_eq_notice_iff, or_assoc, ne_eq]

/-- A malformed frame with a good check is counted, and its buffer released (R76). -/
theorem frameEnd_of_malformed {s : State} {dt : Nat} {p : PortId} {l : Live} {b : BufId} {o : Octet} {f : Frame}
    (hg : s.GoodFrameEnds dt p l b o f) (hm : f.malformed = true) :
    exec (.frameEnd dt p o) s = .next (((s.atFrameEnd dt p l b o).countPort p .malformed).release b) := by
  obtain ⟨-, -, hbuffers, -, -, hf⟩ := id hg
  have hframe : frameOf ((s.atFrameEnd dt p l b o).octets b) = f := by
    rw [State.octets_atFrameEnd dt p l b o hbuffers, hf]
  rw [frameEnd_eq_dispatch hg, State.dispatch, hframe, if_pos hm]

/-- Settles O30: the check decides first, and then the form of the frame. -/
theorem frameEndChecksTheFrame : Obligations.FrameEndChecksTheFrame := by
  unfold Obligations.FrameEndChecksTheFrame
  intro dt p l b o s
  constructor
  · intro hl hrx hbuffers hlast hbad
    have hends : exec (.frameEnd dt p o) s = exec (.marker0Character dt p o) s := rfl
    have hos : State.octets { s.advance dt with pool := s.pool.store b o } b = s.octets b ++ [o] :=
      State.octets_store (s := s.advance dt) hbuffers
    rw [hends, exec_marker0Character_of_hears hl, State.unmarked_of_collect (m := l.heard (s.now + dt)) hrx,
      State.collectOctet_of_last (s := s.advance dt) hbuffers hlast, State.frameDone]
    refine congrArg _ ((if_neg ?_).trans ?_)
    · rw [Bool.not_eq_true, ← hbad]
      exact congrArg goodCheck hos
    · rfl
  · intro f hg
    exact ⟨f.malformed_iff.symm, frameEnd_of_malformed hg⟩

/-! ### The early end of a frame (R113, R124, R125) -/

section EarlyEnd

variable {s : State} {p : PortId} {l : Live}

theorem State.listening_of_listens_now (hl : s.Listens p l) (act : Live → State → State) :
    s.listening p act = act l s := by
  obtain ⟨hlive, hquiet⟩ := hl
  simp [State.listening, hlive, hquiet]

/-- A character that would have begun before the end of the last busy period is not taken (R113). -/
theorem State.character_of_early {dt : Nat} (hl : s.Listens p l) (hearly : s.now + dt < l.idleFrom + s.sampleTime p)
    (act : Live → State → State) : (s.advance dt).character p act = s.advance dt := by
  unfold State.character
  rw [State.listening_of_listens hl]
  exact if_neg (Nat.not_le.mpr hearly)

/-- What the early end of a frame makes of the part, once the line timers are set. -/
theorem State.endEarly_of_rx {m : Live} (h : m.rx = l.rx) (u : State) :
    (u.setLive p m).endEarly p m = (match l.rx with
      | .hunt => u.setLive p m
      | .collect b => ((u.setLive p { m with rx := .hunt }).countPort p .truncated).release b
      | .discard _ _ => u.setLive p { m with rx := .hunt }) := by
  cases hrx : l.rx with
  | hunt => rw [State.endEarly_of_hunt (h.trans hrx)]
  | collect b => rw [State.endEarly_of_collect (h.trans hrx), State.setRx, State.setLive_setLive]
  | discard n len => rw [State.endEarly_of_discard (h.trans hrx), State.setRx, State.setLive_setLive]

/-- A port that listens still does once the event has told whether a character is in progress. -/
theorem State.Listens.lineSeen (hl : s.Listens p l) (dt : Nat) (busy : Bool) :
    ((s.advance dt).lineSeen p busy).Listens p { l with busy := l.busy || busy } := by
  obtain ⟨hlive, hquiet⟩ := hl
  rw [State.lineSeen_of_live (s := s.advance dt) hlive]
  exact ⟨State.live?_setLive _ _ _, hquiet⟩

end EarlyEnd

/-- Settles O31: a framing error and a gap end the frame early, under the conditions of the line timers. -/
theorem gapOrFramingErrorEndsFrameEarly : Obligations.GapOrFramingErrorEndsFrameEarly := by
  unfold Obligations.GapOrFramingErrorEndsFrameEarly
  intro dt p low busy l s hl after m
  have hgap : exec (.gapExpiry { dt := dt, busy := busy } p) s =
      .next (if m.idleFor (2 * s.charTime p + 1) (s.now + dt) then ((s.advance dt).setLive p m).endEarly p m
        else (s.advance dt).setLive p m) := by
    refine congrArg Host.Outcome.next ((State.listening_of_listens_now (hl.lineSeen dt busy) _).trans ?_)
    rw [State.lineSeen_of_live (s := s.advance dt) hl.1]
    have hct : ((s.advance dt).setLive p m).charTime p = s.charTime p := by cases p <;> rfl
    have hnow : ((s.advance dt).setLive p m).now = s.now + dt := rfl
    rw [hct, hnow]
  refine ⟨?error, ?early, ?gap, ?alive⟩
  case error =>
    intro hlate
    have herror : exec (.framingError dt p low) s = .next (((s.advance dt).setLive p after).endEarly p after) :=
      congrArg Host.Outcome.next (State.character_of_hears ⟨hl, hlate⟩ _)
    rw [herror, State.endEarly_of_rx (l := l) (m := after) rfl] <;> rfl
  case early =>
    intro hearly
    have hnothing : ∀ act : Live → State → State, (s.advance dt).character p act = s.advance dt :=
      State.character_of_early hl hearly
    exact ⟨congrArg _ (hnothing _), fun o => ⟨congrArg _ (hnothing _), congrArg _ (hnothing _)⟩⟩
  case gap =>
    intro hquiet hlong
    have hidle : m.idleFor (2 * s.charTime p + 1) (s.now + dt) = true := by
      rw [Live.idleFor, hquiet, Bool.not_false, Bool.true_and, decide_eq_true_eq]
      have hfrom : m.idleFrom = l.idleFrom := rfl
      omega
    rw [hgap, if_pos hidle, State.endEarly_of_rx (l := l) (m := m) rfl] <;> rfl
  case alive =>
    intro hnot
    have hbusy : ¬ m.idleFor (2 * s.charTime p + 1) (s.now + dt) = true := by
      intro hidle
      rw [Live.idleFor, Bool.and_eq_true, Bool.not_eq_true', decide_eq_true_eq] at hidle
      obtain ⟨hquiet, hlong⟩ := hidle
      rcases hnot with hbusy | hsoon
      · exact Bool.false_ne_true (hquiet.symm.trans hbusy)
      · have hfrom : m.idleFrom = l.idleFrom := rfl
        omega
    rw [hgap, if_neg hbusy]

end Sys2Proof.Machine
end

section
/-! PROOFS. Frames that end on the trunk: what is left alone, notices, requests that open an exchange or none (R77 to
R87, R27 to R29, R55, R56). -/

namespace Sys2Proof.Machine

/-! ### Where a trunk frame goes (R77) -/

/-- The own address is none of the addresses from 0xF8 on (R151). -/
theorem State.ownAddress_le (s : State) : s.ownAddress.toNat ≤ 0xF7 := by
  unfold State.ownAddress
  generalize s.addr = a
  revert a
  decide

section TrunkFrame

variable {s : State} {f : Frame}

/-- A frame to a station or another bridge goes by its kind (R77). -/
theorem State.trunkFrame_of_station (hst : f.ToStation s.ownAddress) (b : BufId) :
    s.trunkFrame f b = (match f.kind with
      | .notice => s.directedNotice f b (s.resolve f.dest)
      | .request => s.trunkRequest f b (s.resolve f.dest)
      | .response => s.release b
      | .refusal => s.release b
      | .reserved => s.release b) := by
  obtain ⟨-, hown, hlow⟩ := hst
  have hff : f.dest ≠ 0xFF#8 := by
    rintro hff
    rw [hff] at hlow
    exact absurd hlow (by decide)
  have hrequester : ¬ isRequesterAddress f.dest = true := by
    rw [isRequesterAddress_iff]
    omega
  rw [State.trunkFrame, if_neg hown, if_neg hff, if_neg hrequester] <;> rfl

theorem State.trunkFrame_of_request (hst : f.ToStation s.ownAddress) (hk : f.kind = .request) (b : BufId) :
    s.trunkFrame f b = s.trunkRequest f b (s.resolve f.dest) := by
  rw [State.trunkFrame_of_station hst, hk]

theorem State.trunkFrame_of_notice (hst : f.ToStation s.ownAddress) (hk : f.kind = .notice) (b : BufId) :
    s.trunkFrame f b = s.directedNotice f b (s.resolve f.dest) := by
  rw [State.trunkFrame_of_station hst, hk]

/-- A broadcast goes to its targets, whatever its kind (R81). -/
theorem State.trunkFrame_of_broadcast (hdest : f.dest = 0xFF#8) (b : BufId) :
    s.trunkFrame f b = s.placeNotices f b s.broadcastTargets := by
  have hown : f.dest ≠ s.ownAddress := by
    intro hown
    have hle := s.ownAddress_le
    rw [← hown, hdest] at hle
    exact absurd hle (by decide)
  rw [State.trunkFrame, if_neg hown, if_pos hdest]

/-- A frame to a requester's address is left alone (R77). -/
theorem State.trunkFrame_of_requester (hlow : 0xF8 ≤ f.dest.toNat) (hhigh : f.dest.toNat ≤ 0xFE) (b : BufId) :
    s.trunkFrame f b = s.release b := by
  have hown : f.dest ≠ s.ownAddress := by
    intro hown
    have hle := s.ownAddress_le
    rw [← hown] at hle
    omega
  have hff : f.dest ≠ 0xFF#8 := by
    rintro hff
    rw [hff] at hhigh
    exact absurd hhigh (by decide)
  rw [State.trunkFrame, if_neg hown, if_neg hff, if_pos ((isRequesterAddress_iff _).mpr ⟨hlow, hhigh⟩)]

/-- A frame to the own address that is no request is left alone (R80). -/
theorem State.trunkFrame_of_own (hown : f.dest = s.ownAddress) (hk : f.kind ≠ .request) (b : BufId) :
    s.trunkFrame f b = s.release b := by
  rw [State.trunkFrame, if_pos hown, State.toOwn]
  cases hkind : f.kind with
  | request => exact absurd hkind hk
  | notice => rfl
  | response => rfl
  | refusal => rfl
  | reserved => rfl

end TrunkFrame

section GoodFrame

variable {s : State} {dt : Nat} {l : Live} {b : BufId} {o : Octet} {f : Frame}

theorem State.resolve_atFrameEnd (s : State) (dt : Nat) (p : PortId) (l : Live) (b : BufId) (o a : Octet) :
    (s.atFrameEnd dt p l b o).resolve a = s.resolve a := rfl

/-- A well-formed frame that ends on the trunk goes where R77 puts it. -/
theorem frameEnd_of_trunk (hg : s.GoodFrameEnds dt .p0 l b o f) (hm : f.malformed = false) :
    exec (.frameEnd dt .p0 o) s = .next ((s.atFrameEnd dt .p0 l b o).trunkFrame f b) :=
  frameEnd_of_wellFormed hg hm

theorem frameEnd_of_stationRequest (hg : s.GoodFrameEnds dt .p0 l b o f) (hst : f.ToStation s.ownAddress)
    (hk : f.kind = .request) :
    exec (.frameEnd dt .p0 o) s = .next ((s.atFrameEnd dt .p0 l b o).trunkRequest f b (s.resolve f.dest)) := by
  rw [frameEnd_of_trunk hg hst.1, State.trunkFrame_of_request (s := s.atFrameEnd dt .p0 l b o) hst hk,
    State.resolve_atFrameEnd]

theorem frameEnd_of_stationNotice (hg : s.GoodFrameEnds dt .p0 l b o f) (hst : f.ToStation s.ownAddress)
    (hk : f.kind = .notice) :
    exec (.frameEnd dt .p0 o) s = .next ((s.atFrameEnd dt .p0 l b o).directedNotice f b (s.resolve f.dest)) := by
  rw [frameEnd_of_trunk hg hst.1, State.trunkFrame_of_notice (s := s.atFrameEnd dt .p0 l b o) hst hk,
    State.resolve_atFrameEnd]

theorem State.GoodFrameEnds.isActive {p : PortId} (hg : s.GoodFrameEnds dt p l b o f) (q : PortId) :
    (s.atFrameEnd dt p l b o).isActive q = s.isActive q := by
  obtain ⟨⟨⟨hlive, -⟩, -⟩, -⟩ := hg
  exact State.isActive_atFrameEnd hlive dt b o q

end GoodFrame

/-- Settles O33: each of the five kinds of frame reaches the release of its buffer and nothing else. -/
theorem ignoredTrunkFramesAreReleased : Obligations.IgnoredTrunkFramesAreReleased := by
  unfold Obligations.IgnoredTrunkFramesAreReleased
  intro dt l b o f s hg hm hcase
  rcases hcase with ⟨hlow, hhigh⟩ | ⟨hown, hk⟩ | ⟨hst, hk⟩ | ⟨hst, hk, hres⟩ | ⟨hst, hk, hres⟩
  · rw [frameEnd_of_trunk hg hm, State.trunkFrame_of_requester hlow hhigh]
  · rw [frameEnd_of_trunk hg hm, State.trunkFrame_of_own (s := s.atFrameEnd dt .p0 l b o) hown hk]
  · rw [frameEnd_of_trunk hg hm, State.trunkFrame_of_station (s := s.atFrameEnd dt .p0 l b o) hst]
    rcases hk with hk | hk <;> rw [hk]
  · rw [frameEnd_of_stationRequest hg hst hk]
    rcases hres with hres | hres <;> rw [hres] <;> rfl
  · rw [frameEnd_of_stationNotice hg hst hk]
    rcases hres with hres | hres | hres | hres <;> rw [hres] <;> rfl

/-! ### Requests that open a DIRECT exchange, or none (R27 to R29, R86) -/


section Requests

variable {s : State} {f : Frame} {b : BufId} {q : BranchId} {window : Octet} {retries : Fin 4} {viaLearned : Bool}

theorem State.keyInUse_of_free (h : s.KeyFree { requester := f.src, station := f.dest, tag := f.tag }) :
    ¬ s.keyInUse f.requestKey = true := by
  rw [Bool.not_eq_true]
  exact State.keyInUse_of_keyFree h

theorem State.openDirect_of_duplicate (h : s.keyInUse f.requestKey = true) :
    s.openDirect f b q window retries viaLearned = (s.release b).count .duplicates := by
  rw [State.openDirect, if_pos h]

theorem State.openDirect_of_portDown (hkey : ¬ s.keyInUse f.requestKey = true)
    (hdown : s.isActive (branchPort q) = false) :
    s.openDirect f b q window retries viaLearned = s.refuseAtOnce b (f.refusal .portDown) := by
  rw [State.openDirect, if_neg hkey, if_pos hdown]

theorem State.openDirect_of_full (hkey : ¬ s.keyInUse f.requestKey = true) (hup : s.isActive (branchPort q) = true)
    (hfull : s.freeRecord = none) :
    s.openDirect f b q window retries viaLearned = s.refuseAtOnce b (f.refusal .noExchange) := by
  rw [State.openDirect, if_neg hkey, if_neg (by rw [hup]; decide), hfull]

theorem State.openDirect_of_queueFull {x : SlotNo} (hkey : ¬ s.keyInUse f.requestKey = true)
    (hup : s.isActive (branchPort q) = true) (hx : s.freeRecord = some x) (hroom : ¬ (s.branch q).queue.length < 8) :
    s.openDirect f b q window retries viaLearned = s.refuseAtOnce b (f.refusal .queueFull) := by
  rw [State.openDirect, if_neg hkey, if_neg (by rw [hup]; decide), hx]
  exact if_neg hroom

theorem State.openDirect_of_free {x : SlotNo} (hkey : ¬ s.keyInUse f.requestKey = true)
    (hup : s.isActive (branchPort q) = true) (hx : s.freeRecord = some x) (hroom : (s.branch q).queue.length < 8) :
    s.openDirect f b q window retries viaLearned = s.openDirectAt x f b q window retries viaLearned := by
  rw [State.openDirect, if_neg hkey, if_neg (by rw [hup]; decide), hx]
  exact if_pos hroom

/-- A record that is not FREE everywhere but somewhere: there is a lowest FREE one. -/
theorem State.freeRecord_of_some_free (h : ∃ x, s.record x = none) : ∃ x, s.freeRecord = some x := by
  obtain ⟨x, hx⟩ := h
  rw [State.freeRecord, ← Option.isSome_iff_exists, List.find?_isSome]
  exact ⟨x, mem_allSlots x, by rw [hx]; rfl⟩

/-- An immediate refusal is admitted to an ACTIVE trunk with room in its class (R107). -/
theorem State.admits_immediate_iff (s : State) (r : RefusalItem) :
    s.admits (.immediate r) = true ↔ s.isActive .p0 = true ∧ classCount s.trunkQueue .immediate < 4 := by
  rw [State.admits_iff]
  exact ⟨fun ⟨hactive, hroom, _⟩ => ⟨hactive, hroom⟩, fun ⟨hactive, hroom⟩ => ⟨hactive, hroom, rfl⟩⟩

end Requests

theorem State.GoodFrameEnds.trunk_active {s : State} {dt : Nat} {l : Live} {b : BufId} {o : Octet} {f : Frame}
    (hg : s.GoodFrameEnds dt .p0 l b o f) : s.isActive .p0 = true := by
  obtain ⟨⟨⟨hlive, -⟩, -⟩, -⟩ := hg
  rw [State.isActive, hlive]
  rfl

/-- Settles O35: the request passes every check of R27 and opens its exchange. -/
theorem forwardedRequestOpensDirectExchange : Obligations.ForwardedRequestOpensDirectExchange := by
  unfold Obligations.ForwardedRequestOpensDirectExchange
  intro dt l b o f q window retries viaLearned x s hg hst hk hres hkey hup hx hsound hroom
  have hopen := State.openDirect_of_free (s := s.atFrameEnd dt .p0 l b o) (f := f) (b := b) (q := q) (window := window)
    (retries := retries) (viaLearned := viaLearned) (State.keyInUse_of_free (s := s.atFrameEnd dt .p0 l b o) hkey)
    ((hg.isActive _).trans hup) (State.freeRecord_of_lowestFree (s := s.atFrameEnd dt .p0 l b o) hx) hroom
  rw [frameEnd_of_stationRequest hg hst hk, hres, ← insertItem_eq_placed hsound]
  exact congrArg _ hopen

/-- Settles O36: the reasons of a refusal in the order of R27, and the room in the IMMEDIATE class. -/
theorem requestWithoutExchangeIsRefusedOrDiscarded : Obligations.RequestWithoutExchangeIsRefusedOrDiscarded := by
  unfold Obligations.RequestWithoutExchangeIsRefusedOrDiscarded
  intro dt l b o f s hg hst hk key run u
  have hrun : run = .next ((s.atFrameEnd dt .p0 l b o).trunkRequest f b (s.resolve f.dest)) :=
    frameEnd_of_stationRequest hg hst hk
  constructor
  · intro x e hres hx hekey
    have hinUse : (s.atFrameEnd dt .p0 l b o).keyInUse f.requestKey = true := by
      have := State.keyInUse_of_record (s := s.atFrameEnd dt .p0 l b o) hx
      rwa [hekey] at this
    rcases hres with ⟨q, w, r, v, hres⟩ | hres
    · rw [hrun, hres]
      exact congrArg _ (State.openDirect_of_duplicate hinUse)
    · rw [hrun, hres]
      exact congrArg _ (if_pos hinUse)
  · intro reason hreason
    have hrefused : run = .next ((s.atFrameEnd dt .p0 l b o).refuseAtOnce b (f.refusal reason)) := by
      rcases hreason with ⟨rfl, hres⟩ | ⟨rfl, hres⟩ | ⟨q, w, r, v, hres, hkey, hreason⟩
      · rw [hrun, hres]; rfl
      · rw [hrun, hres]; rfl
      · have hfree := State.keyInUse_of_free (s := s.atFrameEnd dt .p0 l b o) hkey
        rw [hrun, hres]
        rcases hreason with ⟨rfl, hdown⟩ | ⟨rfl, hup, hfull⟩ | ⟨rfl, hup, hsome, hlong⟩
        · exact congrArg _ (State.openDirect_of_portDown hfree ((hg.isActive _).trans hdown))
        · exact congrArg _ (State.openDirect_of_full hfree ((hg.isActive _).trans hup)
            (State.freeRecord_of_full (s := s.atFrameEnd dt .p0 l b o) hfull))
        · obtain ⟨x, hx⟩ := State.freeRecord_of_some_free (s := s.atFrameEnd dt .p0 l b o) hsome
          exact congrArg _ (State.openDirect_of_queueFull hfree ((hg.isActive _).trans hup) hx (Nat.not_lt.mpr hlong))
    have hadmits := State.admits_immediate_iff (s.atFrameEnd dt .p0 l b o) (f.refusal reason)
    rw [hg.isActive] at hadmits
    constructor
    · intro hroom
      rw [hrefused, State.refuseAtOnce_of_admits b (hadmits.mpr ⟨hg.trunk_active, hroom⟩)]
      rfl
    · intro hfull
      rw [hrefused, State.refuseAtOnce_of_full b (Bool.eq_false_iff.mpr fun hadm =>
        Nat.not_lt.mpr hfull (hadmits.mp hadm).2)]

/-! ### Items placed on the branches (R56, R84, R100) -/

/-- The item `i` joins the queue of each branch that `pick` names, with a reference on its buffer for each: all that
happens to branches and pool from `s` to `t`, and only the ports may differ otherwise. -/
structure State.Places (s t : State) (i : BranchItem) (pick : BranchId → Bool) : Prop where
  branch : ∀ q, t.branch q = if pick q then { s.branch q with queue := insertItem (s.branch q).queue i } else s.branch q
  length : t.pool.buffers.length = 48
  refs : (t.pool.buffer i.buf).refs = (s.pool.buffer i.buf).refs + countBranches pick
  others : ∀ a, a ≠ i.buf → t.pool.buffer a = s.pool.buffer a
  free : t.pool.free = s.pool.free
  armed : t.pool.armed = s.pool.armed
  same : countBranches pick = 0 → t.pool = s.pool
  frame : t = { s with ports := t.ports, branches := t.branches, pool := t.pool }

theorem Pool.buffer_retain_of_ne {P : Pool} (h : P.buffers.length = 48) {a b : BufId} (hne : a ≠ b) :
    (P.retain b).buffer a = P.buffer a := by
  rw [Pool.retain, Pool.buffer_set h, if_neg hne]

theorem Pool.buffer_release_of_ne {P : Pool} (h : P.buffers.length = 48) {a b : BufId} (hne : a ≠ b) :
    (P.release b).buffer a = P.buffer a := by
  unfold Pool.release
  split_ifs
  · rfl
  · have hset := Pool.buffer_set h a b { P.buffer b with refs := 0 }
    rw [if_neg hne] at hset
    exact hset
  · rw [Pool.buffer_set h, if_neg hne]

/-- A branch more, where it is not counted yet. -/
theorem countBranches_or {pick : BranchId → Bool} {q : BranchId} (hq : pick q = false) :
    countBranches (fun c => pick c || decide (c = q)) = countBranches pick + 1 := by
  cases q <;> simp [countBranches, hq] <;> omega

namespace State.Places

variable {s t : State} {i : BranchItem} {pick : BranchId → Bool}

theorem refl (h : s.pool.buffers.length = 48) (i : BranchItem) : s.Places s i (fun _ => false) where
  branch _ := rfl
  length := h
  refs := rfl
  others _ _ := rfl
  free := rfl
  armed := rfl
  same _ := rfl
  frame := rfl

/-- A change of the ports places nothing. -/
theorem setPort (h : s.Places t i pick) (p : PortId) (x : Port) : s.Places (t.setPort p x) i pick where
  branch := h.branch
  length := h.length
  refs := h.refs
  others := h.others
  free := h.free
  armed := h.armed
  same := h.same
  frame := by
    have hframe := h.frame
    rw [hframe]
    rfl

/-- One more item is placed. -/
theorem append (h : s.Places t i pick) {q : BranchId} (hq : pick q = false) :
    s.Places (t.appendItem q i) i (fun c => pick c || decide (c = q)) where
  branch c := by
    rw [State.appendItem, State.branch_setBranch]
    have hsame : (t.retain i.buf).branch c = t.branch c := rfl
    by_cases hc : c = q
    · subst hc
      have hbranch := h.branch c
      rw [hq, if_neg Bool.false_ne_true] at hbranch
      simp [hbranch]
    · rw [if_neg hc, hsame, h.branch c, decide_eq_false hc, Bool.or_false]
  length := (Pool.length_retain t.pool i.buf).trans h.length
  refs := by
    have hrefs : ((t.pool.retain i.buf).buffer i.buf).refs = (t.pool.buffer i.buf).refs + 1 := by
      rw [Pool.refs_retain h.length, if_pos rfl]
    rw [countBranches_or hq, ← Nat.add_assoc, ← h.refs, ← hrefs]
    rfl
  others a ha := (Pool.buffer_retain_of_ne h.length ha).trans (h.others a ha)
  free := h.free
  armed := h.armed
  same hzero := by
    rw [countBranches_or hq] at hzero
    exact absurd hzero (Nat.succ_ne_zero _)
  frame := by
    have hframe := h.frame
    rw [hframe]
    rfl

theorem congr {pick' : BranchId → Bool} (h : s.Places t i pick) (hp : pick = pick') : s.Places t i pick' := hp ▸ h

end State.Places

/-! ### Notices (R81, R83, R84) -/

/-- A drop is counted on the port of each branch that `drops` names, and nothing else changes in a port. -/
structure State.Drops (s t : State) (drops : BranchId → Bool) : Prop where
  branch : ∀ q, t.port (branchPort q) =
    if drops q then { s.port (branchPort q) with
      counters := portCounterBump (s.port (branchPort q)).counters .queueDrops }
    else s.port (branchPort q)
  trunk : t.port .p0 = s.port .p0

theorem State.Drops.refl (s : State) : s.Drops s (fun _ => false) := ⟨fun _ => rfl, rfl⟩

theorem State.Drops.line {s t : State} {drops : BranchId → Bool} (h : s.Drops t drops) (q : BranchId) :
    (t.port (branchPort q)).line = (s.port (branchPort q)).line := by
  rw [h.branch q]
  split_ifs <;> rfl

theorem State.Drops.isActive {s t : State} {drops : BranchId → Bool} (h : s.Drops t drops) (q : BranchId) :
    t.isActive (branchPort q) = s.isActive (branchPort q) :=
  congrArg (fun l : Line => l.live?.isSome) (h.line q)

/-- The drop is counted on one branch more. -/
theorem State.Drops.count {s t : State} {drops : BranchId → Bool} (h : s.Drops t drops) {q : BranchId}
    (hq : drops q = false) :
    s.Drops (t.countPort (branchPort q) .queueDrops) (fun c => drops c || decide (c = q)) where
  branch c := by
    rw [State.countPort, State.port_setPort]
    by_cases hc : c = q
    · subst hc
      simp [h.branch c, hq]
    · rw [if_neg (fun he => hc (branchPort_injective he)), h.branch c, decide_eq_false hc, Bool.or_false]
  trunk := by
    rw [State.countPort, State.port_setPort, if_neg (branchPort_ne_p0 q).symm, h.trunk]

theorem State.Drops.congr {s t : State} {drops drops' : BranchId → Bool} (h : s.Drops t drops) (hd : drops = drops') :
    s.Drops t drops' := hd ▸ h

section Notices

variable {s : State} {f : Frame} {b : BufId}

/-- The item of a notice copy. -/
def noticeItem (f : Frame) (b : BufId) : BranchItem := { kind := .notice, urgent := f.urgent, buf := b }

/-- Copies are placed at the targets with room, and drops counted at the others. -/
theorem State.placeNotices_foldl (targets : List BranchId) (hnodup : targets.Nodup) :
    ∀ (t : State) (pick drops : BranchId → Bool), s.Places t (noticeItem f b) pick → s.Drops t drops →
      (∀ q ∈ targets, pick q = false ∧ drops q = false) →
      s.Places (targets.foldl (State.placeNotice f b) t) (noticeItem f b)
        (fun q => pick q || (decide (q ∈ targets) && s.branchHasRoom q)) ∧
      s.Drops (targets.foldl (State.placeNotice f b) t)
        (fun q => drops q || (decide (q ∈ targets) && !s.branchHasRoom q)) := by
  induction targets with
  | nil =>
    intro t pick drops hplaces hdrops _
    exact ⟨hplaces.congr (by simp), hdrops.congr (by simp)⟩
  | cons q rest ih =>
    intro t pick drops hplaces hdrops hnew
    obtain ⟨hq, hrest⟩ := List.nodup_cons.mp hnodup
    obtain ⟨hpick, hdrop⟩ := hnew q (List.mem_cons_self ..)
    have hqueue : t.branch q = s.branch q := by rw [hplaces.branch q, hpick, if_neg Bool.false_ne_true]
    have hroom : t.branchHasRoom q = s.branchHasRoom q := by
      rw [State.branchHasRoom, State.branchHasRoom, hdrops.isActive, hqueue]
    have hlater : ∀ c ∈ rest, pick c = false ∧ drops c = false ∧ c ≠ q := fun c hc =>
      ⟨(hnew c (List.mem_cons_of_mem _ hc)).1, (hnew c (List.mem_cons_of_mem _ hc)).2, fun he => hq (he ▸ hc)⟩
    rw [List.foldl_cons, State.placeNotice, hroom]
    cases hr : s.branchHasRoom q with
    | true =>
      rw [if_pos rfl]
      obtain ⟨hp, hd⟩ := ih hrest (t.appendItem q (noticeItem f b)) _ drops (hplaces.append hpick)
        ⟨hdrops.branch, hdrops.trunk⟩ (fun c hc => by simp [hlater c hc])
      refine ⟨hp.congr (funext fun c => ?_), hd.congr (funext fun c => ?_)⟩
      · by_cases hc : c = q
        · subst hc; simp [hr]
        · simp [hc]
      · by_cases hc : c = q
        · subst hc; simp [hr]
        · simp [hc]
    | false =>
      rw [if_neg Bool.false_ne_true]
      obtain ⟨hp, hd⟩ := ih hrest (t.countPort (branchPort q) .queueDrops) pick _ (hplaces.setPort _ _)
        (hdrops.count hdrop) (fun c hc => by simp [hlater c hc])
      refine ⟨hp.congr (funext fun c => ?_), hd.congr (funext fun c => ?_)⟩
      · by_cases hc : c = q
        · subst hc; simp [hr]
        · simp [hc]
      · by_cases hc : c = q
        · subst hc; simp [hr]
        · simp [hc]

/-- Where the receiver alone holds the notice, the count of its buffer ends at the number of copies (R84). -/
theorem State.Places.release_pool {t : State} {pick : BranchId → Bool} (h : s.Places t (noticeItem f b) pick)
    (hone : (s.pool.buffer b).refs = 1) :
    if countBranches pick = 0 then t.pool.release b = s.pool.release b
    else ((t.pool.release b).buffer b).refs = countBranches pick ∧ (t.pool.release b).free = s.pool.free ∧
      ∀ a, a ≠ b → (t.pool.release b).buffer a = s.pool.buffer a := by
  have hrefs : (t.pool.buffer b).refs = 1 + countBranches pick := h.refs.trans (by rw [← hone]; rfl)
  split_ifs with hnone
  · rw [h.same hnone]
  · refine ⟨?_, ?_, fun a ha => ?_⟩
    · rw [Pool.refs_release h.length, if_pos rfl]
      omega
    · rw [Pool.release, if_neg (by omega), if_neg (by omega)]
      exact h.free
    · rw [Pool.buffer_release_of_ne h.length ha]
      exact h.others a ha

/-- The copies and drops of a notice for a list of targets. -/
theorem State.placeNotices_spec (hlength : s.pool.buffers.length = 48) {targets : List BranchId}
    (hnodup : targets.Nodup) :
    ∃ w, s.placeNotices f b targets = w.release b ∧
      s.Places w (noticeItem f b) (fun q => decide (q ∈ targets) && s.branchHasRoom q) ∧
      s.Drops w (fun q => decide (q ∈ targets) && !s.branchHasRoom q) := by
  obtain ⟨hplaces, hdrops⟩ := State.placeNotices_foldl targets hnodup s _ _ (State.Places.refl hlength (noticeItem f b))
    (State.Drops.refl s) (fun _ _ => ⟨rfl, rfl⟩)
  exact ⟨_, rfl, hplaces.congr (by simp), hdrops.congr (by simp)⟩

theorem State.mem_broadcastTargets_iff (q : BranchId) :
    q ∈ s.broadcastTargets ↔ (s.isActive (branchPort q) && (s.branch q).broadcastPass) = true := by
  simp [State.broadcastTargets, mem_allBranches]

theorem State.mem_probeTargets_iff (q : BranchId) :
    q ∈ s.probeTargets ↔ (s.isActive (branchPort q) && (s.branch q).probeMember) = true := by
  simp [State.probeTargets, mem_allBranches]

/-- A notice frame places its copies at the targets that the statement names. -/
theorem frameEnd_of_notice {dt : Nat} {l : Live} {o : Octet} {target : BranchId → Bool}
    (hg : s.GoodFrameEnds dt .p0 l b o f) (hm : f.malformed = false) (hk : f.kind = .notice)
    (htarget : (f.dest = 0xFF ∧ ∀ q, target q = (s.isActive (branchPort q) && (s.branch q).broadcastPass)) ∨
     (f.ToStation s.ownAddress ∧ ∃ p w r v, s.resolve f.dest = .forward p w r v ∧ ∀ q, target q = decide (q = p)) ∨
     (f.ToStation s.ownAddress ∧ s.resolve f.dest = .probe ∧
       ∀ q, target q = (s.isActive (branchPort q) && (s.branch q).probeMember))) :
    ∃ targets : List BranchId, targets.Nodup ∧ (∀ q, decide (q ∈ targets) = target q) ∧
      exec (.frameEnd dt .p0 o) s = .next ((s.atFrameEnd dt .p0 l b o).placeNotices f b targets) := by
  rcases htarget with ⟨hdest, ht⟩ | ⟨hst, p, w, r, v, hres, ht⟩ | ⟨hst, hres, ht⟩
  · refine ⟨(s.atFrameEnd dt .p0 l b o).broadcastTargets, nodup_allBranches.filter _, fun q => ?_, ?_⟩
    · rw [ht, ← hg.isActive, Bool.eq_iff_iff, decide_eq_true_eq]
      exact State.mem_broadcastTargets_iff q
    · rw [frameEnd_of_trunk hg hm, State.trunkFrame_of_broadcast hdest]
  · refine ⟨[p], List.nodup_singleton p, fun q => ?_, ?_⟩
    · rw [ht, decide_eq_decide, List.mem_singleton]
    · rw [frameEnd_of_stationNotice hg hst hk, hres]
      rfl
  · refine ⟨(s.atFrameEnd dt .p0 l b o).probeTargets, nodup_allBranches.filter _, fun q => ?_, ?_⟩
    · rw [ht, ← hg.isActive, Bool.eq_iff_iff, decide_eq_true_eq]
      exact State.mem_probeTargets_iff q
    · rw [frameEnd_of_stationNotice hg hst hk, hres]
      rfl

end Notices

/-- The frame end on the trunk leaves the ports of the branches as they were. -/
theorem State.port_atFrameEnd_branch (s : State) (dt : Nat) (l : Live) (b : BufId) (o : Octet) (q : BranchId) :
    (s.atFrameEnd dt .p0 l b o).port (branchPort q) = s.port (branchPort q) := by
  cases q <;> rfl

/-- Storing an octet changes no reference count. -/
theorem Pool.refs_store {P : Pool} (h : P.buffers.length = 48) (a b : BufId) (o : Octet) :
    ((P.store b o).buffer a).refs = (P.buffer a).refs := by
  rw [Pool.store, Pool.buffer_set h]
  split_ifs with hab
  · rw [hab]
  · rfl

theorem Pool.buffer_store_of_ne {P : Pool} (h : P.buffers.length = 48) {a b : BufId} (hne : a ≠ b) (o : Octet) :
    (P.store b o).buffer a = P.buffer a := by
  rw [Pool.store, Pool.buffer_set h, if_neg hne]

/-- Settles O34: the copies go to the targets with room, the drops to the others, and the receiver's reference ends. -/
theorem noticeCopiesArePlaced : Obligations.NoticeCopiesArePlaced := by
  unfold Obligations.NoticeCopiesArePlaced
  intro dt l b o f target s hg hm hk hsound hone htarget u room
  obtain ⟨targets, hnodup, htargets, hrun⟩ := frameEnd_of_notice hg hm hk htarget
  have hbuffers : s.pool.buffers.length = 48 := by
    obtain ⟨-, -, hbuffers, -⟩ := hg
    exact hbuffers
  obtain ⟨w, hw, hplaces, hdrops⟩ := State.placeNotices_spec (s := u) (f := f) (b := b)
    ((Pool.length_store s.pool b o).trans hbuffers) hnodup
  have hroom : ∀ q, u.branchHasRoom q = room q := fun q => by
    rw [State.branchHasRoom, hg.isActive]
    rfl
  simp only [htargets, hroom] at hplaces hdrops
  refine ⟨w.release b, hrun.trans (congrArg _ hw), ?branches, ?counters, ?lines, hdrops.trunk, ?pool, ?rest⟩
  case branches =>
    intro q
    rw [← insertItem_eq_placed (hsound q).1]
    exact hplaces.branch q
  case counters =>
    intro q c
    have hport : (w.release b).portCounter (branchPort q) c = portCounterGet (w.port (branchPort q)).counters c := rfl
    rw [hport, hdrops.branch q]
    by_cases hdrop : (target q && !room q) = true
    · rw [if_pos hdrop, portCounterGet_bump]
      by_cases hc : c = .queueDrops
      · rw [if_pos hc, if_pos ⟨hc, hdrop⟩, hc]
        rfl
      · rw [if_neg hc, if_neg fun h => hc h.1]
        rfl
    · rw [if_neg hdrop, if_neg fun h => hdrop h.2]
      rfl
  case lines =>
    intro q
    exact (hdrops.line q).trans (congrArg Port.line (s.port_atFrameEnd_branch dt l b o q))
  case pool =>
    have hpool := hplaces.release_pool ((Pool.refs_store hbuffers b b o).trans hone)
    split_ifs with hnone
    · rw [if_pos hnone] at hpool
      exact hpool
    · rw [if_neg hnone] at hpool
      obtain ⟨hrefs, hfree, hothers⟩ := hpool
      exact ⟨hrefs, hfree, fun a ha => (hothers a ha).trans (Pool.buffer_store_of_ne hbuffers ha o)⟩
  case rest =>
    rw [hplaces.frame]
    exact ⟨rfl, rfl, rfl, rfl, rfl, rfl⟩

/-! ### Requests of unknown address (R55, R56) -/

section Probes

variable {s : State} {f : Frame} {b : BufId} {x : SlotNo}

/-- The item of a probe copy. -/
def probeItem (x : SlotNo) (f : Frame) (b : BufId) : BranchItem := { kind := .probe x, urgent := f.urgent, buf := b }

theorem branchGet_perBranch (member : BranchId → Bool) (q : BranchId) :
    branchGet { b1 := member .b1, b2 := member .b2, b3 := member .b3 } q = member q := by
  cases q <;> rfl

/-- The copies of a probe are placed on the branches of its set. -/
theorem State.placeProbe_foldl (set : PerBranch Bool) (targets : List BranchId) (hnodup : targets.Nodup) :
    ∀ (t : State) (pick : BranchId → Bool), s.Places t (probeItem x f b) pick → (∀ q ∈ targets, pick q = false) →
      s.Places (targets.foldl (State.placeProbe x f b set) t) (probeItem x f b)
        (fun q => pick q || (decide (q ∈ targets) && branchGet set q)) := by
  induction targets with
  | nil =>
    intro t pick hplaces _
    exact hplaces.congr (by simp)
  | cons q rest ih =>
    intro t pick hplaces hnew
    obtain ⟨hq, hrest⟩ := List.nodup_cons.mp hnodup
    have hpick := hnew q (List.mem_cons_self ..)
    have hlater : ∀ c ∈ rest, pick c = false ∧ c ≠ q := fun c hc =>
      ⟨hnew c (List.mem_cons_of_mem _ hc), fun he => hq (he ▸ hc)⟩
    rw [List.foldl_cons, State.placeProbe]
    cases hset : branchGet set q with
    | true =>
      rw [if_pos rfl]
      refine (ih hrest _ _ (hplaces.append hpick) (fun c hc => by simp [hlater c hc])).congr (funext fun c => ?_)
      by_cases hc : c = q
      · subst hc; simp [hset]
      · simp [hc]
    | false =>
      rw [if_neg Bool.false_ne_true]
      refine (ih hrest t pick hplaces (fun c hc => (hlater c hc).1)).congr (funext fun c => ?_)
      by_cases hc : c = q
      · subst hc; simp [hset]
      · simp [hc]

theorem State.placeProbe_foldl_ports (set : PerBranch Bool) (targets : List BranchId) (t : State) :
    (targets.foldl (State.placeProbe x f b set) t).ports = t.ports := by
  induction targets generalizing t with
  | nil => rfl
  | cons q rest ih =>
    rw [List.foldl_cons, ih, State.placeProbe]
    split_ifs <;> rfl

/-- The exchange that a request of unknown address opens (R56). -/
def State.probeExchange (s : State) (f : Frame) (b : BufId) (set : PerBranch Bool) : Exchange :=
  { key := f.requestKey, urgent := f.urgent, window := s.table.probeWindow, request := some b,
    mode := .probe { phase := .probing, set := set, pending := false } }

/-- An opened PROBE exchange: its record, its copies, and the count (R56). -/
theorem State.openProbeAt_places (hlength : s.pool.buffers.length = 48) (member : BranchId → Bool) :
    ∃ w, s.openProbeAt x f b { b1 := member .b1, b2 := member .b2, b3 := member .b3 } = w.count .probesStarted ∧
      w.ports = s.ports ∧
      State.Places (s.setRecord x (some (s.probeExchange f b
        { b1 := member .b1, b2 := member .b2, b3 := member .b3 }))) w (probeItem x f b) member := by
  refine ⟨_, rfl, State.placeProbe_foldl_ports _ _ _, ?_⟩
  have hlength' : (s.setRecord x (some (s.probeExchange f b
    { b1 := member .b1, b2 := member .b2, b3 := member .b3 }))).pool.buffers.length = 48 := hlength
  refine (State.placeProbe_foldl _ allBranches nodup_allBranches _ _ (State.Places.refl hlength' _)
    (fun _ _ => rfl)).congr (funext fun q => ?_)
  rw [branchGet_perBranch]
  simp [mem_allBranches]

/-- A set is empty where it names no branch. -/
theorem setEmpty_iff (member : BranchId → Bool) :
    setEmpty { b1 := member .b1, b2 := member .b2, b3 := member .b3 } = true ↔ countBranches member = 0 := by
  cases h1 : member .b1 <;> cases h2 : member .b2 <;> cases h3 : member .b3 <;> simp [setEmpty, countBranches, h1, h2, h3]

end Probes

/-- Settles O37: the request is skipped without a record or a branch, and otherwise its copies are placed. -/
theorem probeRequestOpensProbeExchange : Obligations.ProbeRequestOpensProbeExchange := by
  unfold Obligations.ProbeRequestOpensProbeExchange
  intro dt l b o f s hg hst hk hres hkey hsound u member
  have hrun : exec (.frameEnd dt .p0 o) s = .next (u.openProbe f b) := by
    rw [frameEnd_of_stationRequest hg hst hk, hres]
    rfl
  have hfree : ¬ u.keyInUse f.requestKey = true := State.keyInUse_of_free (s := u) hkey
  have hset : u.probeSet = { b1 := member .b1, b2 := member .b2, b3 := member .b3 } := by
    have hq : ∀ q, u.qualifies q = member q := fun q => by
      rw [State.qualifies, State.branchHasRoom, hg.isActive, ← Bool.and_assoc, Bool.and_comm (u.branch q).probeMember]
      rfl
    rw [State.probeSet, hq, hq, hq]
  rw [hrun, State.openProbe, if_neg hfree]
  constructor
  · rintro (hfull | hnone)
    · rw [State.freeRecord_of_full (s := u) hfull]
    · cases hx : u.freeRecord with
      | none => rfl
      | some x => exact congrArg _ (if_pos (by rw [hset]; exact (setEmpty_iff member).mpr hnone))
  · intro x hx hsome
    obtain ⟨hlength, -⟩ := id hx
    have hbuffers : s.pool.buffers.length = 48 := by
      obtain ⟨-, -, hbuffers, -⟩ := hg
      exact hbuffers
    have hnot : ¬ setEmpty u.probeSet = true := by
      rw [hset, setEmpty_iff]
      exact hsome
    rw [State.freeRecord_of_lowestFree (s := u) hx]
    dsimp only
    rw [if_neg hnot, hset]
    obtain ⟨w, hw, hports, hplaces⟩ := State.openProbeAt_places (s := u) (f := f) (b := b) (x := x)
      ((Pool.length_store s.pool b o).trans hbuffers) member
    have hrecords : ∀ y, (w.count .probesStarted).record y = if y = x then some (u.probeExchange f b
        { b1 := member .b1, b2 := member .b2, b3 := member .b3 }) else s.record y := by
      intro y
      rw [State.record_eq, show (w.count .probesStarted).records = w.records from rfl, hplaces.frame]
      exact State.record_setRecord u x y _ (by rw [show u.records = s.records from rfl, hlength]; exact x.isLt)
    refine ⟨_, congrArg _ hw, ?record, ?others, ?branches, ?refs, ?buffers, hplaces.free, hplaces.armed, ?counters,
      hports, ?rest⟩
    case record => rw [hrecords, if_pos rfl]; rfl
    case others =>
      intro y hy
      rw [hrecords, if_neg hy]
    case branches =>
      intro q
      rw [← insertItem_eq_placed (hsound q).1]
      exact hplaces.branch q
    case refs => exact hplaces.refs.trans (congrArg (· + countBranches member) (Pool.refs_store hbuffers b b o))
    case buffers => exact fun a ha => (hplaces.others a ha).trans (Pool.buffer_store_of_ne hbuffers ha o)
    case counters =>
      rw [State.count, hplaces.frame]
      rfl
    case rest =>
      rw [State.count, hplaces.frame]
      exact ⟨rfl, rfl, rfl, rfl⟩

end Sys2Proof.Machine
end

section
/-! PROOFS. The timed events: the window expiries and the ageing expiry (R15, R16, R34, R39, R40, R59, R66). -/

namespace Sys2Proof.Machine

/-! ### The bounds of an expiry (R34, R59) -/

/-- The deadline is due from its window on, for one time unit. -/
theorem State.due_iff (s : State) (dt start : Nat) (window : Octet) :
    (s.advance dt).due start window = true ↔
      start + window.toNat * timeUnit ≤ s.now + dt ∧ s.now + dt < start + (window.toNat + 1) * timeUnit := by
  rw [State.due, Bool.and_eq_true, decide_eq_true_eq, decide_eq_true_eq]
  rfl

section Expiry

variable {s : State} {b : BranchId} {x : SlotNo} {k : SlotKind} {start : Nat} {e : Exchange}

theorem exec_windowExpiry_of_direct {d : Direct}
    (hslot : (s.branch b).slot = some { exch := x, kind := k, deadline := some start })
    (hrecord : s.record x = some e) (hmode : e.mode = .direct d) (dt : Nat) :
    exec (.windowExpiry dt b) s = .next (if (s.advance dt).due start e.window then
      (s.advance dt).windowExpired b x e d else s.advance dt) := by
  have hrun : exec (.windowExpiry dt b) s = execWindowExpiry dt b s := rfl
  simp only [hrun, execWindowExpiry, hslot, hrecord, hmode]

theorem exec_probeWindowExpiry_of_probe {q : Probe}
    (hslot : (s.branch b).slot = some { exch := x, kind := k, deadline := some start })
    (hrecord : s.record x = some e) (hmode : e.mode = .probe q) (dt : Nat) :
    exec (.probeWindowExpiry dt b) s = .next (if (s.advance dt).due start e.window then
      ((s.advance dt).setSlot b none).loseBranch x e q b else s.advance dt) := by
  have hrun : exec (.probeWindowExpiry dt b) s = execProbeWindowExpiry dt b s := rfl
  simp only [hrun, execProbeWindowExpiry, hslot, hrecord, hmode]

/-- With a repeat left the exchange goes to the repeat holder (R39). -/
theorem State.windowExpired_of_repeat {d : Direct} (h : d.attempts ≤ d.retries.val) (s : State) (b : BranchId)
    (x : SlotNo) (e : Exchange) :
    s.windowExpired b x e d = ((s.count .timeouts).setBranch b
      { s.branch b with slot := none, lastTimedOut := some (e.key, x), holder := some x }).setRecord x
        (some { e with mode := .direct { d with phase := .repeating } }) := by
  rw [State.windowExpired]
  dsimp only
  rw [if_pos h]
  cases b <;> rfl

/-- Without one it returns TIMEOUT (R40). -/
theorem State.windowExpired_of_timeout {d : Direct} (h : d.retries.val < d.attempts) (s : State) (b : BranchId)
    (x : SlotNo) (e : Exchange) :
    s.windowExpired b x e d = ((s.count .timeouts).setBranch b
      { s.branch b with slot := none, lastTimedOut := some (e.key, x) }).refuse x e d .timeout := by
  rw [State.windowExpired]
  dsimp only
  rw [if_neg (Nat.not_le.mpr h)]
  cases b <;> rfl

/-- The end of a probe on one branch, as R67 and R68 decide it. -/
theorem State.loseBranch_eq (s : State) (x : SlotNo) (e : Exchange) (q : Probe) (b : BranchId) :
    s.loseBranch x e q b =
      if setEmpty (branchSet q.set b false) = true then
        match q.phase, q.pending with
        | .probing, _ => ((s.releaseOpt e.request).setRecord x none).count .probeMisses
        | .settling, false => s.setRecord x none
        | .settling, true => s.setRecord x (some { e with mode := .probe { q with set := branchSet q.set b false } })
      else s.setRecord x (some { e with mode := .probe { q with set := branchSet q.set b false } }) := by
  obtain ⟨phase, set, pending⟩ := q
  rw [State.loseBranch]
  cases phase with
  | probing => rfl
  | settling =>
    dsimp only
    rw [State.settle]
    cases pending with
    | false => simp
    | true => simp

end Expiry

/-- Settles O53: an expiry within its bounds goes to the repeat holder, or to a TIMEOUT return. -/
theorem windowExpiryRepeatsOrReturnsTimeout : Obligations.WindowExpiryRepeatsOrReturnsTimeout := by
  unfold Obligations.WindowExpiryRepeatsOrReturnsTimeout
  intro dt b x k start e d s hslot hrecord hmode run isDue u left r
  have hrun : run = _ := exec_windowExpiry_of_direct hslot hrecord hmode dt
  have hdue := State.due_iff s dt start e.window
  refine ⟨fun hnot => ?early, fun his hleft => ?again, fun his hover => ?timeout⟩
  case early => rw [hrun, if_neg (hdue.not.mpr hnot)]
  case again =>
    rw [hrun, if_pos (hdue.mpr his), State.windowExpired_of_repeat hleft]
    rfl
  case timeout =>
    rw [hrun, if_pos (hdue.mpr his), State.windowExpired_of_timeout hover]
    have hadmits : (u.setBranch b left).admits r = s.admits r := rfl
    constructor
    · intro hadm
      exact congrArg _ (State.refuse_of_admits (s := u.setBranch b left) d (hadmits.trans hadm))
    · intro hdown
      exact congrArg _ (State.refuse_of_full (s := u.setBranch b left) d
        (hadmits.trans (State.admits_of_not_active hdown r)))

/-- Settles O54: an expiry within its bounds takes the branch out of the set. -/
theorem probeWindowExpiryLosesBranch : Obligations.ProbeWindowExpiryLosesBranch := by
  unfold Obligations.ProbeWindowExpiryLosesBranch
  intro dt b x k start e q s hslot hrecord hmode run isDue v fewer
  have hrun : run = _ := exec_probeWindowExpiry_of_probe hslot hrecord hmode dt
  have hdue := State.due_iff s dt start e.window
  refine ⟨fun hnot => ?_, fun his => ?_⟩
  · rw [hrun, if_neg (hdue.not.mpr hnot)]
  · rw [hrun, if_pos (hdue.mpr his), State.loseBranch_eq] <;> rfl

/-! ### Ageing (R15, R16) -/

theorem State.countTimes_eq (s : State) (n : Nat) :
    s.countTimes .agedOut n = { s with counters := { s.counters with agedOut := countedTimes s.counters.agedOut n } } := by
  induction n generalizing s with
  | zero => rfl
  | succ n ih =>
    rw [State.countTimes, ih]
    rfl

/-- The ageing expiry within the part: the learned entries are aged, and those removed are counted. -/
theorem State.age_eq (s : State) :
    s.age = { s with
      table := { s.table with learned := s.table.learned.map agePlace }
      counters := { s.counters with
        agedOut := countedTimes s.counters.agedOut (s.table.learned.filter agesOut).length } } := by
  rw [State.age, State.countTimes_eq]
  rfl

/-- An entry is aged out where it is VALID and reaches age 4. -/
theorem agesOut_eq (o : Option Learned) :
    agesOut o = (match o.map (·.mark) with
      | some (.valid age) => decide (4 ≤ age + 1)
      | some (.conflict _) => false
      | none => false) := by
  rcases o with _ | ⟨addr, port, age | other⟩
  · rfl
  · by_cases h : age + 1 < 4
    · simp only [agesOut, agePlace, h, Option.map_some, if_true, Option.isSome_some, Option.isNone_some, Bool.and_false]
      exact (decide_eq_false (Nat.not_le.mpr h)).symm
    · simp only [agesOut, agePlace, h, Option.map_some, if_false, Option.isSome_some, Option.isNone_none, Bool.and_self]
      exact (decide_eq_true (Nat.not_lt.mp h)).symm
  · rfl

/-- A place after the expiry: emptied where its entry is aged out, one older where it is VALID. -/
theorem agePlace_eq (o : Option Learned) :
    agePlace o = if agesOut o then none else o.map (fun e => match e.mark with
      | .valid age => { e with mark := .valid (age + 1) }
      | .conflict _ => e) := by
  rcases o with _ | ⟨addr, port, age | other⟩
  · rfl
  · by_cases h : age + 1 < 4 <;> simp [agesOut, agePlace, h]
  · rfl

/-- Settles O55: the expiry is due once the interval has passed, and ages every place by itself. -/
theorem ageingExpiryAgesLearnedEntries : Obligations.AgeingExpiryAgesLearnedEntries := by
  unfold Obligations.AgeingExpiryAgesLearnedEntries
  intro dt s
  have hrun : exec (.ageingExpiry dt) s = execAgeingExpiry dt s := rfl
  constructor
  · intro hnot
    rw [hrun, execAgeingExpiry, if_neg]
    rintro ⟨hrunning, hlate⟩
    rcases hnot with hzero | hearly
    · exact hrunning hzero
    · omega
  · intro hrunning hlate old
    have hold : agesOut = old := funext fun o => agesOut_eq o
    rw [hrun, execAgeingExpiry, if_pos ⟨hrunning, hlate⟩, State.age_eq, ← hold, funext agePlace_eq]
    rfl

end Sys2Proof.Machine
end

section
/-! PROOFS. The transmitters take their items and start to send, and ports recover (R119, R129 to R135). -/

namespace Sys2Proof.Machine

/-! ### The start of a frame (R129, R133) -/

/-- What works in a port that begins to send its current item. -/
def Live.sends (m : Live) (c : Current) (now : Nat) (frame : List Octet) : Live :=
  { m with rx := .hunt, tx := .send c now frame }

section Sends

variable {u : State} {p : PortId} {m : Live}

/-- A frame being received ends early where a transmitter starts to send. -/
theorem State.startSend_of_collect {b : BufId} (h : m.rx = .collect b) (u : State) (p : PortId) (c : Current) :
    (u.setLive p m).startSend p m c =
      ((u.setLive p (m.sends c u.now (u.itemFrame c.item))).countPort p .truncated).release b := by
  have hend : (u.setLive p m).endEarly p m = ((u.countPort p .truncated).release b).setLive p { m with rx := .hunt } := by
    rw [State.endEarly_of_collect h, State.setRx, State.setLive_setLive, ← State.countPort_setLive]
    rfl
  rw [State.startSend, hend, State.setLive_setLive, ← State.countPort_setLive]
  rfl

theorem State.startSend_of_not_collect (h : ∀ b, m.rx ≠ .collect b) (u : State) (p : PortId) (c : Current) :
    (u.setLive p m).startSend p m c = u.setLive p (m.sends c u.now (u.itemFrame c.item)) := by
  have hend : (u.setLive p m).endEarly p m = u.setLive p { m with rx := .hunt } := by
    cases hrx : m.rx with
    | hunt => rw [State.endEarly_of_hunt hrx, ← hrx]
    | collect b => exact absurd hrx (h b)
    | discard n len => rw [State.endEarly_of_discard hrx, State.setRx, State.setLive_setLive]
  rw [State.startSend, hend, State.setLive_setLive]
  rfl

/-- A port in SEND drives its line. -/
theorem State.driverEnabled_sends (u : State) (p : PortId) (m : Live) (c : Current) (now : Nat) (frame : List Octet) :
    (u.setLive p (m.sends c now frame)).driverEnabled p = true := by
  rw [State.driverEnabled, State.driving, State.live?_setLive]
  rfl

end Sends

/-! ### The line has been idle for a time (R113) -/

theorem Live.idleFor_iff (m : Live) (t now : Nat) : m.idleFor t now = true ↔ m.busy = false ∧ m.idleFrom + t ≤ now := by
  simp [Live.idleFor]

theorem Live.not_idleFor_iff (m : Live) (t now : Nat) :
    ¬ m.idleFor t now = true ↔ m.busy = true ∨ now < m.idleFrom + t := by
  rw [Live.idleFor_iff, not_and_or, Bool.not_eq_false, Nat.not_le]

/-! ### The end of a wait (R132, R135) -/

section Wait

variable {s : State} {dt : Nat} {p : PortId} {busy : Bool} {l : Live} {c : Current} {wait : Nat}

/-- The wait of a transmitter ends where the line has been idle long enough. -/
theorem State.endWait_lineSeen (h : s.live? p = some l) {waits : Tx → Option Current} (hwaits : waits l.tx = some c)
    (t : Nat) :
    ((s.advance dt).lineSeen p busy).endWait p t waits =
      if Live.idleFor { l with busy := l.busy || busy } t (s.now + dt) then
        ((s.advance dt).setLive p { l with busy := l.busy || busy }).startSend p { l with busy := l.busy || busy } c
      else (s.advance dt).setLive p { l with busy := l.busy || busy } := by
  rw [State.lineSeen_of_live (s := s.advance dt) h, State.endWait, State.live?_setLive]
  dsimp only
  rw [hwaits]
  rfl

/-- Both events of a wait's end are one, with the wait of the transmitter's state. -/
theorem exec_waitEnd (h : s.live? p = some l) {run : Host.Outcome State Fault Refusal}
    (hrun : (l.tx = .defer c ∧ wait = (s.port p).guard.toNat ∧
        run = exec (.deferWaitEnd { dt := dt, busy := busy } p) s) ∨
      (l.tx = .backoff c ∧ wait = (s.port p).guard.toNat + 1 + s.addr.toNat ∧
        run = exec (.backoffWaitEnd { dt := dt, busy := busy } p) s)) :
    run = .next (if Live.idleFor { l with busy := l.busy || busy } (wait * s.charTime p) (s.now + dt) then
        ((s.advance dt).setLive p { l with busy := l.busy || busy }).startSend p { l with busy := l.busy || busy } c
      else (s.advance dt).setLive p { l with busy := l.busy || busy }) := by
  rcases hrun with ⟨htx, rfl, rfl⟩ | ⟨htx, rfl, rfl⟩
  · exact congrArg _ (State.endWait_lineSeen h (waits := Tx.deferred?) (by rw [htx]; rfl) (s.guardTime p))
  · exact congrArg _ (State.endWait_lineSeen h (waits := Tx.backedOff?) (by rw [htx]; rfl) (s.backoffTime p))

end Wait

/-- Settles O49: the wait ends where the line has been idle for it, and the frame starts. -/
theorem waitEndStartsSending : Obligations.WaitEndStartsSending := by
  unfold Obligations.WaitEndStartsSending
  intro dt p busy l c run wait s hlive hcase m sends
  have hrun := exec_waitEnd hlive hcase
  refine ⟨fun hwait => ?waits, fun hquiet hidle => ⟨fun b hrx => ?collect, fun hrx => ?other⟩, ?driver⟩
  case waits => rw [hrun, if_neg ((m.not_idleFor_iff _ _).mpr hwait)]
  case collect =>
    rw [hrun, if_pos ((m.idleFor_iff _ _).mpr ⟨hquiet, hidle⟩), State.startSend_of_collect (m := m) hrx]
    rfl
  case other =>
    rw [hrun, if_pos ((m.idleFor_iff _ _).mpr ⟨hquiet, hidle⟩), State.startSend_of_not_collect (m := m) hrx]
    rfl
  case driver => exact State.driverEnabled_sends ..

/-! ### The taking of an item (R131, R132) -/

section Take

variable {s : State} {dt : Nat} {p : PortId} {busy : Bool} {l : Live}

theorem exec_takeItem (h : s.live? p = some l) :
    exec (.takeItem { dt := dt, busy := busy } p) s =
      .next (((s.advance dt).setLive p { l with busy := l.busy || busy }).takeItem p) :=
  congrArg (fun u : State => Host.Outcome.next (u.takeItem p)) (State.lineSeen_of_live (s := s.advance dt) h busy)

theorem State.takeItem_of_not_idle {u : State} {m : Live} (h : u.live? p = some m) (htx : m.tx ≠ .idle) :
    u.takeItem p = u := by
  rw [State.takeItem, h]
  dsimp only
  cases hm : m.tx with
  | idle => exact absurd hm htx
  | defer c => rfl
  | send c since frame => rfl
  | backoff c => rfl

theorem State.takeItem_of_trunk {u : State} {m : Live} (h : u.live? .p0 = some m) (htx : m.tx = .idle) :
    u.takeItem .p0 = u.takeTrunk m := by
  rw [State.takeItem, h]
  dsimp only
  rw [htx]
  rfl

theorem State.takeItem_of_held {u : State} {m : Live} {b : BranchId} {sl : Slot} (h : u.live? (branchPort b) = some m)
    (htx : m.tx = .idle) (hslot : (u.branch b).slot = some sl) : u.takeItem (branchPort b) = u := by
  simp only [State.takeItem, h, htx, portBranch_branchPort, hslot]

theorem State.takeItem_of_holder {u : State} {m : Live} {b : BranchId} {x : SlotNo}
    (h : u.live? (branchPort b) = some m) (htx : m.tx = .idle) (hslot : (u.branch b).slot = none)
    (hholder : (u.branch b).holder = some x) : u.takeItem (branchPort b) = u.takeHolder b x m := by
  simp only [State.takeItem, h, htx, portBranch_branchPort, hslot, hholder]

theorem State.takeItem_of_queue {u : State} {m : Live} {b : BranchId} (h : u.live? (branchPort b) = some m)
    (htx : m.tx = .idle) (hslot : (u.branch b).slot = none) (hholder : (u.branch b).holder = none) :
    u.takeItem (branchPort b) = u.takeBranch b m := by
  simp only [State.takeItem, h, htx, portBranch_branchPort, hslot, hholder]

/-- A taken item waits in DEFER, or starts, with the frame being received ended early. -/
theorem State.take_setLive {u : State} {m : Live} {t : Nat} (i : TxItem) (hguard : u.guardTime p = t) :
    (u.setLive p m).take p m i =
      if m.busy = true ∨ u.now < m.idleFrom + t then u.setLive p { m with tx := .defer { item := i, contentions := 0 } }
      else (u.setLive p m).startSend p m { item := i, contentions := 0 } := by
  have hsame : (u.setLive p m).guardTime p = t := by
    rw [← hguard, State.guardTime, State.guardTime, State.charTime, State.charTime, State.setLive, State.setLine,
      State.port_setPort, if_pos rfl]
  rw [State.take, hsame]
  have hnow : (u.setLive p m).now = u.now := rfl
  have hwaits := m.not_idleFor_iff t u.now
  rw [hnow]
  by_cases hidle : m.idleFor t u.now = true
  · rw [if_pos hidle, if_neg fun hwait => hwaits.mpr hwait hidle]
  · rw [if_neg hidle, if_pos (hwaits.mp hidle), State.setLive_setLive]

/-- The state after a transmitter has taken the item `i` in `u`, the frame of the item being the one in `s` (R129,
R131, R132). -/
def State.afterTaking (s u : State) (p : PortId) (m : Live) (i : TxItem) : State :=
  if m.busy = true ∨ u.now < m.idleFrom + (s.port p).guard.toNat * s.charTime p then
    u.setLive p { m with tx := .defer { item := i, contentions := 0 } }
  else match m.rx with
    | .collect b =>
      ((u.setLive p (m.sends { item := i, contentions := 0 } u.now (s.itemFrame i))).countPort p .truncated).release b
    | .hunt => u.setLive p (m.sends { item := i, contentions := 0 } u.now (s.itemFrame i))
    | .discard _ _ => u.setLive p (m.sends { item := i, contentions := 0 } u.now (s.itemFrame i))

theorem State.take_eq_afterTaking {u : State} {m : Live} {i : TxItem}
    (hguard : u.guardTime p = (s.port p).guard.toNat * s.charTime p) (hframe : u.itemFrame i = s.itemFrame i) :
    (u.setLive p m).take p m i = s.afterTaking u p m i := by
  rw [State.take_setLive i hguard, State.afterTaking]
  refine if_congr Iff.rfl rfl ?_
  cases hrx : m.rx with
  | hunt => rw [State.startSend_of_not_collect (fun b hb => by rw [hrx] at hb; cases hb), hframe]
  | collect b => rw [State.startSend_of_collect hrx, hframe]
  | discard n len => rw [State.startSend_of_not_collect (fun b hb => by rw [hrx] at hb; cases hb), hframe]

/-- The frame of an item depends on the octets of the buffers, the own address and the response buffer alone (R133). -/
theorem State.itemFrame_congr {u : State} (hoctets : ∀ b, u.octets b = s.octets b) (haddr : u.addr = s.addr)
    (hmgmt : u.mgmt = s.mgmt) (i : TxItem) : u.itemFrame i = s.itemFrame i := by
  have hown : u.ownAddress = s.ownAddress := by rw [State.ownAddress, haddr, State.ownAddress]
  simp only [State.itemFrame, hoctets, hown, hmgmt]

/-- A branch item claims the slot under the kind it has (R32, R58, R101). -/
theorem State.takeBranch_of_cons {u : State} {m : Live} {b : BranchId} {i : BranchItem} {rest : List BranchItem}
    (hqueue : (u.branch b).queue = i :: rest) :
    u.takeBranch b m = (u.setBranch b { u.branch b with queue := rest, slot := i.claims }).take (branchPort b) m
      (.branch i) := by
  rw [State.takeBranch, hqueue]
  dsimp only
  rw [State.setSlot, State.setQueue, State.setBranch_setBranch, State.branch_setBranch, if_pos rfl]

/-- The exchange in the repeat holder is QUEUED again, and claims the slot (R33). -/
theorem State.takeHolder_of_direct {u : State} {m : Live} {b : BranchId} {x : SlotNo} {e : Exchange} {d : Direct}
    {buf : BufId} (hrecord : u.record x = some e) (hmode : e.mode = .direct d) (hrequest : e.request = some buf) :
    u.takeHolder b x m = (((u.setRecord x (some { e with mode := .direct { d with phase := .queued } })).setBranch b
      { u.branch b with holder := none, slot := some { exch := x, kind := .request, deadline := none } }).retain buf).take
        (branchPort b) m (.branch { kind := .request x, urgent := e.urgent, buf := buf }) := by
  rw [State.takeHolder, hrecord]
  dsimp only
  rw [hmode, hrequest]
  dsimp only
  rw [State.setSlot, State.setHolder, State.setBranch_setBranch, State.branch_setBranch, if_pos rfl]
  rfl

end Take

/-- Settles O48: an IDLE transmitter takes from the one source that R131 names, and the item waits or starts. -/
theorem transmitterTakesItem : Obligations.TransmitterTakesItem := by
  unfold Obligations.TransmitterTakesItem
  intro dt p busy l s hlive m waits goes
  have hgoes : ∀ u i, u.now = s.now + dt → goes u i = s.afterTaking u p m i := by
    intro u i hnow
    rw [State.afterTaking, hnow] <;> rfl
  have hlive' : ((s.advance dt).setLive p m).live? p = some m := State.live?_setLive _ _ _
  rw [exec_takeItem hlive]
  constructor
  · intro htx
    rw [State.takeItem_of_not_idle hlive' htx]
  intro htx
  refine ⟨?trunk, ?branch⟩
  case trunk =>
    rintro i rest rfl hqueue
    rw [State.takeItem_of_trunk hlive' htx, State.takeTrunk, show ((s.advance dt).setLive .p0 m).trunkQueue = i :: rest
      from hqueue, hgoes _ _ rfl]
    have hguard : State.guardTime { s.advance dt with trunkQueue := rest } .p0 =
      (s.port .p0).guard.toNat * s.charTime .p0 := rfl
    have hframe := State.itemFrame_congr (s := s) (u := { s.advance dt with trunkQueue := rest }) (fun _ => rfl) rfl rfl
      (.trunk i)
    have htake := State.take_eq_afterTaking (m := m) hguard hframe
    have hcommute : ({ (s.advance dt).setLive .p0 m with trunkQueue := rest } : State) =
      State.setLive { s.advance dt with trunkQueue := rest } .p0 m := rfl
    dsimp only
    rw [hcommute, htake]
  case branch =>
    rintro b rfl
    refine ⟨?held, ?queue, ?holder⟩
    case held =>
      intro hslot
      obtain ⟨sl, hsl⟩ := Option.ne_none_iff_exists'.mp hslot
      rw [State.takeItem_of_held hlive' htx hsl]
    case queue =>
      intro hslot hholder i rest hqueue
      rw [State.takeItem_of_queue hlive' htx hslot hholder,
        State.takeBranch_of_cons (u := (s.advance dt).setLive (branchPort b) m) hqueue, hgoes _ _ rfl]
      exact congrArg Host.Outcome.next (State.take_eq_afterTaking (u := (s.advance dt).setBranch b
        { s.branch b with queue := rest, slot := i.claims }) rfl (State.itemFrame_congr (fun _ => rfl) rfl rfl _))
    case holder =>
      intro hslot x e d buf hholder hrecord hmode hrequest
      rw [State.takeItem_of_holder hlive' htx hslot hholder,
        State.takeHolder_of_direct (u := (s.advance dt).setLive (branchPort b) m) hrecord hmode hrequest, hgoes _ _ rfl]
      exact congrArg Host.Outcome.next (State.take_eq_afterTaking (s := s) (u := (((s.advance dt).setRecord x
        (some { e with mode := .direct { d with phase := .queued } })).setBranch b
          { s.branch b with holder := none, slot := some { exch := x, kind := .request, deadline := none } }).retain buf)
        (i := .branch { kind := .request x, urgent := e.urgent, buf := buf }) rfl (Pool.octets_retain s.pool buf buf))

/-! ### Recovery (R119, R179) -/

section Recovery

variable {s v : State} {p : PortId} {since : Nat}

theorem exec_recovery_of_fault (h : (s.port p).line = .fault since) (dt : Nat) :
    exec (.recovery dt p) s = .next (if since + 32 * s.charTime p ≤ s.now + dt then (s.advance dt).recover p
      else s.advance dt) := by
  have hrun : exec (.recovery dt p) s = execRecovery dt p s := rfl
  rw [hrun, execRecovery, h]

theorem exec_recoveryTimerRestart_of_fault (h : (s.port p).line = .fault since) (dt low : Nat) :
    exec (.recoveryTimerRestart dt p low) s = .next (if since + bitTime (s.port p).rate / 2 ≤ s.now + dt then
      (s.advance dt).setLine p (.fault (s.now + dt + low)) else s.advance dt) := by
  have hrun : exec (.recoveryTimerRestart dt p low) s = execRecoveryTimerRestart dt p low s := rfl
  rw [hrun, execRecoveryTimerRestart, h]
  rfl

/-- Two effects of one instant that leave the same trunk queue in both orders are taken in the first. -/
theorem State.bothOrders_of_same {effect alert : State → State}
    (h : (alert (effect v)).trunkQueue = (effect (alert v)).trunkQueue) (hsame : effect v = v) :
    v.bothOrders effect alert = alert v := by
  rw [State.bothOrders, if_pos h, hsame]

/-- With no offer due, raising an alert only lists it. -/
theorem State.raise_of_not_due (h : v.alerts.dest = 0 ∨ v.alerts.offered = true ∨ v.isActive .p0 = false)
    (k : AlertKind) (a : Octet) : v.raise k a = { v with alerts := v.alerts.add k a } := by
  refine State.offerAlert_of_not_due (s := { v with alerts := v.alerts.add k a }) (.inr ?_)
  rw [AlertUnit.add_dest, AlertUnit.add_offered]
  exact h

/-- The list of an alert unit with no entry holds the raised one. -/
theorem AlertUnit.add_of_empty {u : AlertUnit} (h : u.list = []) (k : AlertKind) (a : Octet) :
    u.add k a = { u with list := [{ kind := k, subject := a, repeats := 1 }] } := by
  simp [AlertUnit.add, h]

/-- The first entry listed keeps its kind and subject when an alert is raised. -/
theorem AlertUnit.add_head {u : AlertUnit} {e : AlertEntry} {rest : List AlertEntry} (h : u.list = e :: rest)
    (k : AlertKind) (a : Octet) :
    ∃ e' rest', (u.add k a).list = e' :: rest' ∧ e.kind = e'.kind ∧ e.subject = e'.subject := by
  unfold AlertUnit.add
  split_ifs
  · rw [h, List.map_cons]
    refine ⟨_, _, rfl, ?_⟩
    split_ifs <;> exact ⟨rfl, rfl⟩
  · exact ⟨e, rest ++ _, by rw [h, List.cons_append], rfl, rfl⟩
  · exact ⟨e, rest, h, rfl, rfl⟩

/-- Raising an alert does not look at whether an entry is offered. -/
theorem AlertUnit.add_with_offered (u : AlertUnit) (k : AlertKind) (a : Octet) (b : Bool) :
    AlertUnit.add { u with offered := b } k a = { u.add k a with offered := b } := by
  unfold AlertUnit.add
  split_ifs <;> rfl

/-- With no entry listed before, a raised alert is offered at once on an idle ACTIVE trunk. -/
theorem State.raise_of_empty (hactive : v.isActive .p0 = true) (hdest : v.alerts.dest ≠ 0)
    (hoffered : v.alerts.offered = false) (hlist : v.alerts.list = []) (hroom : classCount v.trunkQueue .alert = 0)
    (k : AlertKind) (a : Octet) :
    v.raise k a = { v with
      trunkQueue := v.trunkQueue ++ [.alert (v.alertItem { kind := k, subject := a, repeats := 1 })]
      alerts := { v.alerts with list := [{ kind := k, subject := a, repeats := 1 }], offered := true } } := by
  rw [State.raise, AlertUnit.add_of_empty hlist]
  exact State.offerAlert_of_due (s := { v with alerts :=
    { v.alerts with list := [{ kind := k, subject := a, repeats := 1 }] } }) rfl hdest hoffered
    ((State.admits_alert_iff _ _).mpr ⟨hactive, hroom⟩)

/-- What stands on the trunk once the oldest entry is offered and the alert raised, in either order (R179). -/
def State.OffersOldest (v t : State) (raised : AlertUnit) : Prop :=
  ∃ item e, t.ports = v.ports ∧ t.trunkQueue = [.alert item] ∧ raised.list.head? = some e ∧
    item.entry.kind = e.kind ∧ item.entry.subject = e.subject ∧ item.dest = v.alerts.dest ∧
    item.generation = v.table.generation ∧ t.alerts = { raised with offered := true } ∧ t.branches = v.branches ∧
    t.records = v.records ∧ t.pool = v.pool ∧ t.table = v.table ∧ t.mgmt = v.mgmt ∧ t.counters = v.counters ∧
    t.now = v.now

section Oldest

variable (hactive : v.isActive .p0 = true) (hdest : v.alerts.dest ≠ 0) (hoffered : v.alerts.offered = false)
  (hqueue : v.trunkQueue = []) (k : AlertKind) (a : Octet)

include hactive hdest hoffered hqueue

/-- A listed alert is offered on an empty trunk queue. -/
theorem State.offerAlert_of_empty {e : AlertEntry} {rest : List AlertEntry} (hlist : v.alerts.list = e :: rest) :
    v.offerAlert = { v with
      trunkQueue := [.alert (v.alertItem e)], alerts := { v.alerts with offered := true } } := by
  rw [State.offerAlert_of_due hlist hdest hoffered ((State.admits_alert_iff _ _).mpr ⟨hactive, by rw [hqueue]; rfl⟩),
    hqueue, List.nil_append]

theorem State.OffersOldest.raise_first :
    v.OffersOldest (v.raise k a).offerAlert (v.alerts.add k a) := by
  obtain ⟨e, rest, hlist⟩ : ∃ e rest, (v.alerts.add k a).list = e :: rest := by
    cases hl : v.alerts.list with
    | nil => exact ⟨_, [], by rw [AlertUnit.add_of_empty hl]⟩
    | cons e rest =>
      obtain ⟨e', rest', he, -⟩ := AlertUnit.add_head hl k a
      exact ⟨e', rest', he⟩
  have hraise : v.raise k a = { v with
      trunkQueue := [.alert (State.alertItem { v with alerts := v.alerts.add k a } e)]
      alerts := { v.alerts.add k a with offered := true } } :=
    State.offerAlert_of_empty (v := { v with alerts := v.alerts.add k a }) hactive
      (by rw [AlertUnit.add_dest]; exact hdest) (by rw [AlertUnit.add_offered]; exact hoffered) hqueue hlist
  rw [hraise, State.offerAlert_of_not_due (.inr (.inr (.inl rfl)))]
  exact ⟨_, e, rfl, rfl, by rw [hlist]; rfl, rfl, rfl, AlertUnit.add_dest .., rfl, rfl, rfl, rfl, rfl, rfl, rfl, rfl, rfl⟩

theorem State.OffersOldest.offer_first :
    v.OffersOldest (v.offerAlert.raise k a) (v.alerts.add k a) := by
  cases hl : v.alerts.list with
  | nil =>
    have hsecond : (v.raise k a).offerAlert = v.raise k a := by
      rw [State.raise_of_empty hactive hdest hoffered hl (by rw [hqueue]; rfl)]
      exact State.offerAlert_of_not_due (.inr (.inr (.inl rfl)))
    have h := State.OffersOldest.raise_first hactive hdest hoffered hqueue k a
    rwa [State.offerAlert_of_not_due (.inl hl), ← hsecond]
  | cons e rest =>
    obtain ⟨e', rest', hlist, hkind, hsubject⟩ := AlertUnit.add_head hl k a
    rw [State.offerAlert_of_empty hactive hdest hoffered hqueue hl, State.raise_of_not_due (.inr (.inl rfl))]
    exact ⟨_, e', rfl, rfl, by rw [hlist]; rfl, hkind, hsubject, rfl, rfl, AlertUnit.add_with_offered .., rfl, rfl, rfl,
      rfl, rfl, rfl, rfl⟩

theorem State.OffersOldest.bothOrders :
    v.OffersOldest (v.bothOrders State.offerAlert (fun t => t.raise k a)) (v.alerts.add k a) := by
  rcases State.bothOrders_cases v State.offerAlert (fun t => t.raise k a) with h | h | h <;> rw [h]
  · exact State.OffersOldest.offer_first hactive hdest hoffered hqueue k a
  · exact State.OffersOldest.raise_first (v := { v with choices := v.choices + 1 }) hactive hdest hoffered hqueue k a
  · exact State.OffersOldest.offer_first (v := { v with choices := v.choices + 1 }) hactive hdest hoffered hqueue k a

end Oldest

end Recovery

/-- A port made ACTIVE leaves the trunk as ACTIVE as it was where it is another port. -/
theorem State.isActive_trunk_setLive (s : State) {p : PortId} (h : p ≠ .p0) (l : Live) :
    (s.setLive p l).isActive .p0 = s.isActive .p0 := by
  cases p with
  | p0 => exact absurd rfl h
  | p1 => rfl
  | p2 => rfl
  | p3 => rfl

/-- Settles O45: the two timers of a faulted port, and the offers that are due where it recovers. -/
theorem recoveryMakesPortActive : Obligations.RecoveryMakesPortActive := by
  unfold Obligations.RecoveryMakesPortActive
  intro dt low since p s hfault fresh raised
  have hrestart := exec_recoveryTimerRestart_of_fault hfault dt low
  have hrecover := exec_recovery_of_fault hfault dt
  have hports : ((s.advance dt).setLive p (.fresh (s.now + dt))).ports = fresh := rfl
  refine ⟨fun hearly => ?_, fun hlate => ?_, fun hearly => ?_, fun hlate => ⟨fun hnot => ?noOffer, ?branch, ?trunk⟩⟩
  · rw [hrestart, if_neg (Nat.not_le.mpr hearly)]
  · rw [hrestart, if_pos hlate]
    rfl
  · rw [hrecover, if_neg (Nat.not_le.mpr hearly)]
  case noOffer =>
    have hdue : s.alerts.dest = 0 ∨ s.alerts.offered = true ∨
        ((s.advance dt).setLive p (.fresh (s.now + dt))).isActive .p0 = false := by
      rcases hnot with h | h | ⟨hp, h⟩
      · exact .inl h
      · exact .inr (.inl h)
      · exact .inr (.inr ((State.isActive_trunk_setLive _ hp _).trans h))
    have hfirst := State.offerAlert_of_not_due (s := (s.advance dt).setLive p (.fresh (s.now + dt))) (.inr hdue)
    have hraise := State.raise_of_not_due (v := (s.advance dt).setLive p (.fresh (s.now + dt))) hdue .portRecovered
      (portNumber p)
    have hsecond : State.offerAlert (((s.advance dt).setLive p (.fresh (s.now + dt))).raise .portRecovered
        (portNumber p)) = ((s.advance dt).setLive p (.fresh (s.now + dt))).raise .portRecovered (portNumber p) := by
      rw [hraise]
      refine State.offerAlert_of_not_due (.inr ?_)
      dsimp only
      rw [AlertUnit.add_dest, AlertUnit.add_offered]
      exact hdue
    rw [hrecover, if_pos hlate, State.recover]
    refine congrArg _ ((State.bothOrders_of_same ?_ hfirst).trans hraise)
    rw [hfirst]
    exact congrArg State.trunkQueue hsecond.symm
  case branch =>
    intro hp hactive hdest hoffered hlist hroom entry
    have hactive' := (State.isActive_trunk_setLive (s.advance dt) hp (.fresh (s.now + dt))).trans hactive
    have hfirst := State.offerAlert_of_not_due (s := (s.advance dt).setLive p (.fresh (s.now + dt))) (.inl hlist)
    have hraise := State.raise_of_empty (v := (s.advance dt).setLive p (.fresh (s.now + dt))) hactive' hdest hoffered
      hlist hroom .portRecovered (portNumber p)
    have hsecond : State.offerAlert (((s.advance dt).setLive p (.fresh (s.now + dt))).raise .portRecovered
        (portNumber p)) = ((s.advance dt).setLive p (.fresh (s.now + dt))).raise .portRecovered (portNumber p) := by
      rw [hraise]
      exact State.offerAlert_of_not_due (.inr (.inr (.inl rfl)))
    rw [hrecover, if_pos hlate, State.recover]
    refine congrArg _ ((State.bothOrders_of_same ?_ hfirst).trans hraise)
    rw [hfirst]
    exact congrArg State.trunkQueue hsecond.symm
  case trunk =>
    rintro rfl hdest hoffered hqueue
    have hactive : ((s.advance dt).setLive .p0 (.fresh (s.now + dt))).isActive .p0 = true := by
      rw [State.isActive, State.live?_setLive]
      rfl
    obtain ⟨item, e, ht⟩ := State.OffersOldest.bothOrders (v := (s.advance dt).setLive .p0 (.fresh (s.now + dt)))
      hactive hdest hoffered hqueue .portRecovered (portNumber .p0)
    refine ⟨_, item, e, ?_, ht⟩
    rw [hrecover, if_pos hlate]
    rfl

end Sys2Proof.Machine
end

section
/-! PROOFS. The ends of transmissions: contention, abandonment and completion, and what their owners do (R34 to R36, R43,
R44, R59, R60, R134 to R137). -/

namespace Sys2Proof.Machine

/-! ### The character that ends now (R113, R134) -/

section Contention

variable {s : State} {p : PortId} {l : Live} {c : Current} {since dt : Nat} {frame : List Octet} {back : ReadBack}
  {straps : Straps}

/-- At a character time after the start of a frame its `k`th character has just ended. -/
theorem State.sentNow_of_time {k : Nat} {o : Octet} (hk : frame[k]? = some o)
    (ht : s.now + dt = since + (k + 1) * s.charTime p) :
    (s.advance dt).sentNow p since frame = some (o, decide (k = 0)) := by
  have hpos : 0 < s.charTime p := charTime_pos _
  have helapsed : (s.advance dt).now - since = (k + 1) * (s.advance dt).charTime p := by
    rw [State.advance_now, ht, Nat.add_sub_cancel_left]
    rfl
  rw [State.sentNow, helapsed, Nat.mul_mod_left, if_pos rfl,
    Nat.mul_div_cancel _ (show 0 < (s.advance dt).charTime p from hpos)]
  simp [hk]

theorem exec_contention_of_send (hlive : s.live? p = some l) (htx : l.tx = .send c since frame) :
    exec (.contention { dt := dt, straps := straps } p back) s =
      .next (match (s.advance dt).sentNow p since frame with
        | some sent =>
          if isContention back sent then (s.advance dt).contended p l c back sent.2 straps else s.advance dt
        | none => s.advance dt) := by
  have hrun : exec (.contention { dt := dt, straps := straps } p back) s =
    execContention { dt := dt, straps := straps } p back s := rfl
  rw [hrun, execContention, hlive]
  dsimp only
  rw [htx] <;> rfl

/-- Without a character that is read back as another there is no contention (R134). -/
theorem exec_contention_of_same (hlive : s.live? p = some l) (htx : l.tx = .send c since frame)
    (hsame : ¬ s.ReadsOther p since frame back dt) :
    exec (.contention { dt := dt, straps := straps } p back) s = .next (s.advance dt) := by
  rw [exec_contention_of_send hlive htx]
  cases hsent : (s.advance dt).sentNow p since frame with
  | none => rfl
  | some sent =>
    refine congrArg Host.Outcome.next (if_neg fun hother => hsame ?_)
    exact State.contention_iff_readsOther.mp ⟨sent, hsent, hother⟩

/-- What works in the port after a contention, its transmitter in the state `tx` (R113, R118, R135). -/
theorem exec_contention_of_other (hlive : s.live? p = some l) (htx : l.tx = .send c since frame)
    (hother : s.ReadsOther p since frame back dt) :
    ∃ first, exec (.contention { dt := dt, straps := straps } p back) s =
        .next ((s.advance dt).contended p l c back first straps) ∧
      ∀ tx, { l.afterContention (s.now + dt) (s.port p).rate back first with rx := .hunt, tx := tx } =
        s.contendedLine p l since back dt tx := by
  obtain ⟨k, o, hk, ht, hback⟩ := hother
  refine ⟨decide (k = 0), ?_, fun tx => Live.afterContention_eq ht back tx⟩
  have hcontention : isContention back (o, decide (k = 0)) = true := decide_eq_true hback
  rw [exec_contention_of_send hlive htx, State.sentNow_of_time hk ht]
  exact congrArg _ (if_pos hcontention)

theorem State.contended_of_few {u : State} {first : Bool} (h : c.contentions + 1 < 8) :
    u.contended p l c back first straps =
      (u.setLive p { l.afterContention u.now (u.port p).rate back first with
        rx := .hunt, tx := .backoff { c with contentions := c.contentions + 1 } }).countPort p .contentions :=
  if_pos h

theorem State.contended_of_eighth {u : State} {first : Bool} (h : 7 ≤ c.contentions) :
    u.contended p l c back first straps =
      ((((u.setLive p { l.afterContention u.now (u.port p).rate back first with
        rx := .hunt, tx := .idle }).countPort p .contentions).countPort p .abandoned).releaseOpt
          c.item.buf?).ownerAbandoned p straps c.item :=
  if_neg (by omega)

end Contention

/-- Settles O50: before the 8th contention the item goes to BACKOFF, and its owner hears nothing. -/
theorem contentionBacksOff : Obligations.ContentionBacksOff := by
  unfold Obligations.ContentionBacksOff
  intro dt p back straps l c since frame s hlive htx
  constructor
  · exact exec_contention_of_same hlive htx
  · intro hother hfew
    obtain ⟨first, hrun, hline⟩ := exec_contention_of_other (straps := straps) hlive htx hother
    rw [hrun, State.contended_of_few (by omega), ← hline]
    rfl

/-! ### What the owner of a branch item does (R34 to R36, R59, R60) -/

section BranchOwner

variable {u : State} {b : BranchId} {i : BranchItem} {x : SlotNo} {e : Exchange}

/-- The item is a notice, or its exchange no longer holds the slot: its end concerns nobody (R35, R101). -/
def State.Ownerless (u : State) (b : BranchId) (i : BranchItem) : Prop :=
  i.kind = .notice ∨ ∃ x, (i.kind = .request x ∧ u.slotHeldBy b x .request = false) ∨
    (i.kind = .probe x ∧ u.slotHeldBy b x .probe = false)

theorem State.branchSent_of_ownerless (h : u.Ownerless b i) : u.branchSent b i = u := by
  rcases h with hk | ⟨x, ⟨hk, hheld⟩ | ⟨hk, hheld⟩⟩
  · rw [State.branchSent, hk]
  · rw [State.branchSent, hk]
    exact if_neg (by rw [hheld]; exact Bool.false_ne_true)
  · rw [State.branchSent, hk]
    exact if_neg (by rw [hheld]; exact Bool.false_ne_true)

theorem State.branchAbandoned_of_ownerless (h : u.Ownerless b i) : u.branchAbandoned b i = u := by
  rcases h with hk | ⟨x, ⟨hk, hheld⟩ | ⟨hk, hheld⟩⟩
  · rw [State.branchAbandoned, hk]
  · rw [State.branchAbandoned, hk]
    exact if_neg (by rw [hheld]; exact Bool.false_ne_true)
  · rw [State.branchAbandoned, hk]
    exact if_neg (by rw [hheld]; exact Bool.false_ne_true)

theorem State.branchSent_of_request {d : Direct} (hk : i.kind = .request x) (hheld : u.slotHeldBy b x .request = true)
    (hrecord : u.record x = some e) (hmode : e.mode = .direct d) (hphase : d.phase = .queued) :
    u.branchSent b i = (u.setRecord x (some (e.sent d))).startDeadline b x .request := by
  rw [State.branchSent, hk]
  dsimp only
  rw [if_pos hheld, hrecord]
  dsimp only
  rw [hmode]
  exact if_pos hphase

theorem State.branchSent_of_probe (hk : i.kind = .probe x) (hheld : u.slotHeldBy b x .probe = true) :
    u.branchSent b i = u.startDeadline b x .probe := by
  rw [State.branchSent, hk]
  exact if_pos hheld

theorem State.branchAbandoned_of_request {d : Direct} (hk : i.kind = .request x)
    (hheld : u.slotHeldBy b x .request = true) (hrecord : u.record x = some e) (hmode : e.mode = .direct d)
    (hphase : d.phase = .queued) : u.branchAbandoned b i = (u.setSlot b none).refuse x e d .contention := by
  rw [State.branchAbandoned, hk]
  dsimp only
  rw [if_pos hheld, hrecord]
  dsimp only
  rw [hmode]
  exact if_pos hphase

theorem State.branchAbandoned_of_probe {q : Probe} (hk : i.kind = .probe x) (hheld : u.slotHeldBy b x .probe = true)
    (hrecord : u.record x = some e) (hmode : e.mode = .probe q) :
    u.branchAbandoned b i = (u.setSlot b none).loseBranch x e q b := by
  rw [State.branchAbandoned, hk]
  dsimp only
  rw [if_pos hheld, hrecord]
  dsimp only
  rw [hmode]

end BranchOwner

/-! ### What the owner of a trunk item does (R43, R44, R155, R180, R181) -/

section TrunkOwner

variable {u : State} {x : SlotNo} {e : Exchange}

/-- What the end of its return makes of an exchange (R43, R68). -/
theorem State.returnDone_of_record (hrecord : u.record x = some e) :
    u.returnDone x = u.setRecord x (match e.mode with
      | .direct _ => none
      | .probe q => if setEmpty q.set then none else some { e with mode := .probe { q with pending := false } }) := by
  rw [State.returnDone, hrecord]
  dsimp only
  cases e.mode with
  | direct d => rfl
  | probe q =>
    dsimp only
    rw [State.settle]
    split_ifs with hsettled hset hset
    · rfl
    · exact absurd (Bool.and_eq_true_iff.mp hsettled).1 hset
    · exact absurd (Bool.and_eq_true_iff.mpr ⟨hset, rfl⟩) hsettled
    · rfl

/-- The next offer, after the end of an alert item: it is made with a destination and no other alert item (R179). -/
theorem State.offerAlert_of_free {v : State} {n : AlertEntry} {rest : List AlertEntry} (hactive : v.isActive .p0 = true)
    (hlist : v.alerts.list = n :: rest) (hoffered : v.alerts.offered = false) :
    v.offerAlert = if v.alerts.dest ≠ 0 ∧ classCount v.trunkQueue .alert = 0 then
        { v with
          trunkQueue := v.trunkQueue ++ [.alert (v.alertItem n)]
          alerts := { v.alerts with offered := true } }
      else v := by
  by_cases hdue : v.alerts.dest ≠ 0 ∧ classCount v.trunkQueue .alert = 0
  · rw [if_pos hdue, State.offerAlert_of_due hlist hdue.1 hoffered ((State.admits_alert_iff _ _).mpr ⟨hactive, hdue.2⟩)]
  · rw [if_neg hdue, State.offerAlert, hlist]
    refine if_neg ?_
    rintro ⟨hdest, -, hadmits⟩
    exact hdue ⟨hdest, ((State.admits_alert_iff _ _).mp hadmits).2⟩

end TrunkOwner

/-! ### The state at the end of a transmission (R136, R137) -/

/-- `u` is `s` at a later instant in which nothing has happened but to the line of one port, the counters of the ports,
and the pool. -/
structure State.AtEnd (s u : State) : Prop where
  branches : u.branches = s.branches
  records : u.records = s.records
  trunkQueue : u.trunkQueue = s.trunkQueue
  mgmt : u.mgmt = s.mgmt
  alerts : u.alerts = s.alerts
  table : u.table = s.table
  active : ∀ q, u.isActive q = s.isActive q

namespace State.AtEnd

variable {s u : State}

theorem advance (s : State) (dt : Nat) : s.AtEnd (s.advance dt) :=
  ⟨rfl, rfl, rfl, rfl, rfl, rfl, fun _ => rfl⟩

theorem setLive (h : s.AtEnd u) {p : PortId} {l : Live} (hlive : u.live? p = some l) (m : Live) :
    s.AtEnd (u.setLive p m) :=
  ⟨h.branches, h.records, h.trunkQueue, h.mgmt, h.alerts, h.table,
    fun q => (State.isActive_setLive u p q l m hlive).trans (h.active q)⟩

theorem countPort (h : s.AtEnd u) (p : PortId) (k : PortCounter) : s.AtEnd (u.countPort p k) :=
  ⟨h.branches, h.records, h.trunkQueue, h.mgmt, h.alerts, h.table,
    fun q => (State.isActive_countPort u p q k).trans (h.active q)⟩

theorem releaseOpt (h : s.AtEnd u) (r : Option BufId) : s.AtEnd (u.releaseOpt r) := by
  rw [State.releaseOpt_frame]
  exact ⟨h.branches, h.records, h.trunkQueue, h.mgmt, h.alerts, h.table, h.active⟩

theorem branch (h : s.AtEnd u) (b : BranchId) : u.branch b = s.branch b := by
  rw [State.branch_eq, h.branches, State.branch_eq]

theorem record (h : s.AtEnd u) (x : SlotNo) : u.record x = s.record x := by
  rw [State.record_eq, h.records, State.record_eq]

theorem slotHeldBy (h : s.AtEnd u) (b : BranchId) (x : SlotNo) (k : SlotKind) :
    u.slotHeldBy b x k = s.slotHeldBy b x k := by
  rw [State.slotHeldBy, h.branch, State.slotHeldBy]

theorem admits (h : s.AtEnd u) (i : TrunkItem) : u.admits i = s.admits i :=
  State.admits_congr (h.active .p0) h.trunkQueue i

theorem ownerless (h : s.AtEnd u) {b : BranchId} {i : BranchItem} (ho : s.Ownerless b i) : u.Ownerless b i := by
  unfold State.Ownerless
  simp only [h.slotHeldBy]
  exact ho

end State.AtEnd

/-- Settles O51: at the 8th contention the buffer is released and the owner of the item told, each in its way. -/
theorem eighthContentionAbandonsItem : Obligations.EighthContentionAbandonsItem := by
  unfold Obligations.EighthContentionAbandonsItem
  intro dt p back straps l item since frame s hlive htx hother u run
  obtain ⟨first, hexec, hline⟩ := exec_contention_of_other (straps := straps) hlive htx hother
  have hrun : run = .next (u.ownerAbandoned p straps item) := by
    refine hexec.trans (congrArg _ ((State.contended_of_eighth le_rfl).trans ?_))
    rw [show (s.advance dt).now = s.now + dt from rfl, show (s.advance dt).port p = s.port p from rfl, hline]
  have hend : s.AtEnd u := ((((State.AtEnd.advance s dt).setLive hlive _).countPort ..).countPort ..).releaseOpt _
  have hbranch : ∀ b i, item = .branch i → p = branchPort b → run = .next (u.branchAbandoned b i) := by
    rintro b i rfl rfl
    rw [hrun, State.ownerAbandoned, portBranch_branchPort]
  have htrunk : ∀ i, item = .trunk i → run = .next (u.trunkAbandoned straps i) := by
    rintro i rfl
    exact hrun
  have hownerless : ∀ b i, item = .branch i → p = branchPort b → s.Ownerless b i → run = .next u := by
    intro b i hitem hp ho
    rw [hbranch b i hitem hp, State.branchAbandoned_of_ownerless (hend.ownerless ho)]
  refine ⟨?notice, ?refusal, ?passUp, ?ended, ?request, ?probe, ?lost, ?response, ?alert⟩
  case notice =>
    rintro ⟨b, i, hitem, hp, hk⟩
    exact hownerless b i hitem hp (.inl hk)
  case refusal => rintro ⟨r, hitem | hitem⟩ <;> exact htrunk _ hitem
  case passUp => rintro ⟨b, hitem⟩; exact htrunk _ hitem
  case ended =>
    intro b i x hitem hp hheld
    exact hownerless b i hitem hp (.inr ⟨x, hheld⟩)
  case request =>
    intro b i x e d hitem hp hk hheld hrecord hmode hphase v r
    have hadmits : (u.setSlot b none).admits r = s.admits r := hend.admits r
    have hrefuse : run = .next ((u.setSlot b none).refuse x e d .contention) := by
      rw [hbranch b i hitem hp, State.branchAbandoned_of_request hk ((hend.slotHeldBy ..).trans hheld)
        ((hend.record x).trans hrecord) hmode hphase]
    have hv : (u.setSlot b none).releaseOpt e.request = v := by rw [State.setSlot, hend.branch]
    constructor
    · intro hadm
      rw [hrefuse, State.refuse_of_admits d (hadmits.trans hadm), hv]
      rfl
    · intro hdown
      rw [hrefuse, State.refuse_of_full d (hadmits.trans (State.admits_of_not_active hdown r)), hv]
  case probe =>
    intro b i x e q hitem hp hk hheld hrecord hmode v
    have hv : u.setSlot b none = v := by rw [State.setSlot, hend.branch]
    rw [hbranch b i hitem hp, State.branchAbandoned_of_probe hk ((hend.slotHeldBy ..).trans hheld)
      ((hend.record x).trans hrecord) hmode, hv, State.loseBranch_eq] <;> rfl
  case lost =>
    intro x e hitem hp hrecord
    have hlost : run = .next (u.returnLost x) := by
      rcases hitem with ⟨r, hitem⟩ | ⟨b, hitem⟩ <;> exact htrunk _ hitem
    rw [hlost, State.returnLost, State.returnDone_of_record ((hend.record x).trans hrecord)] <;> rfl
  case response =>
    intro hitem hrestart
    rw [htrunk _ hitem, State.trunkAbandoned, State.settleRestart_of_clear (by
      rw [hend.mgmt]; exact hrestart), hend.mgmt]
  case alert =>
    rintro a e rest hitem rfl hlist
    have hactive : u.isActive .p0 = true := by
      rw [hend.active, State.isActive, hlive]
      rfl
    rw [← hend.alerts] at hlist
    have hoffer := State.offerAlert_of_free (v := { u with alerts := { u.alerts with offered := false } }) hactive hlist
      rfl
    rw [htrunk _ hitem, ← hend.alerts, ← hend.trunkQueue, ← hend.table]
    exact congrArg Host.Outcome.next hoffer

/-- The completion of a transmission whose every character has been sent (R137). -/
theorem exec_transmissionComplete_of_send {s : State} {p : PortId} {l : Live} {c : Current} {since dt : Nat}
    {frame : List Octet} {straps : Straps} (hlive : s.live? p = some l) (htx : l.tx = .send c since frame) :
    exec (.transmissionComplete { dt := dt, straps := straps } p) s =
      .next (if since + frame.length * s.charTime p ≤ s.now + dt then
        (s.advance dt).completed p l c (since + frame.length * s.charTime p - bitTime (s.port p).rate / 2) straps
      else s.advance dt) := by
  have hrun : exec (.transmissionComplete { dt := dt, straps := straps } p) s =
    execTransmissionComplete { dt := dt, straps := straps } p s := rfl
  rw [hrun, execTransmissionComplete, hlive]
  dsimp only
  rw [htx]
  rfl

/-- Settles O52: after its last character the buffer of the item is released and its owner told, each in its way. -/
theorem completionTellsTheOwner : Obligations.CompletionTellsTheOwner := by
  unfold Obligations.CompletionTellsTheOwner
  intro dt p straps l c since frame s hlive htx run high u
  have hexec : run = _ := exec_transmissionComplete_of_send hlive htx
  constructor
  · intro hearly
    rw [hexec, if_neg (Nat.not_le.mpr hearly)]
  intro hlate
  have hrun : run = .next (u.ownerSent p straps c.item) := by
    rw [hexec, if_pos hlate]
    rfl
  have hend : s.AtEnd u := (((State.AtEnd.advance s dt).setLive hlive _).countPort ..).releaseOpt _
  have hnow : u.now = s.now + dt := State.releaseOpt_now ..
  have hbranch : ∀ b i, c.item = .branch i → p = branchPort b → run = .next (u.branchSent b i) := by
    rintro b i hitem rfl
    rw [hrun, hitem, State.ownerSent, portBranch_branchPort]
  have htrunk : ∀ i, c.item = .trunk i → run = .next (u.trunkSent straps i) := by
    intro i hitem
    rw [hrun, hitem, State.ownerSent]
  have hownerless : ∀ b i, c.item = .branch i → p = branchPort b → s.Ownerless b i → run = .next u := by
    intro b i hitem hp ho
    rw [hbranch b i hitem hp, State.branchSent_of_ownerless (hend.ownerless ho)]
  refine ⟨?notice, ?refusal, ?passUp, ?ended, ?request, ?probe, ?done, ?response, ?alert⟩
  case notice =>
    rintro ⟨b, i, hitem, hp, hk⟩
    exact hownerless b i hitem hp (.inl hk)
  case refusal => rintro ⟨r, hitem | hitem⟩ <;> exact htrunk _ hitem
  case passUp => rintro ⟨b, hitem⟩; exact htrunk _ hitem
  case ended =>
    intro b i x hitem hp hheld
    exact hownerless b i hitem hp (.inr ⟨x, hheld⟩)
  case request =>
    intro b i x e d hitem hp hk hheld hrecord hmode hphase
    rw [hbranch b i hitem hp, State.branchSent_of_request hk ((hend.slotHeldBy ..).trans hheld)
      ((hend.record x).trans hrecord) hmode hphase, ← hnow, ← hend.branch]
    rfl
  case probe =>
    intro b i x hitem hp hk hheld
    rw [hbranch b i hitem hp, State.branchSent_of_probe hk ((hend.slotHeldBy ..).trans hheld), ← hnow, ← hend.branch]
    rfl
  case done =>
    intro x e hitem hp hrecord
    have hdone : run = .next (u.returnDone x) := by
      rcases hitem with ⟨r, hitem⟩ | ⟨b, hitem⟩ <;> exact htrunk _ hitem
    rw [hdone, State.returnDone_of_record ((hend.record x).trans hrecord)] <;> rfl
  case response =>
    intro hitem hrestart
    rw [htrunk _ hitem, State.trunkSent, State.settleRestart_of_clear (by
      rw [hend.mgmt]; exact hrestart), hend.mgmt]
  case alert =>
    rintro a e rest hitem rfl hlist marker
    have hactive : u.isActive .p0 = true := by
      rw [hend.active, State.isActive, hlive]
      rfl
    have htail : u.alerts.list.tail = rest := by rw [hend.alerts, hlist]; rfl
    have hsent : u.alertSent a = State.offerAlert { u with alerts :=
        { u.alerts with list := rest, overflow := marker, offered := false } } := by
      rw [State.alertSent, htail, hend.alerts]
    rw [htrunk _ hitem, ← hend.alerts, ← hend.trunkQueue, ← hend.table]
    refine congrArg Host.Outcome.next (hsent.trans ?_)
    cases rest with
    | nil => exact State.offerAlert_of_not_due (.inl rfl)
    | cons n rest => exact State.offerAlert_of_free hactive rfl rfl

/-! ### RESTART (R155, R172, R173) -/

/-- The reset that ends a RESTART looks at nothing but the model's own fields. -/
theorem State.resetAt_congr {s u : State} (hchoices : u.choices = s.choices) (hpending : u.pending = s.pending)
    (straps : Straps) : u.resetAt straps = s.resetAt straps := by
  rw [State.resetAt, hchoices, hpending, State.resetAt]

theorem exec_hardwareReset (dt : Nat) (straps : Straps) (s : State) :
    exec (.hardwareReset dt straps) s = .next (s.resetAt straps) := rfl

/-- The response of a RESTART ends with the reset, completed or abandoned. -/
theorem State.settleRestart_of_answered {s u : State} (hrestart : u.mgmt.restart = true) (hchoices : u.choices = s.choices)
    (hpending : u.pending = s.pending) (straps : Straps) :
    State.settleRestart { u with mgmt := { u.mgmt with phase := .idle } } straps = s.resetAt straps :=
  (State.settleRestart_of_set (s := { u with mgmt := { u.mgmt with phase := .idle } }) hrestart rfl straps).trans
    (State.resetAt_congr hchoices hpending straps)

/-- The completion of a RESTART's response resets the part. -/
theorem State.completed_of_restart {u : State} {c : Current} (hitem : c.item = .trunk .response)
    (hrestart : u.mgmt.restart = true) (p : PortId) (l : Live) (high : Nat) (straps : Straps) :
    u.completed p l c high straps = u.resetAt straps := by
  rw [State.completed, hitem]
  exact State.settleRestart_of_answered
    (u := (u.setLive p { l.spoken u.now high with rx := .hunt, tx := .idle }).countPort p .framesOut) hrestart rfl rfl
    straps

/-- The abandonment of a RESTART's response resets the part. -/
theorem State.contended_of_restart {u : State} {c : Current} (hitem : c.item = .trunk .response)
    (hmany : 7 ≤ c.contentions) (hrestart : u.mgmt.restart = true) (p : PortId) (l : Live) (back : ReadBack)
    (first : Bool) (straps : Straps) : u.contended p l c back first straps = u.resetAt straps := by
  rw [State.contended_of_eighth hmany, hitem]
  exact State.settleRestart_of_answered
    (u := ((u.setLive p { l.afterContention u.now (u.port p).rate back first with
      rx := .hunt, tx := .idle }).countPort p .contentions).countPort p .abandoned) hrestart rfl rfl straps

/-- A response among the items of the trunk, queued or being sent. -/
theorem State.any_isResponse_trunkItems {s : State} {l : Live} (hlive : s.live? .p0 = some l)
    (h : .response ∈ s.trunkQueue ∨ l.tx.current?.map (·.item) = some (.trunk .response)) :
    s.trunkItems.any TrunkItem.isResponse = true := by
  rw [State.trunkItems, State.line_of_live? hlive, List.any_append, Bool.or_eq_true]
  rcases h with h | h
  · exact .inr (List.any_eq_true.mpr ⟨_, h, rfl⟩)
  · obtain ⟨⟨item, n⟩, hc, hitem⟩ := Option.map_eq_some_iff.mp h
    cases hitem
    refine .inl ?_
    rw [Line.trunkItem?, Line.live?_active, Option.bind_some, hc]
    rfl

/-- The teardown of the trunk ends the response of a RESTART (R155, R172). -/
theorem State.stuck_of_restart {s : State} {l : Live} (hlive : s.live? .p0 = some l) (hrestart : s.mgmt.restart = true)
    (hresponse : s.trunkItems.any TrunkItem.isResponse = true) (high : Nat) (straps : Straps) :
    s.stuck .p0 high straps = s.resetAt straps := by
  have hlive' : (s.countPort .p0 .faults).live? .p0 = some l := (State.live?_countPort ..).trans hlive
  obtain ⟨-, hmgmt, -⟩ := State.tearDownTrunk_of_live hlive' (line := .fault high) rfl
  have hitems : (s.countPort .p0 .faults).trunkItems = s.trunkItems := by
    rw [State.trunkItems, State.trunkItems, State.line_of_live? hlive', State.line_of_live? hlive]
    rfl
  have hafter : (((s.countPort .p0 .faults).tearDownTrunk (.fault high)).raise .portFault 0).mgmt =
      { s.mgmt with phase := .idle } := by
    rw [State.raise_mgmt, hmgmt, hitems, Mgmt.afterDrop, if_pos hresponse]
    rfl
  have hstuck : s.stuck .p0 high straps =
    (((s.countPort .p0 .faults).tearDownTrunk (.fault high)).raise .portFault 0).settleRestart straps := rfl
  rw [hstuck, State.settleRestart_of_set (by rw [hafter]; exact hrestart) (by rw [hafter])]
  exact State.resetAt_congr (by rw [State.raise_choices, State.tearDownTrunk_choices]; rfl)
    (by rw [State.raise_pending, State.tearDownTrunk_pending]; rfl) straps

/-- Settles O24: RESTART is answered first, and the three ends of its response reset the part. -/
theorem restartResetsAtEndOfResponse : Obligations.RestartResetsAtEndOfResponse := by
  unfold Obligations.RestartResetsAtEndOfResponse
  intro dt s
  constructor
  · intro h hu hl
    rw [exec_request_of_free (c := .restart dt h) (code := 0x10) rfl hu hl (by decide)]
    exact congrArg _ (State.respond_of_trunk_kept { s.advance dt with mgmt := { s.mgmt with restart := true } } hu rfl
      rfl .ok [])
  · intro l hlive hrestart
    constructor
    · intro n since frame back straps htx
      constructor
      · intro hlate
        rw [exec_transmissionComplete_of_send hlive htx, if_pos hlate, exec_hardwareReset]
        exact congrArg Host.Outcome.next (State.completed_of_restart (u := s.advance dt) rfl hrestart ..)
      · intro hmany hother
        obtain ⟨first, hexec, -⟩ := exec_contention_of_other (straps := straps) hlive htx hother
        rw [hexec, exec_hardwareReset]
        exact congrArg Host.Outcome.next (State.contended_of_restart (u := s.advance dt) rfl hmany hrestart ..)
    · intro low straps hresponse hlow
      obtain ⟨hstuck, -⟩ := execStuckLine_next hlive { dt := dt, straps := straps } low
      have hexec : exec (.stuckLine { dt := dt, straps := straps } .p0 low) s =
        execStuckLine { dt := dt, straps := straps } .p0 low s := rfl
      rw [hexec, hstuck hlow, State.stuck_of_restart (s := s.advance dt) hlive hrestart
        (State.any_isResponse_trunkItems hlive hresponse), exec_hardwareReset]
      rfl

end Sys2Proof.Machine
end

section
/-! PROOFS. The check of a frame, the frames the part builds, and the pins that carry them (R113, R116, R121, R133,
R143). -/

namespace Sys2Proof.Machine

/-! ### The check register is linear (R143) -/

/-- One bit shifts the register, and adds the polynomial where it differs from the bit shifted out. -/
theorem crcBit_eq (reg : Word) (b : Bool) :
    crcBit reg b = (reg >>> 1) ^^^ (if b ^^ reg.getLsbD 0 then 0x8408#16 else 0) := by
  rw [crcBit]
  cases b <;> cases reg.getLsbD 0 <;> simp

theorem crcBit_xor (r s : Word) (b c : Bool) : crcBit (r ^^^ s) (b ^^ c) = crcBit r b ^^^ crcBit s c := by
  have hsum : ∀ x y : Bool, (if x ^^ y then 0x8408#16 else 0) =
      (if x then 0x8408#16 else 0) ^^^ (if y then 0x8408#16 else 0) := by decide
  have hbit : ((b ^^ c) ^^ (r.getLsbD 0 ^^ s.getLsbD 0)) = ((b ^^ r.getLsbD 0) ^^ (c ^^ s.getLsbD 0)) := by
    cases b <;> cases c <;> simp
  rw [crcBit_eq, crcBit_eq, crcBit_eq, BitVec.getLsbD_xor, hbit, hsum, BitVec.ushiftRight_xor_distrib]
  ac_rfl

theorem crcOctet_xor (r s : Word) (a b : Octet) : crcOctet (r ^^^ s) (a ^^^ b) = crcOctet r a ^^^ crcOctet s b := by
  simp only [crcOctet, List.foldl_cons, List.foldl_nil, BitVec.getLsbD_xor, crcBit_xor]

/-- A register that shifts to zero on bit 0 is zero. -/
theorem eq_zero_of_crcBit {d : Word} (h : crcBit d false = 0) : d = 0 := by
  rw [crcBit_eq, Bool.false_xor] at h
  have hshift : (d >>> 1).toNat = d.toNat / 2 := by
    rw [BitVec.toNat_ushiftRight, Nat.shiftRight_eq_div_pow, Nat.pow_one]
  have hlow : d.getLsbD 0 = decide (d.toNat % 2 = 1) := Nat.testBit_zero d.toNat
  cases hbit : d.getLsbD 0 with
  | false =>
    rw [hbit, if_neg Bool.false_ne_true] at h
    have hzero : (d >>> 1).toNat = 0 := congrArg BitVec.toNat (BitVec.xor_eq_zero_iff.mp h)
    rw [hlow, decide_eq_false_iff_not] at hbit
    have hnone : (0 : Word).toNat = 0 := rfl
    exact BitVec.eq_of_toNat_eq (by omega)
  | true =>
    rw [hbit, if_pos rfl] at h
    have htop : (d >>> 1).toNat = 0x8408 := congrArg BitVec.toNat (BitVec.xor_eq_zero_iff.mp h)
    have hlt := d.isLt
    omega

theorem eq_zero_of_crcBits (n : Nat) {d : Word} (h : (List.replicate n false).foldl crcBit d = 0) : d = 0 := by
  induction n generalizing d with
  | zero => exact h
  | succ n ih =>
    rw [List.replicate_succ, List.foldl_cons] at h
    have hnext := ih h
    exact eq_zero_of_crcBit hnext

/-- The octet 0 takes no register but zero to zero. -/
theorem eq_zero_of_crcOctet_zero {d : Word} (h : crcOctet d 0 = 0) : d = 0 :=
  eq_zero_of_crcBits 8 h

/-- From the zero register no octet but 0 leads back to it. -/
theorem eq_zero_of_crcOctet {d : Octet} (h : crcOctet 0 d = 0) : d = 0 := by
  have hall : ∀ n < 256, crcOctet 0 (BitVec.ofNat 8 n) = 0 → n = 0 := by decide +kernel
  refine BitVec.eq_of_toNat_eq (hall d.toNat d.isLt ?_)
  rw [BitVec.ofNat_toNat, BitVec.setWidth_eq]
  exact h

theorem crcOctet_injective_register (o : Octet) : Function.Injective (fun r => crcOctet r o) := by
  intro r s h
  have hzero : crcOctet (r ^^^ s) 0 = 0 := by
    have hxor := crcOctet_xor r s o o
    rw [BitVec.xor_self, show crcOctet r o = crcOctet s o from h, BitVec.xor_self] at hxor
    exact hxor
  exact BitVec.xor_eq_zero_iff.mp (eq_zero_of_crcOctet_zero hzero)

theorem crcOctet_injective_octet (r : Word) : Function.Injective (crcOctet r) := by
  intro a b h
  have hzero : crcOctet 0 (a ^^^ b) = 0 := by
    have hxor := crcOctet_xor r r a b
    rw [BitVec.xor_self, h, BitVec.xor_self] at hxor
    exact hxor
  exact BitVec.xor_eq_zero_iff.mp (eq_zero_of_crcOctet hzero)

/-- The octets that follow take different registers to different registers. -/
theorem foldl_crcOctet_injective (os : List Octet) : Function.Injective (fun r => os.foldl crcOctet r) := by
  induction os with
  | nil => exact fun _ _ h => h
  | cons o os ih => exact ih.comp (crcOctet_injective_register o)

/-- Settles O4: the register is linear, so that a change of one octet is never undone. -/
theorem checkDetectsAlteredOctet : Obligations.CheckDetectsAlteredOctet := by
  unfold Obligations.CheckDetectsAlteredOctet
  refine ⟨by decide +kernel, fun os => ?_, fun before after a b hab hcheck => hab ?_⟩
  · rw [goodCheck, decide_eq_true_eq]
    simp
  · have hregisters := BitVec.not_inj.mp hcheck
    rw [List.foldl_append, List.foldl_append, List.foldl_cons, List.foldl_cons] at hregisters
    exact crcOctet_injective_octet _ (foldl_crcOctet_injective after hregisters)

/-! ### The frames the part builds (R141, R145, R146) -/

theorem ctlOctet_refusal (urgent : Bool) (tag : BitVec 4) :
    ctlOctet .refusal urgent tag = 3 + (if urgent then 8 else 0) + 16 * tag.setWidth 8 := by
  revert urgent tag
  decide

/-! ### The levels of a pin (R113, R116, R133) -/

/-- The level of bit `n` of character `k` of a frame. -/
theorem frameLevel_of_bit {frame : List Octet} {k n : Nat} {o : Octet} (hk : frame[k]? = some o) (hn : n < 11) :
    frameLevel frame (11 * k + n) =
      if n = 0 then false else if n ≤ 8 then o.getLsbD (n - 1) else if n = 9 then decide (k = 0) else true := by
  have hdiv : (11 * k + n) / 11 = k := by omega
  have hmod : (11 * k + n) % 11 = n := by omega
  rw [frameLevel, hdiv, hk]
  dsimp only
  rw [hmod]
  interval_cases n <;> rfl

/-- A pin that carries a frame has the level of the bit of this instant. -/
theorem State.transmitPin_of_driving {s : State} {p : PortId} {f : OnPin} (hf : s.driving p = some f) {k n : Nat}
    {o : Octet} (hk : f.frame[k]? = some o) (hn : n < 11) (hfrom : f.since + (11 * k + n) * bitTime f.rate ≤ s.now)
    (huntil : s.now < f.since + (11 * k + n + 1) * bitTime f.rate) :
    s.transmitPin p =
      if n = 0 then false else if n ≤ 8 then o.getLsbD (n - 1) else if n = 9 then decide (k = 0) else true := by
  have hbits : (s.now - f.since) / bitTime f.rate = 11 * k + n :=
    Nat.div_eq_of_lt_le (by omega) (by omega)
  rw [State.transmitPin, hf]
  dsimp only
  rw [hbits]
  exact frameLevel_of_bit hk hn

section Pins

variable {s : State} {p : PortId}

theorem State.driving_of_send {l : Live} {c : Current} {since : Nat} {frame : List Octet} (hlive : s.live? p = some l)
    (htx : l.tx = .send c since frame) :
    s.driving p = some { since := since, frame := frame, rate := (s.port p).rate } := by
  rw [State.driving, hlive, Option.bind_some, htx]
  rfl

/-- Without a frame in SEND the pin carries what a teardown lets finish. -/
theorem State.driving_of_quiet (h : ∀ l, s.live? p = some l → l.tx.sending? = none) :
    s.driving p = (s.port p).tail.bind (Tail.at? s.now) := by
  have hnone : (s.live? p).bind (fun l => l.tx.sending?) = none := by
    cases hlive : s.live? p with
    | none => rfl
    | some l => exact h l hlive
  rw [State.driving, hnone]

end Pins

/-- Settles O47: the frames are the layouts with their check, and a pin follows the frame that is on it. -/
theorem sentFramesFollowTheLayouts : Obligations.SentFramesFollowTheLayouts := by
  unfold Obligations.SentFramesFollowTheLayouts
  intro s own
  refine ⟨fun _ => rfl, fun _ _ => rfl, fun _ => rfl, rfl, ?refusal, ?alert, ?pins⟩
  case refusal =>
    intro r i hi code os
    have hcode : r.reason.code = code := by cases hr : r.reason <;> simp only [code, hr] <;> rfl
    have hframe : s.itemFrame (.trunk i) = refusalFrame own r := by
      rcases hi with ⟨x, rfl⟩ | rfl | rfl <;> rfl
    rw [hframe, refusalFrame, ctlOctet_refusal, hcode]
    rfl
  case alert =>
    intro a code os
    have hcode : a.entry.kind.code = code := by cases hk : a.entry.kind <;> simp only [code, hk] <;> rfl
    have hframe : s.itemFrame (.trunk (.alert a)) = alertFrame own a := rfl
    rw [hframe, alertFrame, hcode]
    rfl
  case pins =>
    intro p bitAt
    refine ⟨fun l c since frame hlive htx => ?send, fun hquiet => ⟨fun t htail hlasts => ?tail, fun hover => ?idle⟩⟩
    case send =>
      have hdriving := State.driving_of_send hlive htx
      refine ⟨by rw [State.driverEnabled, hdriving]; rfl, fun k o n hk hn hfrom huntil => ?_⟩
      exact State.transmitPin_of_driving hdriving hk hn hfrom huntil
    case tail =>
      have hdriving : s.driving p = some { since := t.since, frame := t.frame, rate := t.rate } := by
        rw [State.driving_of_quiet hquiet, htail, Option.bind_some, Tail.at?, if_pos hlasts]
      refine ⟨by rw [State.driverEnabled, hdriving]; rfl, fun k o n hk hn hfrom huntil => ?_⟩
      exact State.transmitPin_of_driving hdriving hk hn hfrom huntil
    case idle =>
      have hdriving : s.driving p = none := by
        rw [State.driving_of_quiet hquiet]
        cases htail : (s.port p).tail with
        | none => rfl
        | some t => exact if_neg (Nat.not_lt.mpr (hover t htail))
      rw [State.driverEnabled, State.transmitPin, hdriving]
      exact ⟨rfl, rfl⟩

end Sys2Proof.Machine
end

section
/-! PROOFS. What a teardown and a FLUSH do to the sixteen records in their order (R45, R48, R70, R71). -/

namespace Sys2Proof.Machine

/-! ### A sweep over the records -/

/-- What becomes of a PROBE exchange in a sweep: what is left of its record, the reference it releases, and whether it
is a probe miss. -/
structure ProbeEnd where
  left : Option Exchange
  released : Option BufId
  missed : Bool

/-- What a teardown or a FLUSH does to each record: the DIRECT exchanges that it refuses, for what reason, and what
becomes of the PROBE exchanges. -/
structure Sweep where
  pick : Direct → Bool
  reason : Reason
  probe : Exchange → Probe → ProbeEnd

namespace Sweep

/-- The refusal that a record returns with. -/
def refusal? (w : Sweep) (x : SlotNo) (o : Option Exchange) : Option TrunkItem :=
  o.bind (fun e => match e.mode with
    | .direct d => if w.pick d then some (.refusalReturn x (e.refusal w.reason)) else none
    | .probe _ => none)

/-- What is left of a record, with the trunk ACTIVE or not (R31). -/
def left (w : Sweep) (up : Bool) : Option Exchange → Option Exchange
  | none => none
  | some e => match e.mode with
    | .direct d =>
      if w.pick d then
        if up then some { e with request := none, mode := .direct { d with phase := .returning } } else none
      else some e
    | .probe q => (w.probe e q).left

/-- The request reference that a record releases. -/
def released (w : Sweep) : Option Exchange → Option BufId
  | none => none
  | some e => match e.mode with
    | .direct d => if w.pick d then e.request else none
    | .probe q => (w.probe e q).released

/-- The record turns into a probe miss. -/
def missed (w : Sweep) : Option Exchange → Bool
  | none => false
  | some e => match e.mode with
    | .direct _ => false
    | .probe q => (w.probe e q).missed

/-- How often a bridge counter is counted for a record. -/
def counted (w : Sweep) (up : Bool) (x : SlotNo) (o : Option Exchange) (c : BridgeCounter) : Nat :=
  if c = .refusals w.reason then if up && (w.refusal? x o).isSome then 1 else 0
  else if c = .returnsLost then if !up && (w.refusal? x o).isSome then 1 else 0
  else if c = .probeMisses then if w.missed o then 1 else 0
  else 0

end Sweep

/-- The refusals that records return with, in their order. -/
def Sweep.refusals (w : Sweep) (s : State) (xs : List SlotNo) : List TrunkItem :=
  xs.filterMap (fun x => w.refusal? x (s.record x))

/-- One record is swept. -/
def State.sweepRecord (w : Sweep) (s : State) (x : SlotNo) : State :=
  match s.record x with
  | none => s
  | some e => match e.mode with
    | .direct d => if w.pick d then s.refuse x e d w.reason else s
    | .probe q =>
      if (w.probe e q).missed then
        ((s.releaseOpt (w.probe e q).released).setRecord x (w.probe e q).left).count .probeMisses
      else (s.releaseOpt (w.probe e q).released).setRecord x (w.probe e q).left

/-! ### All that a sweep does -/

/-- `t` is `s` with the records `xs` swept, their request references released, and the trunk queue and the bridge
counters left aside. -/
structure State.SweptRecords (w : Sweep) (up : Bool) (s t : State) (xs : List SlotNo) : Prop where
  records : ∀ y, t.record y = if y ∈ xs then w.left up (s.record y) else s.record y
  length : t.records.length = s.records.length
  buffers : t.pool.buffers.length = s.pool.buffers.length
  octets : ∀ a, (t.pool.buffer a).octets = (s.pool.buffer a).octets
  released : s.pool.buffers.length = 48 →
    Pool.Released s.pool t.pool (fun a => sumOver (fun x => holds a (w.released (s.record x))) xs)
  frame : t = { s with records := t.records, pool := t.pool, trunkQueue := t.trunkQueue, counters := t.counters }

/-- `t` is `s` after the records `xs` have been swept, with the trunk ACTIVE or not. -/
structure State.Swept (w : Sweep) (up : Bool) (s t : State) (xs : List SlotNo) : Prop extends
    State.SweptRecords w up s t xs where
  queue : t.trunkQueue = s.trunkQueue ++ if up then w.refusals s xs else []
  counters : ∀ c, t.bridgeCounter c =
    countedTimes (s.bridgeCounter c) (sumOver (fun x => w.counted up x (s.record x) c) xs)

theorem countedTimes_add (c : Word) (m n : Nat) : countedTimes c (m + n) = countedTimes (countedTimes c m) n := by
  induction m generalizing c with
  | zero => rw [Nat.zero_add, countedTimes]
  | succ m ih => rw [Nat.succ_add, countedTimes, countedTimes, ih]

theorem sumOver_cons {α : Type} (f : α → Nat) (a : α) (l : List α) : sumOver f (a :: l) = f a + sumOver f l := rfl

theorem sumOver_singleton {α : Type} (f : α → Nat) (a : α) : sumOver f [a] = f a := Nat.add_zero _

theorem sumOver_congr {α : Type} {f g : α → Nat} {l : List α} (h : ∀ a ∈ l, f a = g a) : sumOver f l = sumOver g l :=
  congrArg List.sum (List.map_congr_left h)

/-- The places of a list for which a condition holds, counted one by one. -/
theorem sumOver_indicator {α : Type} (p : α → Bool) (l : List α) :
    sumOver (fun a => if p a then 1 else 0) l = (l.filter p).length := by
  induction l with
  | nil => rfl
  | cons a l ih =>
    rw [sumOver_cons, ih, List.filter_cons]
    split_ifs
    · rw [List.length_cons, Nat.add_comm]
    · rw [Nat.zero_add]

theorem length_filterMap_eq {α β : Type} (f : α → Option β) (l : List α) :
    (l.filterMap f).length = (l.filter (fun a => (f a).isSome)).length := by
  induction l with
  | nil => rfl
  | cons a l ih =>
    cases hf : f a <;> simp [hf, ih]

theorem State.bridgeCounter_releaseOpt (s : State) (r : Option BufId) (c : BridgeCounter) :
    (s.releaseOpt r).bridgeCounter c = s.bridgeCounter c := by
  rw [State.bridgeCounter, State.releaseOpt_counters, State.bridgeCounter]

theorem State.octets_releaseOpt (s : State) (r : Option BufId) (a : BufId) :
    ((s.releaseOpt r).pool.buffer a).octets = (s.pool.buffer a).octets := by
  cases r with
  | none => rfl
  | some b => exact Pool.octets_release s.pool a b

theorem State.setRecord_self {s : State} {x : SlotNo} (hx : x.val < s.records.length) :
    s.setRecord x (s.record x) = s := by
  have hset : s.records.set x.val (s.record x) = s.records := by
    rw [State.record_eq, List.getD_eq_getElem _ _ hx, List.set_getElem_self]
  rw [State.setRecord, hset]

namespace State.Swept

variable {w : Sweep} {up : Bool} {s t u : State} {x : SlotNo} {xs : List SlotNo}

theorem nil (s : State) : s.Swept w up s [] where
  records y := by rw [if_neg (List.not_mem_nil)]
  length := rfl
  buffers := rfl
  octets _ := rfl
  released _ := Pool.Released.refl s.pool
  frame := rfl
  queue := by simp [Sweep.refusals]
  counters _ := rfl

/-- A record of which a sweep leaves everything as it is. -/
theorem same (hleft : w.left up (s.record x) = s.record x) (hrefusal : w.refusal? x (s.record x) = none)
    (hreleased : w.released (s.record x) = none) (hmissed : w.missed (s.record x) = false) : s.Swept w up s [x] where
  records y := by
    split_ifs with hy
    · obtain rfl := List.mem_singleton.mp hy
      exact hleft.symm
    · rfl
  length := rfl
  queue := by simp [Sweep.refusals, hrefusal]
  counters c := by
    rw [sumOver_singleton, Sweep.counted, hrefusal, hmissed]
    simp [countedTimes]
  buffers := rfl
  octets _ := rfl
  released _ := by
    simp only [sumOver_singleton, hreleased, holds]
    exact Pool.Released.refl s.pool
  frame := rfl

/-- The records of a list are swept one after another. -/
theorem cons (hx : x ∉ xs) (h : s.Swept w up t [x]) (hs : t.Swept w up u xs) : s.Swept w up u (x :: xs) := by
  have hrest : ∀ y ∈ xs, t.record y = s.record y := fun y hy => by
    rw [h.records y, if_neg]
    rintro hm
    obtain rfl := List.mem_singleton.mp hm
    exact hx hy
  refine ⟨⟨fun y => ?records, hs.length.trans h.length, hs.buffers.trans h.buffers,
    fun a => (hs.octets a).trans (h.octets a), fun hlength => ?released, ?frame⟩, ?queue, fun c => ?counters⟩
  case records =>
    rw [hs.records y]
    by_cases hy : y ∈ xs
    · rw [if_pos hy, if_pos (List.mem_cons_of_mem _ hy), hrest y hy]
    · rw [if_neg hy, h.records y]
      refine if_congr ?_ rfl rfl
      rw [List.mem_singleton, List.mem_cons]
      exact ⟨.inl, fun hor => hor.resolve_right hy⟩
  case released =>
    have hboth := (h.released hlength).trans (hs.released (h.buffers.trans hlength))
    have heq : (fun a => sumOver (fun x => holds a (w.released (s.record x))) [x] +
        sumOver (fun y => holds a (w.released (t.record y))) xs) =
        fun a => sumOver (fun y => holds a (w.released (s.record y))) (x :: xs) := by
      funext a
      rw [sumOver_singleton, sumOver_cons, sumOver_congr fun y hy => by rw [hrest y hy]]
    rwa [heq] at hboth
  case frame =>
    have hframe := hs.frame
    rw [h.frame] at hframe
    exact hframe
  case queue =>
    have htail : w.refusals t xs = w.refusals s xs := List.filterMap_congr fun y hy => by rw [hrest y hy]
    rw [hs.queue, h.queue, htail]
    cases up with
    | false => simp
    | true =>
      rw [if_pos rfl, if_pos rfl, if_pos rfl, List.append_assoc, Sweep.refusals, Sweep.refusals,
        ← List.filterMap_append, List.singleton_append, ← Sweep.refusals]
  case counters =>
    rw [hs.counters, h.counters, ← countedTimes_add, sumOver_singleton, sumOver_cons,
      sumOver_congr fun y hy => by rw [hrest y hy]]

end State.Swept

/-! ### One record -/

namespace State.SweptRecords

variable {w : Sweep} {up : Bool} {s t : State} {x : SlotNo} {xs : List SlotNo}

/-- The trunk queue and the bridge counters are left aside. -/
theorem with_queue (h : s.SweptRecords w up t xs) (queue : List TrunkItem) (counters : BridgeCounters) :
    s.SweptRecords w up { t with trunkQueue := queue, counters := counters } xs where
  records := h.records
  length := h.length
  buffers := h.buffers
  octets := h.octets
  released := h.released
  frame := by
    rw [h.frame]

/-- A record is replaced, and the request reference it gives up is released. -/
theorem of_release {left : Option Exchange} {r : Option BufId} (hx : x.val < s.records.length)
    (hleft : w.left up (s.record x) = left) (hreleased : w.released (s.record x) = r) :
    s.SweptRecords w up ((s.releaseOpt r).setRecord x left) [x] where
  records y := by
    rw [State.record_setRecord _ _ _ _ (by rw [State.releaseOpt_records]; exact hx)]
    by_cases hy : y = x
    · subst hy
      rw [if_pos rfl, if_pos (List.mem_singleton_self y), hleft]
    · rw [if_neg hy, if_neg (fun hm => hy (List.mem_singleton.mp hm)), State.record_eq, State.releaseOpt_records,
        ← State.record_eq]
  length := by rw [State.setRecord_records, List.length_set, State.releaseOpt_records]
  buffers := by
    cases r with
    | none => rfl
    | some b => exact Pool.length_release s.pool b
  octets a := State.octets_releaseOpt s r a
  released hlength := by
    simp only [sumOver_singleton, hreleased]
    exact State.released_releaseOpt hlength r
  frame := by
    rw [State.setRecord, State.releaseOpt_frame]

end State.SweptRecords

namespace State.Swept

variable {w : Sweep} {s : State} {x : SlotNo} {e : Exchange} {d : Direct} {q : Probe}

/-- A DIRECT exchange that the sweep refuses. -/
theorem refuse {up : Bool} (hx : x.val < s.records.length) (hrecord : s.record x = some e) (hmode : e.mode = .direct d)
    (hpick : w.pick d = true) (hup : s.admits (.refusalReturn x (e.refusal w.reason)) = up) :
    s.Swept w up (s.refuse x e d w.reason) [x] := by
  have hrefusal : w.refusal? x (s.record x) = some (.refusalReturn x (e.refusal w.reason)) := by
    simp [Sweep.refusal?, hrecord, hmode, hpick]
  have hreleased : w.released (s.record x) = e.request := by simp [Sweep.released, hrecord, hmode, hpick]
  have hmissed : w.missed (s.record x) = false := by simp [Sweep.missed, hrecord, hmode]
  cases up with
  | true =>
    have hleft : w.left true (s.record x) =
        some { e with request := none, mode := .direct { d with phase := .returning } } := by
      simp [Sweep.left, hrecord, hmode, hpick]
    rw [State.refuse_of_admits d hup]
    refine ⟨(SweptRecords.of_release hx hleft hreleased).with_queue _ _, ?_, fun c => ?_⟩
    · simp only [if_true, Sweep.refusals, List.filterMap_cons, hrefusal, List.filterMap_nil]
      exact congrArg (· ++ _) (State.releaseOpt_trunkQueue s e.request)
    · have hsame : ∀ c, ((s.releaseOpt e.request).enqueue (.refusalReturn x (e.refusal w.reason))).bridgeCounter c =
        s.bridgeCounter c := fun c => State.bridgeCounter_releaseOpt s e.request c
      refine (State.bridgeCounter_count _ (.refusals w.reason) c).trans ?_
      rw [hsame, hsame, sumOver_singleton, Sweep.counted, hrefusal, hmissed]
      split_ifs with hc <;> simp_all [countedTimes]
  | false =>
    have hleft : w.left false (s.record x) = none := by simp [Sweep.left, hrecord, hmode, hpick]
    rw [State.refuse_of_full d hup]
    refine ⟨(SweptRecords.of_release hx hleft hreleased).with_queue _ _, ?_, fun c => ?_⟩
    · rw [if_neg Bool.false_ne_true, List.append_nil]
      exact State.releaseOpt_trunkQueue s e.request
    · refine (State.bridgeCounter_count _ .returnsLost c).trans ?_
      rw [State.bridgeCounter_releaseOpt, State.bridgeCounter_releaseOpt, sumOver_singleton, Sweep.counted, hrefusal,
        hmissed]
      split_ifs with hc <;> simp_all [countedTimes]

/-- A PROBE exchange, whatever becomes of it. -/
theorem probe {up : Bool} (hx : x.val < s.records.length) (hrecord : s.record x = some e) (hmode : e.mode = .probe q) :
    s.Swept w up (s.sweepRecord w x) [x] := by
  have hrefusal : w.refusal? x (s.record x) = none := by simp [Sweep.refusal?, hrecord, hmode]
  have hleft : w.left up (s.record x) = (w.probe e q).left := by simp [Sweep.left, hrecord, hmode]
  have hreleased : w.released (s.record x) = (w.probe e q).released := by simp [Sweep.released, hrecord, hmode]
  have hmissed : w.missed (s.record x) = (w.probe e q).missed := by simp [Sweep.missed, hrecord, hmode]
  have hcore := SweptRecords.of_release hx hleft hreleased
  have hsame : ∀ c, ((s.releaseOpt (w.probe e q).released).setRecord x (w.probe e q).left).bridgeCounter c =
    s.bridgeCounter c := fun c => State.bridgeCounter_releaseOpt s _ c
  rw [State.sweepRecord, hrecord]
  dsimp only
  rw [hmode]
  dsimp only
  cases hm : (w.probe e q).missed with
  | true =>
    rw [if_pos rfl]
    refine ⟨hcore.with_queue _ _, ?_, fun c => ?_⟩
    · simp [Sweep.refusals, hrefusal, State.count]
    · rw [sumOver_singleton, Sweep.counted, hrefusal, hmissed, hm, State.bridgeCounter_count, hsame, hsame]
      split_ifs with hc <;> simp_all [countedTimes]
  | false =>
    rw [if_neg Bool.false_ne_true]
    refine ⟨hcore, ?_, fun c => ?_⟩
    · simp [Sweep.refusals, hrefusal]
    · rw [sumOver_singleton, Sweep.counted, hrefusal, hmissed, hm, hsame]
      simp [countedTimes]

end State.Swept

end Sys2Proof.Machine
end

section
/-! PROOFS. The teardown of a branch and a FLUSH as sweeps over all sixteen records (R45, R48, R70, R71, R103, R104). -/

namespace Sys2Proof.Machine

/-! ### A sweep over all records -/

/-- A refusal return is admitted while P0 is ACTIVE and the EXCHANGE class has room (R106). -/
theorem State.admits_refusalReturn (s : State) (x : SlotNo) (r : RefusalItem) :
    s.admits (.refusalReturn x r) = (s.isActive .p0 && decide (classCount s.trunkQueue .exchange < 16)) := by
  rw [State.admits, show placeFree s.trunkQueue (.refusalReturn x r) = true from rfl, Bool.and_true]
  rfl

theorem Sweep.eq_of_mem_refusals {w : Sweep} {s : State} {xs : List SlotNo} {i : TrunkItem}
    (h : i ∈ w.refusals s xs) : ∃ x r, i = .refusalReturn x r := by
  obtain ⟨x, -, hx⟩ := List.mem_filterMap.mp h
  rw [Sweep.refusal?, Option.bind_eq_some_iff] at hx
  obtain ⟨e, -, he⟩ := hx
  cases hm : e.mode with
  | probe q =>
    rw [hm] at he
    cases he
  | direct d =>
    rw [hm] at he
    dsimp only at he
    split_ifs at he
    exact ⟨x, _, (Option.some.inj he).symm⟩

theorem Sweep.classCount_append_refusals (w : Sweep) (s : State) (xs : List SlotNo) (q : List TrunkItem) :
    classCount (q ++ w.refusals s xs) .exchange = classCount q .exchange + (w.refusals s xs).length := by
  have hall : (w.refusals s xs).filter (fun i => decide (i.cls = .exchange)) = w.refusals s xs :=
    List.filter_eq_self.mpr fun i hi => by
      obtain ⟨x, r, rfl⟩ := Sweep.eq_of_mem_refusals hi
      rfl
  rw [classCount, List.filter_append, List.length_append, hall, classCount]

/-- Refusal returns take no place of a response (R106, R107). -/
theorem State.admits_response_of_refusals {s t : State} {w : Sweep} {u : State} {xs : List SlotNo}
    (ha : t.isActive .p0 = s.isActive .p0) (hq : t.trunkQueue = s.trunkQueue ++ w.refusals u xs) :
    t.admits .response = s.admits .response := by
  have hclass : (w.refusals u xs).filter (fun i => decide (i.cls = .management)) = [] :=
    List.filter_eq_nil_iff.mpr fun i hi => by
      obtain ⟨x, r, rfl⟩ := Sweep.eq_of_mem_refusals hi
      exact Bool.false_ne_true
  have hplace : (w.refusals u xs).all (fun j => !j.isResponse) = true :=
    List.all_eq_true.mpr fun i hi => by
      obtain ⟨x, r, rfl⟩ := Sweep.eq_of_mem_refusals hi
      rfl
  have hcount : classCount t.trunkQueue .management = classCount s.trunkQueue .management := by
    rw [hq, classCount, List.filter_append, hclass, List.append_nil, classCount]
  have hfree : placeFree t.trunkQueue .response = placeFree s.trunkQueue .response := by
    rw [hq, placeFree, List.all_append, hplace, Bool.and_true]
    rfl
  rw [State.admits, State.admits, ha, hfree]
  exact congrArg (fun n => s.isActive .p0 && decide (n < TrunkClass.limit .management) && _) hcount

theorem Sweep.refusals_congr {s t : State} (w : Sweep) (h : ∀ x, t.record x = s.record x) (xs : List SlotNo) :
    w.refusals t xs = w.refusals s xs :=
  List.filterMap_congr fun x _ => by rw [h x]

namespace State.Swept

variable {w : Sweep} {up : Bool} {s t : State} {x : SlotNo} {xs : List SlotNo}

/-- Every record after a sweep over all. -/
theorem record_all (h : s.Swept w up t allSlots) (x : SlotNo) : t.record x = w.left up (s.record x) := by
  rw [h.records x, if_pos (mem_allSlots x)]

theorem ports (h : s.Swept w up t xs) : t.ports = s.ports := by rw [h.frame]

theorem isActive (h : s.Swept w up t xs) (p : PortId) : t.isActive p = s.isActive p := by
  rw [State.isActive_eq, h.ports, ← State.isActive_eq]

/-- One record, where the trunk has room for the refusal it may return with. -/
theorem one (hx : x.val < s.records.length) (hup : s.isActive .p0 = up)
    (hroom : up = true → classCount s.trunkQueue .exchange + (w.refusals s [x]).length ≤ 16) :
    s.Swept w up (s.sweepRecord w x) [x] := by
  cases hrecord : s.record x with
  | none =>
    rw [State.sweepRecord, hrecord]
    exact same (by rw [hrecord]; rfl) (by rw [hrecord]; rfl) (by rw [hrecord]; rfl) (by rw [hrecord]; rfl)
  | some e =>
    cases hmode : e.mode with
    | probe q => exact probe hx hrecord hmode
    | direct d =>
      rw [State.sweepRecord, hrecord]
      dsimp only
      rw [hmode]
      dsimp only
      cases hpick : w.pick d with
      | false =>
        rw [if_neg Bool.false_ne_true]
        exact same (by simp [Sweep.left, hrecord, hmode, hpick]) (by simp [Sweep.refusal?, hrecord, hmode, hpick])
          (by simp [Sweep.released, hrecord, hmode, hpick]) (by simp [Sweep.missed, hrecord, hmode])
      | true =>
        rw [if_pos rfl]
        refine refuse hx hrecord hmode hpick ?_
        rw [State.admits_refusalReturn, hup]
        cases up with
        | false => rfl
        | true =>
          have hone : (w.refusals s [x]).length = 1 := by simp [Sweep.refusals, Sweep.refusal?, hrecord, hmode, hpick]
          have := hroom rfl
          rw [hone] at this
          exact decide_eq_true this

/-- All records of a list, one after another, where the trunk has room for the refusals they return with. -/
theorem all {step : State → SlotNo → State}
    (hstep : ∀ (t : State) x, t.records.length = 16 → step t x = t.sweepRecord w x) (hnodup : xs.Nodup)
    (hlength : s.records.length = 16) (hup : s.isActive .p0 = up)
    (hroom : up = true → classCount s.trunkQueue .exchange + (w.refusals s xs).length ≤ 16) :
    s.Swept w up (xs.foldl step s) xs := by
  induction xs generalizing s with
  | nil => exact nil s
  | cons x xs ih =>
    obtain ⟨hx, hxs⟩ := List.nodup_cons.mp hnodup
    have happend : w.refusals s (x :: xs) = w.refusals s [x] ++ w.refusals s xs :=
      List.filterMap_append (l := [x]) (l' := xs)
    have hone : s.Swept w up (s.sweepRecord w x) [x] := one (x.isLt.trans_eq hlength.symm) hup fun h => by
      have := hroom h
      rw [happend, List.length_append] at this
      omega
    have htail : w.refusals (s.sweepRecord w x) xs = w.refusals s xs := List.filterMap_congr fun y hy => by
      rw [hone.records y, if_neg]
      intro hm
      obtain rfl := List.mem_singleton.mp hm
      exact hx hy
    rw [List.foldl_cons, hstep s x hlength]
    refine hone.cons hx (ih hxs (hone.length.trans hlength) ((hone.isActive .p0).trans hup) fun h => ?_)
    subst h
    have := hroom rfl
    rw [happend, List.length_append] at this
    rw [htail, hone.queue, if_pos rfl, Sweep.classCount_append_refusals]
    omega

/-- How often each bridge counter is counted in all (R31, R47, R67). -/
theorem bridgeCounter (h : s.Swept w up t xs) (c : BridgeCounter) :
    t.bridgeCounter c = countedTimes (s.bridgeCounter c)
      (if c = .refusals w.reason then if up then (w.refusals s xs).length else 0
       else if c = .returnsLost then if up then 0 else (w.refusals s xs).length
       else if c = .probeMisses then (xs.filter (fun x => w.missed (s.record x))).length
       else 0) := by
  have hzero : sumOver (fun _ : SlotNo => 0) xs = 0 := by simp [sumOver]
  rw [h.counters c, Sweep.refusals, length_filterMap_eq, ← sumOver_indicator, ← sumOver_indicator]
  congr 1
  unfold Sweep.counted
  split_ifs <;> simp_all

end State.Swept

/-! ### The two sweeps -/

/-- A DIRECT exchange that the teardown of branch `b` refuses (R45). -/
def Direct.livesOn (b : BranchId) (d : Direct) : Bool := decide (d.port = b) && d.onBranch

/-- The teardown of branch `b` at the records (R45, R67, R68, R70). -/
def downSweep (b : BranchId) : Sweep where
  pick := Direct.livesOn b
  reason := .portDown
  probe e q :=
    { left :=
        if branchGet q.set b = false then some e
        else if setEmpty (branchSet q.set b false) = true ∧ (q.phase = .probing ∨ q.pending = false) then none
        else some { e with mode := .probe { q with set := branchSet q.set b false } }
      released := if e.endsWith b then e.request else none
      missed := e.endsWith b }

/-- FLUSH at the records (R48, R71). -/
def flushSweep : Sweep where
  pick := Direct.onBranch
  reason := .flushed
  probe e q :=
    { left := if q.phase = .settling ∧ q.pending = true then some { e with mode := .probe { q with set := emptySet } }
        else none
      released := if q.phase = .probing then e.request else none
      missed := false }

theorem Exchange.endsWith_of_probe {e : Exchange} {q : Probe} (h : e.mode = .probe q) (b : BranchId) :
    e.endsWith b = (decide (q.phase = .probing) && branchGet q.set b && setEmpty (branchSet q.set b false)) := by
  rw [Exchange.endsWith, h]

theorem State.downRecord_eq {t : State} {x : SlotNo} (b : BranchId) (ht : t.records.length = 16) :
    t.downRecord b x = t.sweepRecord (downSweep b) x := by
  have hx : x.val < t.records.length := x.isLt.trans_eq ht.symm
  unfold State.downRecord State.sweepRecord
  cases hrecord : t.record x with
  | none => rfl
  | some e =>
    cases hmode : e.mode with
    | direct d =>
      dsimp only
      rw [hmode]
      by_cases hd : d.port = b <;> simp [downSweep, Direct.livesOn, hd]
    | probe q =>
      have hself : t.setRecord x (some e) = t := by rw [← hrecord, State.setRecord_self hx]
      dsimp only
      rw [hmode]
      simp only [downSweep, Exchange.endsWith_of_probe hmode, State.loseBranch_eq]
      cases hin : branchGet q.set b with
      | false => simp [hself, State.releaseOpt]
      | true =>
        cases hempty : setEmpty (branchSet q.set b false) with
        | false => simp [State.releaseOpt]
        | true =>
          cases hphase : q.phase with
          | probing => simp
          | settling => cases hpending : q.pending <;> simp [State.releaseOpt]

theorem State.flushRecord_eq {t : State} {x : SlotNo} : t.flushRecord x = t.sweepRecord flushSweep x := by
  unfold State.flushRecord State.sweepRecord
  cases t.record x with
  | none => rfl
  | some e =>
    cases hmode : e.mode with
    | direct d =>
      dsimp only
      rw [hmode]
      rfl
    | probe q =>
      dsimp only
      rw [hmode]
      simp only [flushSweep, State.settle]
      cases hphase : q.phase with
      | probing => simp
      | settling =>
        have hempty : setEmpty emptySet = true := rfl
        cases hpending : q.pending <;> simp [State.releaseOpt, hempty]

/-- The probes that the teardown of a branch turns into misses. -/
theorem downSweep_missed (s : State) (b : BranchId) :
    (allSlots.filter (fun x => (downSweep b).missed (s.record x))).length = s.missesWithout b := by
  unfold State.missesWithout
  congr 2
  funext x
  cases s.record x with
  | none => rfl
  | some e => cases hmode : e.mode <;> simp [Sweep.missed, hmode, downSweep]

theorem downSweep_released_some (b : BranchId) (e : Exchange) :
    (downSweep b).released (some e) = if e.endsWith b then e.request else none := by
  cases hmode : e.mode with
  | direct d => simp [Sweep.released, hmode, downSweep, Exchange.endsWith, Direct.livesOn]
  | probe q => simp [Sweep.released, hmode, downSweep]

/-- The references that the teardown of a branch releases, those of the records as the sweep counts them. -/
theorem State.heldThrough_eq (s : State) (b : BranchId) (l : Live) (a : BufId) :
    s.heldThrough b l a = holds a l.rx.buf? + holds a l.tx.buf? + sumOver (itemHolds a) (s.branch b).queue +
      sumOver (fun x => holds a ((downSweep b).released (s.record x))) allSlots := by
  unfold State.heldThrough
  congr 2
  funext x
  cases s.record x with
  | none => rfl
  | some e =>
    rw [downSweep_released_some]
    cases hends : e.endsWith b <;> simp [hends, holds]

/-! ### What is emptied first -/

/-- An emptied branch queue releases the reference of each item (R94, R103). -/
theorem State.released_emptyQueue {s : State} (h : s.pool.buffers.length = 48) (b : BranchId) :
    Pool.Released s.pool (s.emptyQueue b).pool (fun a => sumOver (itemHolds a) (s.branch b).queue) := by
  have hall := State.released_releaseAll (s := s.setQueue b []) h ((s.branch b).queue.map (·.buf))
  have heq : (fun a => sumOver (fun c => holds a (some c)) ((s.branch b).queue.map (·.buf))) =
      fun a => sumOver (itemHolds a) (s.branch b).queue := by
    funext a
    rw [sumOver, List.map_map]
    rfl
  rwa [heq] at hall

theorem State.length_emptyQueue (s : State) (b : BranchId) :
    (s.emptyQueue b).pool.buffers.length = s.pool.buffers.length :=
  State.length_releaseAll (s.setQueue b []) _

theorem State.branches_clear_emptyQueue (s : State) (b : BranchId) :
    ((s.emptyQueue b).clearBranch b).branches =
      branchSet s.branches b { s.branch b with queue := [], slot := none, holder := none, lastTimedOut := none } := by
  have hempty : (s.emptyQueue b).branches = branchSet s.branches b { s.branch b with queue := [] } :=
    State.releaseAll_branches ..
  rw [State.clearBranch_branches, State.branch_eq, hempty]
  cases b <;> rfl

/-! ### The records after the sweeps -/

theorem flushSweep_left_direct {e : Exchange} {d : Direct} (h : e.mode = .direct d) :
    flushSweep.left true (some e) = if d.phase = .returning then some e
      else some { e with request := none, mode := .direct { d with phase := .returning } } := by
  cases hphase : d.phase <;> simp [Sweep.left, h, flushSweep, Direct.onBranch, hphase]

theorem flushSweep_left_probe {e : Exchange} {q : Probe} (h : e.mode = .probe q) (up : Bool) :
    flushSweep.left up (some e) = if q.phase = .settling ∧ q.pending = true then
      some { e with mode := .probe { q with set := emptySet } } else none := by
  rw [Sweep.left, h]; rfl

theorem downSweep_left_direct {b : BranchId} {up : Bool} {e : Exchange} {d : Direct} (h : e.mode = .direct d) :
    (downSweep b).left up (some e) = if d.livesOn b = false then some e
      else if up = true then some { e with request := none, mode := .direct { d with phase := .returning } }
      else none := by
  cases hlives : d.livesOn b <;> simp [Sweep.left, h, downSweep, hlives]

theorem downSweep_left_probe {b : BranchId} {up : Bool} {e : Exchange} {q : Probe} (h : e.mode = .probe q) :
    (downSweep b).left up (some e) = if branchGet q.set b = false then some e
      else if setEmpty (branchSet q.set b false) = true ∧ (q.phase = .probing ∨ q.pending = false) then none
      else some { e with mode := .probe { q with set := branchSet q.set b false } } := by
  rw [Sweep.left, h]; rfl

/-! ### FLUSH -/

/-- What a FLUSH has emptied before it settles the records (R48, R104). -/
def State.emptied (s : State) : State := allBranches.foldl (fun t p => (t.emptyQueue p).clearBranch p) s

theorem State.branch_emptied (s : State) (b : BranchId) :
    s.emptied.branch b = { s.branch b with queue := [], slot := none, holder := none, lastTimedOut := none } := by
  rw [State.branch_eq]
  simp only [State.emptied, allBranches, List.foldl_cons, List.foldl_nil, State.branches_clear_emptyQueue,
    State.branch_eq]
  cases b <;> rfl

theorem State.octets_releaseAll (s : State) (bs : List BufId) (a : BufId) :
    ((s.releaseAll bs).pool.buffer a).octets = (s.pool.buffer a).octets := by
  induction bs generalizing s with
  | nil => rfl
  | cons b bs ih => exact (ih (s.release b)).trans (Pool.octets_release s.pool a b)

theorem State.octets_emptyQueue (s : State) (b : BranchId) (a : BufId) :
    ((s.emptyQueue b).pool.buffer a).octets = (s.pool.buffer a).octets :=
  State.octets_releaseAll (s.setQueue b []) _ a

theorem State.octets_emptied (s : State) (a : BufId) : (s.emptied.pool.buffer a).octets = (s.pool.buffer a).octets := by
  simp only [State.emptied, allBranches, List.foldl_cons, List.foldl_nil, State.clearBranch_pool,
    State.octets_emptyQueue]

/-- `t` is `s` after a FLUSH with the trunk ACTIVE and room for the refusals. -/
structure State.Flushed (s t : State) : Prop where
  active : t.isActive .p0 = s.isActive .p0
  queue : t.trunkQueue = s.trunkQueue ++ flushSweep.refusals s allSlots
  branches : ∀ b, t.branch b = { s.branch b with queue := [], slot := none, holder := none, lastTimedOut := none }
  records : ∀ x, t.record x = flushSweep.left true (s.record x)
  refused : t.bridgeCounter (.refusals .flushed) =
    countedTimes (s.bridgeCounter (.refusals .flushed)) (flushSweep.refusals s allSlots).length
  counters : ∀ c, c ≠ .refusals .flushed → t.bridgeCounter c = s.bridgeCounter c
  octets : ∀ a, (t.pool.buffer a).octets = (s.pool.buffer a).octets

theorem State.record_emptied (s : State) (x : SlotNo) : s.emptied.record x = s.record x := by
  rw [State.record_eq, State.emptied, State.emptyBranches_records, State.record_eq]

theorem State.bridgeCounter_emptied (s : State) (c : BridgeCounter) : s.emptied.bridgeCounter c = s.bridgeCounter c := by
  rw [State.bridgeCounter, State.emptied, State.emptyBranches_counters, State.bridgeCounter]

theorem State.isActive_emptied (s : State) (p : PortId) : s.emptied.isActive p = s.isActive p := by
  rw [State.isActive_eq, State.emptied, State.emptyBranches_ports, ← State.isActive_eq]

theorem flushSweep_missed (o : Option Exchange) : flushSweep.missed o = false := by
  cases o with
  | none => rfl
  | some e => cases hm : e.mode <;> simp [Sweep.missed, hm, flushSweep]

theorem State.flushed_of_room {s : State} (hlength : s.records.length = 16) (hup : s.isActive .p0 = true)
    (hroom : classCount s.trunkQueue .exchange + (flushSweep.refusals s allSlots).length ≤ 16) :
    s.Flushed s.flushed := by
  have hrefusals : flushSweep.refusals s.emptied allSlots = flushSweep.refusals s allSlots :=
    Sweep.refusals_congr flushSweep s.record_emptied allSlots
  have hqueue : s.emptied.trunkQueue = s.trunkQueue := State.emptyBranches_trunkQueue ..
  have hswept : s.emptied.Swept flushSweep true s.flushed allSlots :=
    State.Swept.all (fun t x _ => State.flushRecord_eq) nodup_allSlots
      ((congrArg List.length (State.emptyBranches_records ..)).trans hlength) ((s.isActive_emptied .p0).trans hup)
      fun _ => by rwa [hrefusals, hqueue]
  have hbranches : s.flushed.branches = s.emptied.branches := by rw [hswept.frame]
  have hmissed : ∀ xs : List SlotNo, xs.filter (fun x => flushSweep.missed (s.emptied.record x)) = [] := fun xs => by
    simp [flushSweep_missed]
  constructor
  case active => exact (hswept.isActive .p0).trans (s.isActive_emptied .p0)
  case queue => rw [hswept.queue, if_pos rfl, hrefusals, hqueue]
  case branches =>
    intro b
    rw [← s.branch_emptied b, State.branch_eq, hbranches, ← State.branch_eq]
  case records => exact fun x => (hswept.record_all x).trans (by rw [State.record_emptied])
  case refused => rw [hswept.bridgeCounter, State.bridgeCounter_emptied, hrefusals]; rfl
  case counters =>
    intro c hc
    rw [hswept.bridgeCounter, State.bridgeCounter_emptied, if_neg (show c ≠ .refusals flushSweep.reason from hc), hmissed]
    simp [countedTimes]
  case octets => exact fun a => (hswept.octets a).trans (s.octets_emptied a)

/-- Settles O23: the branches are emptied, every record is swept, and the response follows the refusals. -/
theorem flushSettlesEveryExchange : Obligations.FlushSettlesEveryExchange := by
  unfold Obligations.FlushSettlesEveryExchange
  intro dt h s hu hl hlength hroom
  have hrun := exec_request_of_free (c := .flush dt h) (code := 0x0F) (s := s) rfl hu hl (by decide)
  have hsame : flushSweep.refusals (s.advance dt) allSlots = s.refusalsFor Direct.onBranch .flushed := rfl
  have hflushed := State.flushed_of_room (s := s.advance dt) hlength (State.isActive_of_unitFree hu)
    (by rw [hsame]; exact hroom)
  have hframe := State.flushed_frame (s.advance dt)
  generalize (s.advance dt).flushed = t at *
  obtain ⟨hactive, hqueue, hbranches, hrecords, hrefused, hcounters, hoctets⟩ := hflushed
  obtain ⟨-, -, -, hplace⟩ := id hu
  have hadmits : t.admits .response = true := (State.admits_response_of_refusals hactive hqueue).trans hplace
  rw [hsame] at hqueue hrefused
  refine ⟨t.answered 0 h 0x0F 0 [], ?run, congrArg (· ++ [TrunkItem.response]) hqueue, hbranches, fun x hx => ?free,
    fun x e d hx hm => ?direct, fun x e q hx hm => ?probe, hrefused, hcounters, hoctets, ?rest⟩
  case run => exact hrun.trans (congrArg _ (State.respond_of_admits h 0x0F .ok [] hadmits))
  case free => exact (hrecords x).trans (congrArg _ hx)
  case direct => exact (hrecords x).trans ((congrArg _ hx).trans (flushSweep_left_direct hm))
  case probe => exact (hrecords x).trans ((congrArg _ hx).trans (flushSweep_left_probe hm true))
  case rest =>
    rw [hframe]
    exact ⟨rfl, rfl, rfl, rfl, rfl, rfl⟩

end Sys2Proof.Machine
end

section
/-! PROOFS. Disabling a branch, and a stuck branch line (R45, R70, R103, R118, R120, R121). -/

namespace Sys2Proof.Machine

/-! ### The teardown of a branch -/

/-- `t` is `s` after the teardown of branch `b`, which had `l` at work, the trunk queue left aside. -/
structure State.TornDown (b : BranchId) (l : Live) (line : Line) (up : Bool) (s t : State) : Prop where
  port : t.port (branchPort b) = s.stoppedPort (branchPort b) l line
  otherPorts : ∀ p, p ≠ branchPort b → t.port p = s.port p
  branch : t.branch b = { s.branch b with queue := [], slot := none, holder := none, lastTimedOut := none }
  otherBranches : ∀ c, c ≠ b → t.branch c = s.branch c
  records : ∀ x, t.record x = (downSweep b).left up (s.record x)
  counters : ∀ c, t.bridgeCounter c = countedTimes (s.bridgeCounter c)
    (if c = .refusals .portDown then if up then ((downSweep b).refusals s allSlots).length else 0
     else if c = .returnsLost then if up then 0 else ((downSweep b).refusals s allSlots).length
     else if c = .probeMisses then s.missesWithout b
     else 0)
  released : s.pool.buffers.length = 48 → Pool.Released s.pool t.pool (s.heldThrough b l)

/-- The branch is stopped and emptied ahead of the sweep over the records. -/
def State.stoppedBranch (s : State) (b : BranchId) (line : Line) : State :=
  ((s.stopPort (branchPort b) line).emptyQueue b).clearBranch b

theorem State.length_releaseOpt (s : State) (r : Option BufId) :
    (s.releaseOpt r).pool.buffers.length = s.pool.buffers.length := by
  cases r with
  | none => rfl
  | some c => exact Pool.length_release s.pool c

section Stopped

variable {s : State} {b : BranchId} {l : Live} {line : Line}

theorem State.stoppedBranch_frame (h : s.live? (branchPort b) = some l) (line : Line) :
    s.stoppedBranch b line = { s with
      ports := portSet s.ports (branchPort b) (s.stoppedPort (branchPort b) l line)
      branches := branchSet s.branches b
        { s.branch b with queue := [], slot := none, holder := none, lastTimedOut := none }
      pool := (s.stoppedBranch b line).pool } := by
  have hbranches : (s.stoppedBranch b line).branches = branchSet s.branches b
      { s.branch b with queue := [], slot := none, holder := none, lastTimedOut := none } := by
    rw [State.stoppedBranch, State.branches_clear_emptyQueue, State.branch_eq, State.stopPort_branches, State.branch_eq]
  have hports : (s.stoppedBranch b line).ports = portSet s.ports (branchPort b) (s.stoppedPort (branchPort b) l line) := by
    rw [State.stoppedBranch, State.clearBranch_ports, State.emptyQueue_ports, State.stopPort_ports_of_live h]
  have hrest : s.stoppedBranch b line = { s with
      ports := (s.stoppedBranch b line).ports
      branches := (s.stoppedBranch b line).branches
      pool := (s.stoppedBranch b line).pool } := by
    rw [State.stoppedBranch, State.clearBranch, State.setBranch, State.emptyQueue_frame, State.stopPort_frame]
  rw [hrest, hbranches, hports]

theorem State.released_stoppedBranch (h : s.live? (branchPort b) = some l) (hlength : s.pool.buffers.length = 48)
    (line : Line) :
    Pool.Released s.pool (s.stoppedBranch b line).pool
      (fun a => holds a l.rx.buf? + holds a l.tx.buf? + sumOver (itemHolds a) (s.branch b).queue) := by
  have hrx := State.released_releaseOpt
    (s := s.setPort (branchPort b) (s.stoppedPort (branchPort b) l line)) hlength l.rx.buf?
  have htx := State.released_releaseOpt ((State.length_releaseOpt
    (s.setPort (branchPort b) (s.stoppedPort (branchPort b) l line)) l.rx.buf?).trans hlength) l.tx.buf?
  have hstop : (s.stopPort (branchPort b) line).pool.buffers.length = 48 := by
    rw [State.stopPort_of_live h]
    rw [State.length_releaseOpt, State.length_releaseOpt]
    exact hlength
  have hqueue := State.released_emptyQueue hstop b
  rw [State.stopPort_of_live h] at hqueue
  have hall := (hrx.trans htx).trans hqueue
  rw [State.branch_eq, State.releaseOpt_branches, State.releaseOpt_branches] at hall
  rw [State.stoppedBranch, State.clearBranch_pool, State.stopPort_of_live h]
  exact hall

theorem State.length_stoppedBranch (h : s.live? (branchPort b) = some l) (line : Line) :
    (s.stoppedBranch b line).pool.buffers.length = s.pool.buffers.length := by
  rw [State.stoppedBranch, State.clearBranch_pool, State.length_emptyQueue, State.stopPort_of_live h,
    State.length_releaseOpt, State.length_releaseOpt]
  rfl

end Stopped

/-- A branch is torn down, with the trunk ACTIVE and room for the refusals, or not ACTIVE. -/
theorem State.tornDown_tearDownBranch {s : State} {b : BranchId} {l : Live} {up : Bool}
    (h : s.live? (branchPort b) = some l) (hrecords : s.records.length = 16)
    (hup : s.isActive .p0 = up)
    (hroom : up = true → classCount s.trunkQueue .exchange + ((downSweep b).refusals s allSlots).length ≤ 16)
    (line : Line) :
    s.TornDown b l line up (s.tearDownBranch b line) ∧
      (s.tearDownBranch b line).trunkQueue =
        s.trunkQueue ++ if up then (downSweep b).refusals s allSlots else [] := by
  have hframe := State.stoppedBranch_frame h line
  have hreleased := fun hpool => State.released_stoppedBranch h hpool line
  have hpoolLength := State.length_stoppedBranch h line
  have hdown : s.tearDownBranch b line = allSlots.foldl (State.downRecord b) (s.stoppedBranch b line) := rfl
  rw [hdown]
  generalize s.stoppedBranch b line = u at *
  have hrecord : ∀ x, u.record x = s.record x := fun x => by
    rw [hframe]
    rfl
  have hcounter : ∀ c, u.bridgeCounter c = s.bridgeCounter c := fun c => by
    rw [hframe]
    rfl
  have hlength : u.records = s.records := by rw [hframe]
  have hqueue : u.trunkQueue = s.trunkQueue := by rw [hframe]
  have hports : u.ports = portSet s.ports (branchPort b) (s.stoppedPort (branchPort b) l line) := by rw [hframe]
  have hbranches : u.branches = branchSet s.branches b
    { s.branch b with queue := [], slot := none, holder := none, lastTimedOut := none } := by rw [hframe]
  have hactive : u.isActive .p0 = up := by
    rw [State.isActive_eq, hports, ← hup, State.isActive_eq]
    cases b <;> rfl
  have hrefusals : (downSweep b).refusals u allSlots = (downSweep b).refusals s allSlots :=
    Sweep.refusals_congr _ hrecord allSlots
  have hswept : u.Swept (downSweep b) up (allSlots.foldl (State.downRecord b) u) allSlots :=
    State.Swept.all (fun t x ht => State.downRecord_eq b ht) nodup_allSlots (hlength ▸ hrecords) hactive
      (by rwa [hrefusals, hqueue])
  generalize allSlots.foldl (State.downRecord b) u = t at *
  have hall := hswept.frame
  refine ⟨⟨?port, fun p hp => ?otherPorts, ?branch, fun c hc => ?otherBranches, fun x => ?records, fun c => ?counters,
    ?released⟩, ?queue⟩
  case port => rw [State.port_eq, hswept.ports, hports, portGet_portSet, if_pos rfl]
  case otherPorts => rw [State.port_eq, hswept.ports, hports, portGet_portSet, if_neg hp, State.port_eq]
  case branch => rw [hall, State.branch_eq, hbranches, branchGet_branchSet, if_pos rfl]
  case otherBranches => rw [hall, State.branch_eq, hbranches, branchGet_branchSet, if_neg hc, State.branch_eq]
  case records => rw [hswept.record_all, hrecord]
  case counters =>
    rw [hswept.bridgeCounter, hcounter, hrefusals]
    simp only [hrecord, downSweep_missed]; rfl
  case released =>
    intro hpool
    have hboth := (hreleased hpool).trans (hswept.released (by rw [hpoolLength, hpool]))
    simp only [hrecord, ← State.heldThrough_eq] at hboth
    exact hboth
  case queue => rw [hswept.queue, hqueue, hrefusals]

theorem State.live?_of_line {s : State} {p : PortId} {l : Live} (h : (s.port p).line = .active l) :
    s.live? p = some l := by
  rw [State.live?, h]
  rfl

/-- What an earlier instant says of the tail that a teardown leaves. -/
theorem State.tailAfter_eq (s : State) (dt : Nat) (p : PortId) (t : Tx) :
    s.tailAfter dt p t = t.tailAt (s.now + dt) (s.charTime p) (s.port p).rate (s.port p).tail := by
  cases t <;> rfl

/-! ### Disabling -/

/-- PORT-CONTROL disable of an ACTIVE branch. -/
theorem exec_portControlDisable_of_active {s : State} {h : Header} {b : BranchId} {l : Live} (hu : s.UnitFree h)
    (hl : h.len = 3) (hline : (s.port (branchPort b)).line = .active l) (dt : Nat) :
    exec (.portControlDisable dt h (branchNumber b)) s =
      .next (((s.advance dt).tearDownBranch b .disabled).respond h 0x0D .ok
        [branchNumber b, (((s.advance dt).tearDownBranch b .disabled).port (branchPort b)).line.code]) := by
  have hrun := exec_request_of_free (c := .portControlDisable dt h (branchNumber b)) (code := 0x0D) (s := s) rfl hu hl
    (by decide)
  have hdisable : (s.advance dt).disable b = (s.advance dt).tearDownBranch b .disabled := by
    rw [State.disable, show ((s.advance dt).port (branchPort b)).line = .active l from hline]
  rw [portOfOctet_branchNumber] at hrun
  dsimp only at hrun
  rw [portBranch_branchPort] at hrun
  dsimp only at hrun
  rwa [hdisable] at hrun

/-- Settles O21: the branch is torn down, and the response follows the refusals. -/
theorem disablingTearsDownBranch : Obligations.DisablingTearsDownBranch := by
  unfold Obligations.DisablingTearsDownBranch
  intro dt h b l s hu hl hline hrecords hpool onIt hroom
  have hsame : (downSweep b).refusals (s.advance dt) allSlots = s.refusalsFor onIt .portDown := rfl
  have hrun := exec_portControlDisable_of_active hu hl hline dt
  obtain ⟨htorn, hqueue⟩ := State.tornDown_tearDownBranch (s := s.advance dt) (up := true) (State.live?_of_line hline)
    hrecords (State.isActive_of_unitFree hu) (fun _ => by rw [hsame]; exact hroom) .disabled
  have hframe := State.tearDownBranch_frame (s.advance dt) b .disabled
  generalize (s.advance dt).tearDownBranch b .disabled = t at *
  obtain ⟨hport, hothers, hbranch, hrest, hleft, hcounters, hreleased⟩ := htorn
  rw [if_pos rfl] at hqueue
  have hactive : t.isActive .p0 = s.isActive .p0 := by
    rw [State.isActive, State.live?, hothers .p0 (by cases b <;> decide)]
    rfl
  obtain ⟨-, -, -, hplace⟩ := id hu
  have hadmits : t.admits .response = true :=
    (State.admits_response_of_refusals (s := s.advance dt) hactive hqueue).trans hplace
  have hcode : (t.port (branchPort b)).line.code = 0 := by
    rw [hport]
    rfl
  rw [hsame] at hqueue
  simp only [hsame, if_true] at hcounters
  refine ⟨t.answered 0 h 0x0D 0 [branchNumber b, 0], ?run, congrArg (· ++ [TrunkItem.response]) hqueue,
    congrArg Port.line hport, (congrArg Port.counters hport).trans rfl, hothers, hbranch, hrest, fun x hx => ?free,
    fun x e d hx hm => ?direct, fun x e q hx hm => ?probe, ?refused, ?misses, fun c hc hc' => ?others, hreleased hpool,
    (congrArg Port.tail hport).trans (s.tailAfter_eq dt _ _).symm, ?rest⟩
  case run => rw [hrun, hcode, State.respond_of_admits h 0x0D .ok _ hadmits]; rfl
  case free => exact (hleft x).trans (congrArg _ hx)
  case direct =>
    refine (hleft x).trans ((congrArg _ hx).trans ((downSweep_left_direct hm).trans ?_))
    have honIt : onIt d = d.livesOn b := rfl
    rw [honIt, if_pos rfl]
    cases d.livesOn b <;> rfl
  case probe => exact (hleft x).trans ((congrArg _ hx).trans (downSweep_left_probe hm))
  case refused => exact hcounters (.refusals .portDown)
  case misses => exact hcounters .probeMisses
  case others =>
    refine (hcounters c).trans ?_
    rw [if_neg hc, if_neg hc']
    split_ifs <;> rfl
  case rest =>
    rw [hframe]
    exact ⟨rfl, rfl, rfl, rfl, rfl⟩

end Sys2Proof.Machine
end

section
/-! PROOFS. A branch line held low for too long: the teardown and PORT-FAULT in either order (R118, R121, R45, log 11). -/

namespace Sys2Proof.Machine

/-! ### A raised alert -/

theorem State.offerAlert_overflow (s : State) : s.offerAlert.alerts.overflow = s.alerts.overflow := by
  unfold State.offerAlert
  split
  · rfl
  · split <;> rfl

theorem State.raise_overflow (s : State) (k : AlertKind) (a : Octet) :
    (s.raise k a).alerts.overflow = (s.alerts.add k a).overflow :=
  State.offerAlert_overflow _

/-- No item is offered while P0 is not ACTIVE. -/
theorem State.raise_trunkQueue_of_down {s : State} (h : s.isActive .p0 = false) (k : AlertKind) (a : Octet) :
    (s.raise k a).trunkQueue = s.trunkQueue := by
  have hdown : State.isActive { s with alerts := s.alerts.add k a } .p0 = false := h
  rw [State.raise, State.offerAlert_of_down hdown]

/-- The EXCHANGE class does not see the alerts. -/
theorem classCount_exchange_of_otherItems {q r : List TrunkItem}
    (h : q.filter (fun i => !i.isAlert) = r.filter (fun i => !i.isAlert)) :
    classCount q .exchange = classCount r .exchange := by
  have hother : ∀ l : List TrunkItem, classCount l .exchange = classCount (l.filter (fun i => !i.isAlert)) .exchange :=
    fun l => by
      rw [classCount, classCount, List.filter_filter]
      congr 1
      refine List.filter_congr fun i _ => ?_
      cases i <;> rfl
  rw [hother q, hother r, h]

/-! ### The teardown and the alert -/

/-- `t` is `s` after the teardown of branch `b` and the raising of an alert, in one order or the other. -/
structure State.TornDownRaising (b : BranchId) (l : Live) (line : Line) (up : Bool) (k : AlertKind) (a : Octet)
    (s t : State) : Prop extends State.TornDown b l line up s t where
  otherItems : t.trunkQueue.filter (fun i => !i.isAlert) =
    s.trunkQueue.filter (fun i => !i.isAlert) ++ if up then (downSweep b).refusals s allSlots else []
  queue_of_down : up = false → t.trunkQueue = s.trunkQueue
  list : t.alerts.list = (s.alerts.add k a).list
  overflow : t.alerts.overflow = (s.alerts.add k a).overflow
  rest : t.table = s.table ∧ t.mgmt = s.mgmt ∧ t.addr = s.addr ∧ t.now = s.now

section Orders

variable {s t : State} {b : BranchId} {l : Live} {line : Line} {up : Bool} {k : AlertKind} {a : Octet}

/-- The teardown does not see the trunk queue, the alert unit and the count of choices. -/
theorem State.TornDown.of_start {queue : List TrunkItem} {alerts : AlertUnit} {n : Nat}
    (h : State.TornDown b l line up { s with trunkQueue := queue, alerts := alerts, choices := n } t) :
    s.TornDown b l line up t :=
  ⟨h.port, h.otherPorts, h.branch, h.otherBranches, h.records, h.counters, h.released⟩

theorem State.TornDown.then_raise (h : s.TornDown b l line up t) (k : AlertKind) (a : Octet) :
    s.TornDown b l line up (t.raise k a) := by
  rw [State.raise_frame]
  exact ⟨h.port, h.otherPorts, h.branch, h.otherBranches, h.records, h.counters, h.released⟩

theorem State.TornDownRaising.of_choices {n : Nat}
    (h : State.TornDownRaising b l line up k a { s with choices := n } t) : s.TornDownRaising b l line up k a t where
  toTornDown := h.toTornDown.of_start (queue := s.trunkQueue) (alerts := s.alerts)
  otherItems := h.otherItems
  queue_of_down := h.queue_of_down
  list := h.list
  overflow := h.overflow
  rest := h.rest

theorem Sweep.otherItems_refusals (w : Sweep) (s : State) (xs : List SlotNo) :
    (w.refusals s xs).filter (fun i => !i.isAlert) = w.refusals s xs :=
  List.filter_eq_self.mpr fun i hi => by
    obtain ⟨x, r, rfl⟩ := Sweep.eq_of_mem_refusals hi
    rfl

section Live

variable (h : s.live? (branchPort b) = some l) (hrecords : s.records.length = 16) (hup : s.isActive .p0 = up)
  (hroom : up = true → classCount s.trunkQueue .exchange + ((downSweep b).refusals s allSlots).length ≤ 16)

include h hrecords hup hroom

/-- The alert follows the teardown. -/
theorem State.tornDownRaising_alert_last (line : Line) (k : AlertKind) (a : Octet) :
    s.TornDownRaising b l line up k a ((s.tearDownBranch b line).raise k a) := by
  obtain ⟨htorn, hqueue⟩ := State.tornDown_tearDownBranch h hrecords hup hroom line
  refine ⟨htorn.then_raise k a, ?otherItems, fun hu => ?queue, ?list, ?overflow, by simp⟩
  case otherItems =>
    rw [State.raise_otherItems, hqueue, List.filter_append]
    cases up with
    | false => rfl
    | true => exact congrArg _ (Sweep.otherItems_refusals ..)
  case queue =>
    subst hu
    have htrunk : (s.tearDownBranch b line).isActive .p0 = false := by
      rw [State.isActive, State.live?, htorn.otherPorts .p0 (by cases b <;> decide)]
      exact hup
    rw [State.raise_trunkQueue_of_down htrunk, hqueue]
    exact List.append_nil _
  case list => rw [State.raise_list, State.tearDownBranch_alerts]
  case overflow => rw [State.raise_overflow, State.tearDownBranch_alerts]

/-- The alert precedes the teardown. -/
theorem State.tornDownRaising_alert_first (line : Line) (k : AlertKind) (a : Octet) :
    s.TornDownRaising b l line up k a ((s.raise k a).tearDownBranch b line) := by
  have hother := State.raise_otherItems s k a
  have hrefusals : (downSweep b).refusals (s.raise k a) allSlots = (downSweep b).refusals s allSlots :=
    Sweep.refusals_congr _ (fun x => by rw [State.record_eq, State.raise_records, State.record_eq]) _
  have hactive : (s.raise k a).isActive .p0 = s.isActive .p0 := by
    rw [State.isActive_eq, State.raise_ports, ← State.isActive_eq]
  obtain ⟨htorn, hqueue⟩ := State.tornDown_tearDownBranch (s := s.raise k a) (b := b) (l := l) (up := up)
    (by rw [State.live?_eq, State.raise_ports, ← State.live?_eq, h]) (by rwa [State.raise_records])
    (hactive.trans hup)
    (by rwa [hrefusals, classCount_exchange_of_otherItems hother]) line
  rw [hrefusals] at hqueue
  refine ⟨?torn, ?otherItems, fun hu => ?queue, ?list, ?overflow, by simp⟩
  case torn =>
    generalize (s.raise k a).tearDownBranch b line = t at htorn ⊢
    rw [State.raise_frame] at htorn
    exact htorn.of_start (n := s.choices)
  case otherItems =>
    rw [hqueue, List.filter_append, hother]
    cases up with
    | false => rfl
    | true => exact congrArg _ (Sweep.otherItems_refusals ..)
  case queue =>
    subst hu
    rw [hqueue, State.raise_trunkQueue_of_down hup]
    exact List.append_nil _
  case list => rw [State.tearDownBranch_alerts, State.raise_list]
  case overflow => rw [State.tearDownBranch_alerts, State.raise_overflow]

/-- The two in an order that is left open (log 11). -/
theorem State.tornDownRaising_bothOrders (line : Line) (k : AlertKind) (a : Octet) :
    s.TornDownRaising b l line up k a
      (s.bothOrders (fun t => t.tearDownBranch b line) (fun t => t.raise k a)) := by
  rcases State.bothOrders_cases s (fun t => t.tearDownBranch b line) (fun t => t.raise k a) with heq | heq | heq
  · rw [heq]
    exact State.tornDownRaising_alert_last h hrecords hup hroom line k a
  · rw [heq]
    exact (State.tornDownRaising_alert_first (s := { s with choices := s.choices + 1 }) h hrecords hup hroom line
      k a).of_choices
  · rw [heq]
    exact (State.tornDownRaising_alert_last (s := { s with choices := s.choices + 1 }) h hrecords hup hroom line
      k a).of_choices

end Live

end Orders

/-! ### A stuck branch line -/

theorem State.faultAsserted_of_fault {s : State} {p : PortId} {since : Nat} (h : (s.port p).line = .fault since) :
    s.faultAsserted = true :=
  s.faultAsserted_iff.mpr (.inl ⟨p, since, h⟩)

theorem State.stuck_branch (s : State) (b : BranchId) (high : Nat) (straps : Straps) :
    s.stuck (branchPort b) high straps = (s.countPort (branchPort b) .faults).bothOrders
      (fun t => t.tearDownBranch b (.fault high)) (fun t => t.raise .portFault (branchNumber b)) := by
  cases b <;> rfl

/-- FAULTS is counted on branch `b`, `dt` later. -/
def State.faultCounted (s : State) (dt : Nat) (b : BranchId) : State := (s.advance dt).countPort (branchPort b) .faults

/-- A branch line low for long enough: FAULTS is counted, and then come the teardown and the alert. -/
theorem exec_stuckLine_of_low {s : State} {b : BranchId} {l : Live} {dt low : Nat} {up : Bool} (straps : Straps)
    (hlive : s.live? (branchPort b) = some l) (hlow : s.LowLongEnough (branchPort b) l dt)
    (hrecords : s.records.length = 16) (hup : s.isActive .p0 = up)
    (hroom : up = true → classCount s.trunkQueue .exchange +
      (s.refusalsFor (Direct.livesOn b) .portDown).length ≤ 16) :
    ∃ t, exec (.stuckLine { dt := dt, straps := straps } (branchPort b) low) s = .next t ∧
      (s.faultCounted dt b).TornDownRaising b l (.fault (max l.highFrom (s.now + dt + low))) up .portFault
        (branchNumber b) t := by
  obtain ⟨hstuck, -⟩ := execStuckLine_next hlive { dt := dt, straps := straps } low
  have hsame : (downSweep b).refusals (s.faultCounted dt b) allSlots = s.refusalsFor (Direct.livesOn b) .portDown := rfl
  exact ⟨_, (hstuck hlow).trans (congrArg Host.Outcome.next (State.stuck_branch (s.advance dt) b _ straps)),
    State.tornDownRaising_bothOrders (s := s.faultCounted dt b)
      ((State.live?_countPort (s.advance dt) ..).trans hlive) hrecords
      ((State.isActive_countPort (s.advance dt) ..).trans hup) (by rw [hsame]; exact hroom) ..⟩

theorem State.port_faultCounted (s : State) (dt : Nat) (b : BranchId) (p : PortId) :
    (s.faultCounted dt b).port p = if p = branchPort b then
      { s.port (branchPort b) with counters := portCounterBump (s.port (branchPort b)).counters .faults }
      else s.port p :=
  State.port_setPort ..

theorem State.stoppedPort_faultCounted (s : State) (dt : Nat) (b : BranchId) (l : Live) (line : Line) :
    (s.faultCounted dt b).stoppedPort (branchPort b) l line = { s.port (branchPort b) with
      line := line, counters := portCounterBump (s.port (branchPort b)).counters .faults,
      tail := s.tailAfter dt (branchPort b) l.tx } := by
  rw [State.stoppedPort, State.charTime, State.port_faultCounted, if_pos rfl, s.tailAfter_eq]
  rfl

/-- Settles O43: nothing happens before the line has been low for long enough; then FAULTS is counted, and the branch is
torn down with PORT-FAULT ahead of it or behind it. -/
theorem stuckBranchFaultsAndTearsDown : Obligations.StuckBranchFaultsAndTearsDown := by
  unfold Obligations.StuckBranchFaultsAndTearsDown
  intro dt low straps b l s hlive
  obtain ⟨-, hwait⟩ := execStuckLine_next hlive { dt := dt, straps := straps } low
  refine ⟨hwait, ?_⟩
  intro hlow hrecords hpool onIt refusals hroom
  obtain ⟨up, hup⟩ : ∃ up, s.isActive .p0 = up := ⟨_, rfl⟩
  obtain ⟨t, hrun, ⟨hport, hothers, hbranch, hrest, hleft, hcounters, hreleased⟩, hother, hqueue, hlist, hoverflow,
    hunits⟩ := exec_stuckLine_of_low (low := low) straps hlive hlow hrecords hup
      (fun hu => hroom (hup.trans hu))
  have hcounter : ∀ c, (s.faultCounted dt b).bridgeCounter c = s.bridgeCounter c := fun _ => rfl
  have hsame : (downSweep b).refusals (s.faultCounted dt b) allSlots = refusals := rfl
  have hmisses : (s.faultCounted dt b).missesWithout b = s.missesWithout b := rfl
  rw [hsame] at hother
  simp only [hsame, hcounter, hmisses] at hcounters
  rw [State.stoppedPort_faultCounted] at hport
  have hline := congrArg Port.line hport
  refine ⟨t, hrun, hline, State.faultAsserted_of_fault hline, (congrArg Port.counters hport).trans rfl,
    (congrArg Port.tail hport).trans rfl, fun p hp => ?ports, hbranch, hrest, fun x hx => ?free,
    fun x e d hx hm => ?direct, fun x e q hx hm => ?probe, fun hu => ?active, fun hu => ?down, hcounters .probeMisses,
    fun c hc hc' hc'' => ?counters, hreleased hpool, hlist, hoverflow, hunits⟩
  case ports => rw [hothers p hp, State.port_faultCounted, if_neg hp]
  case free => exact (hleft x).trans (congrArg _ hx)
  case direct =>
    rw [hup]
    exact (hleft x).trans ((congrArg _ hx).trans (downSweep_left_direct hm))
  case probe => exact (hleft x).trans ((congrArg _ hx).trans (downSweep_left_probe hm))
  case active =>
    obtain rfl := hup.symm.trans hu
    exact ⟨hother, hcounters (.refusals .portDown), hcounters .returnsLost⟩
  case down =>
    obtain rfl := hup.symm.trans hu
    exact ⟨hqueue rfl, hcounters (.refusals .portDown), hcounters .returnsLost⟩
  case counters =>
    refine (hcounters c).trans ?_
    rw [if_neg hc, if_neg hc', if_neg hc'']
    rfl

end Sys2Proof.Machine
end

section
/-! PROOFS. The first answer to a PROBING exchange (R62, R63, R64, R68). -/

namespace Sys2Proof.Machine

/-! ### An alert beside another effect (log 11) -/

/-- `t` is `r` but for an alert that is raised beside it where `alerted` says so. -/
structure State.Beside (alerted : Bool) (k : AlertKind) (a : Octet) (r t : State) : Prop where
  frame : t = { r with trunkQueue := t.trunkQueue, alerts := t.alerts, choices := t.choices }
  otherItems : t.trunkQueue.filter (fun i => !i.isAlert) = r.trunkQueue.filter (fun i => !i.isAlert)
  queue_of_down : r.isActive .p0 = false → t.trunkQueue = r.trunkQueue
  list : t.alerts.list = if alerted then (r.alerts.add k a).list else r.alerts.list
  overflow : t.alerts.overflow = if alerted then (r.alerts.add k a).overflow else r.alerts.overflow
  dest : t.alerts.dest = r.alerts.dest

theorem State.Beside.refl (r : State) (k : AlertKind) (a : Octet) : r.Beside false k a r :=
  ⟨rfl, rfl, fun _ => rfl, rfl, rfl, rfl⟩

theorem State.Beside.of_choices {alerted : Bool} {k : AlertKind} {a : Octet} {r t : State} {n : Nat}
    (h : State.Beside alerted k a { r with choices := n } t) : r.Beside alerted k a t :=
  ⟨h.frame, h.otherItems, h.queue_of_down, h.list, h.overflow, h.dest⟩

theorem State.offerAlert_dest (s : State) : s.offerAlert.alerts.dest = s.alerts.dest := by
  unfold State.offerAlert
  split
  · rfl
  · split <;> rfl


theorem State.raise_dest (s : State) (k : AlertKind) (a : Octet) : (s.raise k a).alerts.dest = s.alerts.dest :=
  (State.offerAlert_dest _).trans (AlertUnit.add_dest ..)

/-- An alert raised last. -/
theorem State.beside_raise (r : State) (k : AlertKind) (a : Octet) : r.Beside true k a (r.raise k a) where
  frame := by
    rw [State.raise_choices]
    exact State.raise_frame r k a
  otherItems := State.raise_otherItems r k a
  queue_of_down h := State.raise_trunkQueue_of_down h k a
  list := State.raise_list r k a
  overflow := State.raise_overflow r k a
  dest := State.raise_dest r k a

/-! ### The return of an answer (R64, R68) -/

section Return

variable {s : State} {x : SlotNo} {e : Exchange} {q : Probe} {b : BufId}

theorem State.returnAnswer_of_admits (h : s.admits (.frameReturn x b) = true) (e : Exchange) (q : Probe) :
    s.returnAnswer x e q b = (s.enqueue (.frameReturn x b)).setRecord x
      (some { e with request := none, mode := .probe { q with phase := .settling, pending := true } }) := by
  rw [State.returnAnswer, if_pos h, State.settle_eq, if_neg (fun hand => Bool.false_ne_true hand.2.symm)]

theorem State.returnAnswer_of_full (h : s.admits (.frameReturn x b) = false) (e : Exchange) (q : Probe) :
    s.returnAnswer x e q b = ((s.release b).count .returnsLost).setRecord x
      (if setEmpty q.set then none
        else some { e with request := none, mode := .probe { q with phase := .settling, pending := false } }) := by
  rw [State.returnAnswer, if_neg (by rw [h]; exact Bool.false_ne_true), State.settle_eq]
  simp only [and_true]

/-- A frame return is admitted while P0 is ACTIVE and the EXCHANGE class has room (R106). -/
theorem State.admits_frameReturn (s : State) (x : SlotNo) (b : BufId) :
    s.admits (.frameReturn x b) = (s.isActive .p0 && decide (classCount s.trunkQueue .exchange < 16)) := by
  rw [State.admits, show placeFree s.trunkQueue (.frameReturn x b) = true from rfl, Bool.and_true]
  rfl

/-- An alert raised first. -/
theorem State.beside_raise_returnAnswer (s : State) (x : SlotNo) (e : Exchange) (q : Probe) (b : BufId) (k : AlertKind)
    (a : Octet) : (s.returnAnswer x e q b).Beside true k a ((s.raise k a).returnAnswer x e q b) := by
  have hother := State.raise_otherItems s k a
  have hlist := State.raise_list s k a
  have hoverflow := State.raise_overflow s k a
  have hdest := State.raise_dest s k a
  have hdown : s.isActive .p0 = false → (s.raise k a).trunkQueue = s.trunkQueue :=
    fun h => State.raise_trunkQueue_of_down h k a
  have hframe := State.raise_frame s k a
  generalize s.raise k a = u at *
  have hactive : u.isActive .p0 = s.isActive .p0 := by
    rw [hframe]
    rfl
  have hadmits : u.admits (.frameReturn x b) = s.admits (.frameReturn x b) := by
    rw [State.admits_frameReturn, State.admits_frameReturn, hactive, classCount_exchange_of_otherItems hother]
  cases hs : s.admits (.frameReturn x b) with
  | true =>
    rw [State.returnAnswer_of_admits hs, State.returnAnswer_of_admits (hadmits.trans hs)]
    refine ⟨by rw [hframe]; rfl, ?_, fun h => ?_, hlist, hoverflow, hdest⟩
    · exact (List.filter_append ..).trans ((congrArg (· ++ _) hother).trans (List.filter_append ..).symm)
    · exact congrArg (· ++ _) (hdown h)
  | false =>
    rw [State.returnAnswer_of_full hs, State.returnAnswer_of_full (hadmits.trans hs)]
    exact ⟨by rw [hframe]; rfl, hother, hdown, hlist, hoverflow, hdest⟩

/-- The return and the alert in an order that is left open (log 11). -/
theorem State.beside_bothOrders (s : State) (x : SlotNo) (e : Exchange) (q : Probe) (b : BufId) (k : AlertKind)
    (a : Octet) :
    (s.returnAnswer x e q b).Beside true k a
      (s.bothOrders (fun t => t.returnAnswer x e q b) (fun t => t.raise k a)) := by
  have hchoices : State.returnAnswer { s with choices := s.choices + 1 } x e q b =
      { s.returnAnswer x e q b with choices := s.choices + 1 } := by
    cases hs : s.admits (.frameReturn x b) with
    | true => rw [State.returnAnswer_of_admits hs, State.returnAnswer_of_admits (by exact hs)]; rfl
    | false => rw [State.returnAnswer_of_full hs, State.returnAnswer_of_full (by exact hs)]; rfl
  rcases State.bothOrders_cases s (fun t => t.returnAnswer x e q b) (fun t => t.raise k a) with heq | heq | heq
  · rw [heq]
    exact State.beside_raise ..
  · rw [heq]
    have hfirst := State.beside_raise_returnAnswer { s with choices := s.choices + 1 } x e q b k a
    rw [hchoices] at hfirst
    exact hfirst.of_choices
  · rw [heq]
    rw [hchoices]
    exact (State.beside_raise { s.returnAnswer x e q b with choices := s.choices + 1 } k a).of_choices

/-- A first answer: the return of the frame, with the alert of R13 beside it. -/
theorem State.beside_firstAnswer (s : State) (p : BranchId) (x : SlotNo) (e : Exchange) (q : Probe) (b : BufId) :
    ((s.firstTaken p x e).returnAnswer x e (s.firstLeft p x q) b).Beside
      (decide ((s.table.learn e.key.station p).2 = .conflicted)) .addressConflict e.key.station
      (s.firstAnswer p x e q b) := by
  rw [State.firstAnswer_eq]
  by_cases hc : (s.table.learn e.key.station p).2 = .conflicted
  · rw [if_pos hc, decide_eq_true hc]
    exact State.beside_bothOrders ..
  · rw [if_neg hc, decide_eq_false hc]
    exact State.Beside.refl ..

end Return

/-! ### Probe cancellation (R63, R102) -/

theorem State.branch_cancelIn (s : State) (x : SlotNo) (q c : BranchId) :
    (State.cancelIn x s q).branch c =
      if c = q then { s.branch c with queue := (s.branch c).queue.filter (fun i => !i.isProbeOf x) } else s.branch c := by
  rw [State.branch_eq, State.cancelIn, State.releaseAll_branches, ← State.branch_eq, State.setQueue,
    State.branch_setBranch]
  split_ifs with h
  · rw [h]
  · rfl

/-- A first answer cancels the waiting copies in every branch queue. -/
theorem State.branch_cancelAll (s : State) (x : SlotNo) (c : BranchId) :
    (allBranches.foldl (State.cancelIn x) s).branch c =
      { s.branch c with queue := (s.branch c).queue.filter (fun i => !i.isProbeOf x) } := by
  simp only [allBranches, List.foldl_cons, List.foldl_nil, State.branch_cancelIn]
  cases c <;> simp

/-- The waiting copies of an exchange in one queue that refer to a buffer. -/
theorem sumOver_copies (x : SlotNo) (a : BufId) (q : List BranchItem) :
    sumOver (fun c => holds a (some c)) ((q.filter (fun i => i.isProbeOf x)).map (·.buf)) =
      (q.filter (fun i => decide (i.kind = .probe x ∧ i.buf = a))).length := by
  have hpoint : ∀ i : BranchItem, holds a (some i.buf) = if decide (i.buf = a) = true then 1 else 0 := fun i => by
    simp [holds]
  rw [sumOver, List.map_map]
  have := sumOver_indicator (fun i : BranchItem => decide (i.buf = a)) (q.filter (fun i => i.isProbeOf x))
  rw [List.filter_filter, sumOver] at this
  simp only [Function.comp_def, hpoint]
  rw [this]
  congr 2
  funext i
  simp [BranchItem.isProbeOf, Bool.and_comm]

theorem State.length_cancelIn (s : State) (x : SlotNo) (q : BranchId) :
    (State.cancelIn x s q).pool.buffers.length = s.pool.buffers.length :=
  State.length_releaseAll (s.setQueue q _) _

theorem State.released_cancelIn {s : State} (h : s.pool.buffers.length = 48) (x : SlotNo) (q : BranchId) :
    Pool.Released s.pool (State.cancelIn x s q).pool (fun a =>
      ((s.branch q).queue.filter (fun i => decide (i.kind = .probe x ∧ i.buf = a))).length) := by
  simp only [← sumOver_copies]
  exact State.released_releaseAll (s := s.setQueue q _) h _

/-- A first answer releases one reference for each waiting copy (R94). -/
theorem State.released_cancelAll {s : State} (h : s.pool.buffers.length = 48) (x : SlotNo) :
    Pool.Released s.pool (allBranches.foldl (State.cancelIn x) s).pool (s.copiesWaiting x) := by
  have h1 := State.released_cancelIn h x .b1
  have h2 := State.released_cancelIn ((State.length_cancelIn s x .b1).trans h) x .b2
  have h3 := State.released_cancelIn
    ((State.length_cancelIn _ x .b2).trans ((State.length_cancelIn s x .b1).trans h)) x .b3
  simp only [State.branch_cancelIn] at h2 h3
  exact (h1.trans h2).trans h3

/-! ### The first answer -/

/-- What a first answer takes before its return: the slot, the waiting copies, the request, and the station's entry. -/
theorem State.firstTaken_eq (s : State) (p : BranchId) (x : SlotNo) (e : Exchange) :
    s.firstTaken p x e = { s with
      branches := (s.firstTaken p x e).branches
      pool := ((allBranches.foldl (State.cancelIn x) (s.setSlot p none)).releaseOpt e.request).pool
      table := { s.table with learned := (s.table.learn e.key.station p).1 }
      counters := (s.table.learn e.key.station p).2.counted s.counters } := by
  unfold State.firstTaken
  rw [State.learn_eq, State.releaseOpt_frame, State.cancelAll_frame]
  rfl

theorem State.branch_firstTaken (s : State) (p : BranchId) (x : SlotNo) (e : Exchange) (c : BranchId) :
    (s.firstTaken p x e).branch c = { s.branch c with
      queue := (s.branch c).queue.filter (fun i => decide (i.kind ≠ .probe x))
      slot := if c = p then none else (s.branch c).slot } := by
  have hlearn : (s.firstTaken p x e).branch c = (allBranches.foldl (State.cancelIn x) (s.setSlot p none)).branch c := by
    rw [State.branch_eq, State.firstTaken, State.learn_branches, State.releaseOpt_branches, ← State.branch_eq]
  have hkind : (fun i : BranchItem => !i.isProbeOf x) = fun i => decide (i.kind ≠ .probe x) := by
    funext i
    simp [BranchItem.isProbeOf]
  rw [hlearn, State.branch_cancelAll, hkind, State.setSlot, State.branch_setBranch]
  split_ifs with hc
  · rw [hc]
  · rfl

theorem State.copiesWaiting_setSlot (s : State) (p : BranchId) (v : Option Slot) (x : SlotNo) :
    (s.setSlot p v).copiesWaiting x = s.copiesWaiting x := by
  cases p <;> rfl

theorem State.length_firstTaken (s : State) (p : BranchId) (x : SlotNo) (e : Exchange) :
    (s.firstTaken p x e).pool.buffers.length = s.pool.buffers.length := by
  rw [State.firstTaken_eq]
  simp only [allBranches, List.foldl_cons, List.foldl_nil, State.length_releaseOpt, State.length_cancelIn]
  rfl

theorem State.released_firstTaken {s : State} (h : s.pool.buffers.length = 48) (p : BranchId) (x : SlotNo)
    (e : Exchange) :
    Pool.Released s.pool (s.firstTaken p x e).pool (fun a => s.copiesWaiting x a + holds a e.request) := by
  have hcancel := State.released_cancelAll (s := s.setSlot p none) h x
  have hlength : (allBranches.foldl (State.cancelIn x) (s.setSlot p none)).pool.buffers.length = 48 := by
    simp only [allBranches, List.foldl_cons, List.foldl_nil, State.length_cancelIn]
    exact h
  have hboth := hcancel.trans (State.released_releaseOpt hlength e.request)
  rw [State.copiesWaiting_setSlot] at hboth
  rw [State.firstTaken_eq]
  exact hboth

/-- The probe set that a first answer leaves (R63). -/
theorem State.setAfterCancel_eq (s : State) (p : BranchId) (x : SlotNo) (set : PerBranch Bool) :
    s.setAfterCancel x (branchSet set p false) =
      { b1 := decide (.b1 ≠ p) && set.b1 && decide (s.waiting .b1 (.probe x) = 0)
        b2 := decide (.b2 ≠ p) && set.b2 && decide (s.waiting .b2 (.probe x) = 0)
        b3 := decide (.b3 ≠ p) && set.b3 && decide (s.waiting .b3 (.probe x) = 0) } := by
  have hcopy : ∀ c, (!s.waitingCopy x c) = decide (s.waiting c (.probe x) = 0) := fun c => by
    rw [State.waitingCopy, State.waiting, Bool.eq_iff_iff]
    simp [BranchItem.isProbeOf, List.filter_eq_nil_iff]
  rw [State.setAfterCancel, hcopy, hcopy, hcopy]
  cases p <;> rfl

/-- An answer to a PROBING exchange whose copy was sent in full is its first answer (R37, R61). -/
theorem State.slotCase_of_probing {s : State} {p : BranchId} {f : Frame} {x : SlotNo} {start : Nat} {e : Exchange}
    {q : Probe} (hs : (s.branch p).slot = some { exch := x, kind := .probe, deadline := some start })
    (hr : s.record x = some e) (hq : e.mode = .probe q) (hph : q.phase = .probing) (hk : e.key = f.answerKey) :
    s.slotCase p f = some (.first x e q) := by
  simp only [State.slotCase, hs, hr, hq, hph, hk, Option.isSome_some, and_self, if_true]

theorem State.branchFrame_of_first {s : State} {p : BranchId} {f : Frame} {x : SlotNo} {e : Exchange} {q : Probe}
    (h : s.answerCase p f = .first x e q) (b : BufId) : s.branchFrame p f b = s.firstAnswer p x e q b := by
  rw [State.branchFrame, h]

/-! The bridge counters of a handover (R11, R12, R13). -/

theorem LearnEvent.learned_counted (event : LearnEvent) (cs : BridgeCounters) :
    bridgeCounterGet (event.counted cs) .learned =
      if event = .created then saturate (bridgeCounterGet cs .learned) else bridgeCounterGet cs .learned := by
  cases event <;> simp [LearnEvent.counted, bridgeCounterGet_bump]

theorem LearnEvent.conflicts_counted (event : LearnEvent) (cs : BridgeCounters) :
    bridgeCounterGet (event.counted cs) .conflicts =
      if event = .conflicted then saturate (bridgeCounterGet cs .conflicts) else bridgeCounterGet cs .conflicts := by
  cases event <;> simp [LearnEvent.counted, bridgeCounterGet_bump]

theorem LearnEvent.others_counted (event : LearnEvent) (cs : BridgeCounters) {c : BridgeCounter} (hl : c ≠ .learned)
    (hc : c ≠ .conflicts) : bridgeCounterGet (event.counted cs) c = bridgeCounterGet cs c := by
  cases event <;> simp [LearnEvent.counted, bridgeCounterGet_bump, hl, hc]

/-- What the return of an answer leaves, whatever becomes of it. -/
theorem State.returnAnswer_others {s : State} {x : SlotNo} (hx : x.val < s.records.length) (e : Exchange) (q : Probe)
    (b : BufId) :
    (∀ y, y ≠ x → (s.returnAnswer x e q b).record y = s.record y) ∧
      ∀ c, c ≠ .returnsLost → (s.returnAnswer x e q b).bridgeCounter c = s.bridgeCounter c := by
  cases hs : s.admits (.frameReturn x b) with
  | true =>
    rw [State.returnAnswer_of_admits hs]
    exact ⟨fun y hy => (State.record_setRecord (s.enqueue _) x y _ hx).trans (if_neg hy), fun c _ => rfl⟩
  | false =>
    rw [State.returnAnswer_of_full hs]
    refine ⟨fun y hy => (State.record_setRecord ((s.release b).count _) x y _ hx).trans (if_neg hy), fun c hc => ?_⟩
    exact (State.bridgeCounter_count (s.release b) .returnsLost c).trans (if_neg hc)

/-- The alert unit after a first answer (R13, R176). -/
theorem State.firstAnswer_alerts (u : State) (p : BranchId) (x : SlotNo) (e : Exchange) (q : Probe) (b : BufId) :
    ((u.firstAnswer p x e q b).alerts.list = if (u.table.learn e.key.station p).2 = .conflicted then
      (u.alerts.add .addressConflict e.key.station).list else u.alerts.list) ∧
    ((u.firstAnswer p x e q b).alerts.overflow = if (u.table.learn e.key.station p).2 = .conflicted then
      (u.alerts.add .addressConflict e.key.station).overflow else u.alerts.overflow) ∧
    (u.firstAnswer p x e q b).alerts.dest = u.alerts.dest := by
  obtain ⟨-, -, -, hlist, hoverflow, hdest⟩ := State.beside_firstAnswer u p x e q b
  have halerts : (u.firstTaken p x e).alerts = u.alerts := by rw [State.firstTaken_eq]
  simp only [State.returnAnswer_alerts, halerts, decide_eq_true_eq] at hlist hoverflow hdest
  exact ⟨hlist, hoverflow, hdest⟩

/-- A first answer in the state `u` of its frame end: everything but the return itself. -/
theorem State.firstAnswer_others {u : State} {x : SlotNo} (hx : x.val < u.records.length) (p : BranchId) (e : Exchange)
    (q : Probe) (b : BufId) :
    (∀ c, (u.firstAnswer p x e q b).branch c = (u.firstTaken p x e).branch c) ∧
    (∀ y, y ≠ x → (u.firstAnswer p x e q b).record y = u.record y) ∧
    (∀ c, c ≠ .returnsLost → (u.firstAnswer p x e q b).bridgeCounter c =
      bridgeCounterGet ((u.table.learn e.key.station p).2.counted u.counters) c) ∧
    (u.firstAnswer p x e q b).table = { u.table with learned := (u.table.learn e.key.station p).1 } ∧
    (u.firstAnswer p x e q b).addr = u.addr ∧ (u.firstAnswer p x e q b).now = u.now ∧
    (u.firstAnswer p x e q b).ports = u.ports ∧ (u.firstAnswer p x e q b).mgmt = u.mgmt := by
  have htaken := State.firstTaken_eq u p x e
  have hframe := (State.beside_firstAnswer u p x e q b).frame
  generalize u.firstAnswer p x e q b = t at *
  have hx' : x.val < (u.firstTaken p x e).records.length := by
    rw [htaken]
    exact hx
  obtain ⟨hrecords, hcounters⟩ := State.returnAnswer_others hx' e (u.firstLeft p x q) b
  have hreturn := State.returnAnswer_frame (u.firstTaken p x e) x e (u.firstLeft p x q) b
  have hbranches : t.branches = (u.firstTaken p x e).branches := by rw [hframe, hreturn]
  refine ⟨fun c => ?branch, fun y hy => ?record, fun c hc => ?counter, ?_⟩
  case branch => rw [State.branch_eq, hbranches, ← State.branch_eq]
  case record =>
    have hsame : t.record y = ((u.firstTaken p x e).returnAnswer x e (u.firstLeft p x q) b).record y := by rw [hframe]; rfl
    rw [hsame, hrecords y hy, htaken]
    rfl
  case counter =>
    have hsame : t.bridgeCounter c = ((u.firstTaken p x e).returnAnswer x e (u.firstLeft p x q) b).bridgeCounter c := by
      rw [hframe]; rfl
    rw [hsame, hcounters c hc, htaken]
    rfl
  rw [hframe, hreturn, htaken]
  exact ⟨rfl, rfl, rfl, rfl, rfl⟩

theorem State.admits_firstTaken (u : State) (p : BranchId) (x : SlotNo) (e : Exchange) (i : TrunkItem) :
    (u.firstTaken p x e).admits i = u.admits i :=
  State.admits_congr (s := u) (by rw [State.firstTaken_eq]; rfl) (by rw [State.firstTaken_eq]) i

/-- The return of a first answer that is admitted. -/
theorem State.firstAnswer_of_admits {u : State} {x : SlotNo} {b : BufId} (hx : x.val < u.records.length)
    (hlength : u.pool.buffers.length = 48) (h : u.admits (.frameReturn x b) = true) (p : BranchId) (e : Exchange)
    (q : Probe) :
    (u.firstAnswer p x e q b).record x = some { e with
      request := none, mode := .probe { phase := .settling, set := (u.firstLeft p x q).set, pending := true } } ∧
    (u.firstAnswer p x e q b).trunkQueue.filter (fun i => !i.isAlert) =
      u.trunkQueue.filter (fun i => !i.isAlert) ++ [.frameReturn x b] ∧
    (u.firstAnswer p x e q b).bridgeCounter .returnsLost = u.bridgeCounter .returnsLost ∧
    Pool.Released u.pool (u.firstAnswer p x e q b).pool (fun a => u.copiesWaiting x a + holds a e.request) := by
  have hbeside := State.beside_firstAnswer u p x e q b
  rw [State.returnAnswer_of_admits ((State.admits_firstTaken u p x e _).trans h)] at hbeside
  obtain ⟨hframe, hother, -⟩ := hbeside
  generalize u.firstAnswer p x e q b = t at *
  have htaken := State.firstTaken_eq u p x e
  refine ⟨?record, ?items, ?counter, ?pool⟩
  case record =>
    have hlt : x.val < ((u.firstTaken p x e).enqueue (.frameReturn x b)).records.length := by
      rw [htaken]
      exact hx
    rw [hframe]
    exact (State.record_setRecord _ x x _ hlt).trans (if_pos rfl)
  case items =>
    have hqueue : (u.firstTaken p x e).trunkQueue = u.trunkQueue := by rw [htaken]
    refine hother.trans ((List.filter_append ..).trans ?_)
    rw [hqueue]
    rfl
  case counter =>
    rw [hframe, State.bridgeCounter, State.setRecord_counters]
    exact (congrArg (bridgeCounterGet · .returnsLost) (congrArg State.counters htaken)).trans
      (LearnEvent.others_counted _ _ (by decide) (by decide))
  case pool =>
    rw [hframe]
    exact State.released_firstTaken hlength p x e

/-- The return of a first answer that is dropped while P0 is not ACTIVE (R31, R47). -/
theorem State.firstAnswer_of_down {u : State} {x : SlotNo} {b : BufId} (hx : x.val < u.records.length)
    (hlength : u.pool.buffers.length = 48) (h : u.isActive .p0 = false) (p : BranchId) (e : Exchange) (q : Probe) :
    (u.firstAnswer p x e q b).record x = (if setEmpty (u.firstLeft p x q).set then none
      else some { e with
        request := none, mode := .probe { phase := .settling, set := (u.firstLeft p x q).set, pending := false } }) ∧
    (u.firstAnswer p x e q b).trunkQueue = u.trunkQueue ∧
    (u.firstAnswer p x e q b).bridgeCounter .returnsLost = saturate (u.bridgeCounter .returnsLost) ∧
    Pool.Released u.pool (u.firstAnswer p x e q b).pool
      (fun a => u.copiesWaiting x a + holds a e.request + holds a (some b)) := by
  have hbeside := State.beside_firstAnswer u p x e q b
  rw [State.returnAnswer_of_full ((State.admits_firstTaken u p x e _).trans (State.admits_of_not_active h _))] at hbeside
  obtain ⟨hframe, -, hqueue, -⟩ := hbeside
  generalize u.firstAnswer p x e q b = t at *
  have htaken := State.firstTaken_eq u p x e
  have hreleased := State.released_firstTaken hlength p x e
  refine ⟨?record, ?items, ?counter, ?pool⟩
  case record =>
    have hlt : x.val < (((u.firstTaken p x e).release b).count .returnsLost).records.length := by
      rw [htaken]
      exact hx
    rw [hframe]
    exact (State.record_setRecord _ x x _ hlt).trans (if_pos rfl)
  case items =>
    refine (hqueue ?_).trans ?_
    · rw [htaken]
      exact h
    · rw [htaken]
      rfl
  case counter =>
    have hsame : t.bridgeCounter .returnsLost =
        saturate (bridgeCounterGet (u.firstTaken p x e).counters .returnsLost) := by
      rw [hframe]
      exact (State.bridgeCounter_count ((u.firstTaken p x e).release b) .returnsLost .returnsLost).trans (if_pos rfl)
    rw [hsame, congrArg State.counters htaken, LearnEvent.others_counted _ _ (by decide) (by decide)]
    rfl
  case pool =>
    rw [hframe]
    exact hreleased.trans (Pool.released_release ((State.length_firstTaken ..).trans hlength) b)

/-- Settles O40: the slot recognises the first answer, its copies are cancelled, and it is returned with the alert of R13
ahead of it or behind it. -/
theorem firstProbeAnswerIsReturned : Obligations.FirstProbeAnswerIsReturned := by
  unfold Obligations.FirstProbeAnswerIsReturned
  intro dt p l b o f x start e q s hg hm hkind hslot hr hq hphase hkey set left learnt
  obtain ⟨u, hu⟩ : ∃ u, u = s.atFrameEnd dt (branchPort p) l b o := ⟨_, rfl⟩
  have hrun : exec (.frameEnd dt (branchPort p) o) s = .next (u.firstAnswer p x e q b) := by
    have hcase : (s.atFrameEnd dt (branchPort p) l b o).answerCase p f = .first x e q :=
      (State.answerCase_atFrameEnd ..).trans
        (State.answerCase_of_slotCase (f.isAnswer_iff.mpr hkind) (State.slotCase_of_probing hslot hr hq hphase hkey))
    rw [frameEnd_eq_branchFrame hg hm, State.branchFrame_of_first hcase, hu]
  have hactive : u.isActive .p0 = s.isActive .p0 := hu ▸ hg.isActive_eq .p0
  have hadmits : u.admits (.frameReturn x b) = s.admits (.frameReturn x b) :=
    State.admits_congr hactive (by rw [hu]; rfl) _
  have hleft : (u.firstLeft p x q).set = left := by
    rw [State.firstLeft, State.setAfterCancel_eq, hu]
    rfl
  have hlength : u.pool.buffers.length = 48 := by
    obtain ⟨-, -, hpool, -⟩ := hg
    rw [hu]
    exact (Pool.length_store s.pool b o).trans hpool
  have hlt : x.val < u.records.length := by
    rw [hu]
    exact State.lt_length_of_record (s := s) hr
  obtain ⟨hbranch, hrecords, hcounters, htable, haddr, hnow, hports, hmgmt⟩ := State.firstAnswer_others hlt p e q b
  obtain ⟨hlist, hoverflow, hdest⟩ := State.firstAnswer_alerts u p x e q b
  have hadmitted := fun h => State.firstAnswer_of_admits (u := u) (b := b) hlt hlength h p e q
  have hdropped := fun h => State.firstAnswer_of_down (u := u) (b := b) hlt hlength h p e q
  rw [hleft, hadmits] at hadmitted
  rw [hleft, hactive] at hdropped
  generalize u.firstAnswer p x e q b = t at *
  refine ⟨t, hrun, fun c => ?branch, fun y hy => ?record, ?table, ?list, ?learned, ?conflicts, fun h => ?admitted,
    fun h => ?dropped, fun h => ?kept, fun h => ?released, fun c hl hc hlost => ?counter, ?overflow, ?dest, ?addr, ?now,
    ?ports, ?mgmt⟩
  case branch =>
    rw [hbranch c, State.branch_firstTaken, hu]
    exact ⟨rfl, rfl, rfl, rfl⟩
  case record =>
    rw [hrecords y hy, hu]
    rfl
  case table => rw [htable, hu]; rfl
  case list => rw [hlist, hu]; rfl
  case learned =>
    rw [hcounters .learned (by decide), LearnEvent.learned_counted, hu]
    rfl
  case conflicts =>
    rw [hcounters .conflicts (by decide), LearnEvent.conflicts_counted, hu]
    rfl
  case admitted =>
    obtain ⟨hrecord, hitems, hlost, -⟩ := hadmitted h
    rw [hu] at hitems hlost
    exact ⟨hrecord, hitems, hlost⟩
  case dropped =>
    obtain ⟨hrecord, hitems, hlost, -⟩ := hdropped h
    rw [hu] at hitems hlost
    exact ⟨hrecord, hitems, hlost⟩
  case kept =>
    obtain ⟨-, -, -, hpool⟩ := hadmitted h
    rw [hu] at hpool
    exact hpool
  case released =>
    obtain ⟨-, -, -, hpool⟩ := hdropped h
    rw [hu] at hpool
    exact hpool
  case counter =>
    rw [hcounters c hlost, LearnEvent.others_counted _ _ hl hc, hu]
    rfl
  case overflow => rw [hoverflow, hu]; rfl
  case dest => rw [hdest, hu]; rfl
  case addr => rw [haddr, hu]; rfl
  case now => rw [hnow, hu]; rfl
  case ports => rw [hports, hu]
  case mgmt => rw [hmgmt, hu]; rfl

end Sys2Proof.Machine
end

section
/-! PROOFS. A trunk line held low for too long: what becomes of the returns that the trunk drops (R46, R71, R110, R118). -/

namespace Sys2Proof.Machine

/-! ### The returns among the trunk's items -/

/-- The exchange that an item returns (R105). -/
def TrunkItem.returns : TrunkItem → Option SlotNo
  | .frameReturn x _ => some x
  | .refusalReturn x _ => some x
  | .response => none
  | .busy _ => none
  | .alert _ => none
  | .immediate _ => none
  | .passUp _ => none

theorem TrunkItem.isReturnOf_eq (x : SlotNo) (i : TrunkItem) : i.isReturnOf x = decide (i.returns = some x) := by
  cases i <;> simp [TrunkItem.isReturnOf, TrunkItem.returns]

/-- Each return is the return of one record. -/
theorem sum_returns (items : List TrunkItem) :
    sumOver (fun x => (items.filter (TrunkItem.isReturnOf x)).length) allSlots =
      (items.filter (fun i => i.returns.isSome)).length := by
  induction items with
  | nil => simp [sumOver]
  | cons i items ih =>
    have hone : sumOver (fun x => if i.isReturnOf x then 1 else 0) allSlots = if i.returns.isSome then 1 else 0 := by
      rw [sumOver_indicator]
      simp only [TrunkItem.isReturnOf_eq]
      cases i.returns with
      | none => exact congrArg List.length (List.filter_eq_nil_iff.mpr fun x _ => by simp)
      | some y =>
        simp only [Option.some.injEq, Option.isSome_some, if_true]
        rw [← List.countP_eq_length_filter, show (fun x => decide (y = x)) = (fun x => x == y) from
          funext fun x => decide_eq_decide.mpr eq_comm]
        exact List.count_eq_one_of_mem nodup_allSlots (mem_allSlots y)
    have hsplit : ∀ p : TrunkItem → Bool, ((i :: items).filter p).length =
        (if p i then 1 else 0) + (items.filter p).length := fun p => by
      rw [List.filter_cons]
      split_ifs
      · rw [List.length_cons, Nat.add_comm]
      · rw [Nat.zero_add]
    have hadd : ∀ (f g : SlotNo → Nat) (l : List SlotNo), sumOver (fun x => f x + g x) l = sumOver f l + sumOver g l :=
      fun f g l => List.sum_map_add
    simp only [hsplit]
    rw [hadd, hone, ih]

/-! ### Dropped items -/

/-- What is left of an exchange at the end of its return (R43, R68). -/
def Exchange.afterReturn (e : Exchange) : Option Exchange :=
  match e.mode with
  | .direct _ => none
  | .probe q => if setEmpty q.set then none else some { e with mode := .probe { q with pending := false } }

theorem Exchange.afterReturn_of_direct {e : Exchange} {d : Direct} (h : e.mode = .direct d) : e.afterReturn = none := by
  rw [Exchange.afterReturn, h]

theorem Exchange.afterReturn_of_probe {e : Exchange} {q : Probe} (h : e.mode = .probe q) :
    e.afterReturn = if setEmpty q.set then none else some { e with mode := .probe { q with pending := false } } := by
  rw [Exchange.afterReturn, h]

/-- The end of a return once more changes nothing. -/
theorem Exchange.afterReturn_afterReturn (e : Exchange) : e.afterReturn.bind Exchange.afterReturn = e.afterReturn := by
  cases hm : e.mode with
  | direct d => rw [Exchange.afterReturn_of_direct hm, Option.bind_none]
  | probe q =>
    rw [Exchange.afterReturn_of_probe hm]
    cases hset : setEmpty q.set with
    | true => rfl
    | false =>
      rw [if_neg Bool.false_ne_true, Option.bind_some, Exchange.afterReturn_of_probe rfl]
      exact if_neg (by rw [hset]; exact Bool.false_ne_true)

theorem State.record_returnDone {s : State} (hlength : s.records.length = 16) (x y : SlotNo) :
    (s.returnDone x).record y = if y = x then (s.record x).bind Exchange.afterReturn else s.record y := by
  have hx : x.val < s.records.length := x.isLt.trans_eq hlength.symm
  cases hrecord : s.record x with
  | none =>
    rw [State.returnDone, hrecord]
    split_ifs with hy
    · rw [hy, hrecord, Option.bind_none]
    · rfl
  | some e =>
    rw [State.returnDone, hrecord]
    dsimp only
    cases hm : e.mode with
    | direct d =>
      rw [Option.bind_some, Exchange.afterReturn_of_direct hm]
      exact State.record_setRecord s x y none hx
    | probe q =>
      rw [Option.bind_some, Exchange.afterReturn_of_probe hm]
      dsimp only
      rw [State.settle_eq, State.record_setRecord s x y _ hx]
      simp only [and_true]

/-- `t` is `s` with the items dropped, as far as the records and the bridge counters see it. -/
structure State.Dropped (s t : State) (items : List TrunkItem) : Prop where
  length : t.records.length = 16
  records : ∀ x, t.record x =
    if items.any (TrunkItem.isReturnOf x) then (s.record x).bind Exchange.afterReturn else s.record x
  lost : t.bridgeCounter .returnsLost =
    countedTimes (s.bridgeCounter .returnsLost) (items.filter (fun i => i.returns.isSome)).length

namespace State.Dropped

variable {s t u : State} {is js : List TrunkItem}

theorem nil (h : s.records.length = 16) (hrecords : t.records = s.records) (hcounters : t.counters = s.counters) :
    s.Dropped t [] where
  length := hrecords ▸ h
  records x := by rw [State.record_eq, hrecords, List.any_nil, if_neg Bool.false_ne_true, State.record_eq]
  lost := by rw [State.bridgeCounter, hcounters]; rfl

theorem append (h : s.Dropped t is) (h' : t.Dropped u js) : s.Dropped u (is ++ js) where
  length := h'.length
  records x := by
    rw [h'.records, h.records, List.any_append]
    cases is.any (TrunkItem.isReturnOf x) <;> cases js.any (TrunkItem.isReturnOf x) <;>
      simp [Option.bind_assoc, Exchange.afterReturn_afterReturn]
  lost := by rw [h'.lost, h.lost, List.filter_append, List.length_append, countedTimes_add]

/-- A return is lost. -/
theorem returnLost {i : TrunkItem} {x : SlotNo} (h : s.records.length = 16) (hi : i.returns = some x) :
    s.Dropped (s.returnLost x) [i] where
  length := by
    have hlength : (s.returnDone x).records.length = s.records.length := by
      unfold State.returnDone
      split
      · rfl
      · split
        · exact List.length_set
        · rw [State.settle_eq]
          exact List.length_set
    exact hlength.trans h
  records y := by
    have hany : [i].any (TrunkItem.isReturnOf y) = decide (y = x) := by
      simp [TrunkItem.isReturnOf_eq, hi, eq_comm]
    simp only [hany, decide_eq_true_eq]
    refine (State.record_returnDone h x y).trans ?_
    split_ifs with hy
    · rw [hy]
    · rfl
  lost := by
    refine (State.bridgeCounter_count (s.returnDone x) .returnsLost .returnsLost).trans ?_
    rw [if_pos rfl, State.bridgeCounter, State.returnDone_counters]
    simp [hi, countedTimes, State.bridgeCounter]

/-- An item that returns nothing. -/
theorem other {i : TrunkItem} (h : s.records.length = 16) (hi : i.returns = none) (hrecords : t.records = s.records)
    (hcounters : t.counters = s.counters) : s.Dropped t [i] where
  length := hrecords ▸ h
  records x := by
    rw [State.record_eq, hrecords, if_neg (by simp [TrunkItem.isReturnOf_eq, hi]), State.record_eq]
  lost := by
    rw [State.bridgeCounter, hcounters]
    simp [hi, countedTimes, State.bridgeCounter]

theorem dropItem (h : s.records.length = 16) (i : TrunkItem) : s.Dropped (s.dropItem i) [i] := by
  cases i with
  | frameReturn x b => exact returnLost h rfl
  | refusalReturn x r => exact returnLost h rfl
  | alert a => exact other h rfl (State.alertLost_records s) (State.alertLost_counters s)
  | response => exact other h rfl rfl rfl
  | busy r => exact other h rfl rfl rfl
  | immediate r => exact other h rfl rfl rfl
  | passUp b => exact other h rfl rfl rfl

theorem dropItems (h : s.records.length = 16) (items : List TrunkItem) :
    s.Dropped (items.foldl (fun t i => (t.releaseOpt i.buf?).dropItem i) s) items := by
  induction items generalizing s with
  | nil => exact nil h rfl rfl
  | cons i items ih =>
    have hrelease : s.Dropped (s.releaseOpt i.buf?) [] :=
      nil h (State.releaseOpt_records ..) (State.releaseOpt_counters ..)
    have hfirst := hrelease.append (dropItem hrelease.length i)
    exact hfirst.append (ih hfirst.length)

theorem dropCurrent (h : s.records.length = 16) (l : Live) :
    s.Dropped (s.dropCurrent l.tx) (Line.active l).trunkItem?.toList := by
  unfold State.dropCurrent Line.trunkItem?
  simp only [Line.live?_active, Option.bind_some]
  cases l.tx.current? with
  | none => exact nil h rfl rfl
  | some c =>
    obtain ⟨item, n⟩ := c
    cases item with
    | branch i => exact nil h rfl rfl
    | trunk i => exact dropItem h i

theorem tearDownTrunk {l : Live} (h : s.records.length = 16) (hlive : s.live? .p0 = some l) (line : Line) :
    s.Dropped (s.tearDownTrunk line) s.trunkItems := by
  have hstop : s.Dropped (s.stopPort .p0 line) [] := nil h (State.stopPort_records ..) (State.stopPort_counters ..)
  have hcurrent := hstop.append (dropCurrent hstop.length l)
  have hqueue : ((s.stopPort .p0 line).dropCurrent l.tx).Dropped
    { (s.stopPort .p0 line).dropCurrent l.tx with trunkQueue := [] } [] := nil hcurrent.length rfl rfl
  have hempty := hcurrent.append hqueue
  have hall := hempty.append (dropItems hempty.length s.trunkQueue)
  rw [State.tearDownTrunk, hlive, State.trunkItems, State.line_of_live? hlive]
  simpa using hall

end State.Dropped

/-! ### Exchanges whose return stands on the trunk -/

/-- A return of the exchange stands on the trunk (R23, R54). -/
def Exchange.hasReturn (e : Exchange) : Bool :=
  match e.mode with
  | .direct d => decide (d.phase = .returning)
  | .probe q => q.pending

/-- In a sound engine a record has one return at most, and its exchange says whether it has one. -/
theorem State.RecordSound.standing_eq {s : State} {x : SlotNo} (h : s.RecordSound x) :
    s.standing (TrunkItem.isReturnOf x) = if (s.record x).any Exchange.hasReturn then 1 else 0 := by
  unfold State.RecordSound at h
  cases hrecord : s.record x with
  | none =>
    rw [hrecord] at h
    obtain ⟨-, -, hnone⟩ := h
    exact hnone
  | some e =>
    rw [hrecord] at h
    dsimp only at h
    cases hm : e.mode with
    | direct d =>
      rw [hm] at h
      obtain ⟨-, -, hphase⟩ := h
      cases hp : d.phase <;> simp only [hp] at hphase <;> obtain ⟨-, hstanding, -⟩ := hphase <;>
        simpa [Exchange.hasReturn, hm, hp] using hstanding
    | probe q =>
      rw [hm] at h
      obtain ⟨-, hphase⟩ := h
      cases hp : q.phase with
      | probing =>
        simp only [hp] at hphase
        obtain ⟨-, hstanding, hpending, -⟩ := hphase
        simpa [Exchange.hasReturn, hm, hpending] using hstanding
      | settling =>
        simp only [hp] at hphase
        obtain ⟨-, hstanding, -⟩ := hphase
        simpa [Exchange.hasReturn, hm] using hstanding

/-- The records that have a return on the trunk, and the returns that stand there. -/
theorem State.EngineSound.length_returns {s : State} (h : s.EngineSound) :
    (s.trunkItems.filter (fun i => i.returns.isSome)).length =
      (allSlots.filter (fun x => decide (s.standing (TrunkItem.isReturnOf x) = 1))).length := by
  obtain ⟨-, -, hrecords, -⟩ := h
  rw [← sum_returns, ← sumOver_indicator]
  refine sumOver_congr fun x _ => ?_
  rw [← State.standing_eq, (hrecords x).standing_eq]
  split_ifs <;> simp_all

/-- What the trunk drops of an exchange, in a sound engine. -/
theorem State.EngineSound.record_dropped {s t : State} (h : s.EngineSound) (ht : s.Dropped t s.trunkItems) (x : SlotNo) :
    t.record x = if (s.record x).any Exchange.hasReturn then (s.record x).bind Exchange.afterReturn else s.record x := by
  obtain ⟨-, -, hrecords, -⟩ := h
  have hany : s.trunkItems.any (TrunkItem.isReturnOf x) = (s.record x).any Exchange.hasReturn := by
    have hzero := s.standing_eq_zero_iff (TrunkItem.isReturnOf x)
    rw [(hrecords x).standing_eq] at hzero
    cases hr : (s.record x).any Exchange.hasReturn <;> simp_all
  rw [ht.records, hany]

/-! ### A stuck trunk line -/

/-- The trunk line is stuck with no RESTART pending: FAULTS, the teardown, and PORT-FAULT (R118, R121). -/
theorem State.stuck_trunk {s : State} {l : Live} (hlive : s.live? .p0 = some l) (hrestart : s.mgmt.restart = false)
    (high : Nat) (straps : Straps) :
    s.stuck .p0 high straps = ((s.countPort .p0 .faults).tearDownTrunk (.fault high)).raise .portFault 0 := by
  have hlive' : (s.countPort .p0 .faults).live? .p0 = some l := (State.live?_countPort ..).trans hlive
  obtain ⟨-, hmgmt, -⟩ := State.tearDownTrunk_of_live hlive' (line := .fault high) rfl
  refine State.settleRestart_of_clear ?_ straps
  rw [State.raise_mgmt, hmgmt, Mgmt.afterDrop]
  split_ifs <;> exact hrestart

/-- An alert raised while P0 is not ACTIVE is listed only. -/
theorem State.raise_of_down {s : State} (h : s.isActive .p0 = false) (k : AlertKind) (a : Octet) :
    s.raise k a = { s with alerts := s.alerts.add k a } :=
  State.offerAlert_of_down (s := { s with alerts := s.alerts.add k a }) h

theorem State.UnitSound.afterDrop {s : State} (h : s.UnitSound) :
    (s.mgmt.afterDrop s.trunkItems).phase = if s.mgmt.phase = .answering then .idle else s.mgmt.phase := by
  obtain ⟨-, hresponse, -⟩ := h
  have hzero := s.standing_eq_zero_iff TrunkItem.isResponse
  rw [hresponse] at hzero
  unfold Mgmt.afterDrop
  split_ifs <;> simp_all

theorem State.OfferSound.afterDrop {s : State} (h : s.OfferSound) :
    (s.alerts.afterDrop s.trunkItems).offered = false := by
  obtain ⟨-, halert, -⟩ := h
  have hzero := s.standing_eq_zero_iff TrunkItem.isAlert
  rw [halert] at hzero
  unfold AlertUnit.afterDrop
  split_ifs with hany
  · rfl
  · simp_all

theorem AlertUnit.afterDrop_list (u : AlertUnit) (items : List TrunkItem) : (u.afterDrop items).list = u.list := by
  unfold AlertUnit.afterDrop
  split_ifs <;> rfl

/-- The list after a raising comes from the list before it alone. -/
theorem AlertUnit.add_afterDrop_list (u : AlertUnit) (items : List TrunkItem) (k : AlertKind) (a : Octet) :
    ((u.afterDrop items).add k a).list = (u.add k a).list := by
  unfold AlertUnit.add
  rw [AlertUnit.afterDrop_list]
  split_ifs <;> rfl

/-- A stuck trunk line, `dt` later: what the teardown leaves of the part. -/
theorem State.tearDownTrunk_faultCounted {s : State} {l : Live} (hlive : s.live? .p0 = some l)
    (hlength : s.records.length = 16) (dt high : Nat) :
    let t := (((s.advance dt).countPort .p0 .faults).tearDownTrunk (.fault high))
    s.Dropped t s.trunkItems ∧
    t.ports = portSet s.ports .p0 { s.port .p0 with
      line := .fault high, counters := portCounterBump (s.port .p0).counters .faults,
      tail := s.tailAfter dt .p0 l.tx } ∧
    t.mgmt = s.mgmt.afterDrop s.trunkItems ∧ t.alerts = s.alerts.afterDrop s.trunkItems ∧ t.trunkQueue = [] ∧
    t.branches = s.branches ∧ t.table = s.table ∧ t.now = s.now + dt := by
  intro t
  have hlive' : ((s.advance dt).countPort .p0 .faults).live? .p0 = some l :=
    (State.live?_countPort (s.advance dt) ..).trans hlive
  have hitems : ((s.advance dt).countPort .p0 .faults).trunkItems = s.trunkItems := by
    rw [State.trunkItems, State.trunkItems, State.line_of_live? hlive', State.line_of_live? hlive]
    rfl
  obtain ⟨hports, hmgmt, halerts, hqueue⟩ := State.tearDownTrunk_of_live hlive' (line := .fault high) rfl
  obtain ⟨hlen, hrecords, hlost⟩ := State.Dropped.tearDownTrunk (s := (s.advance dt).countPort .p0 .faults)
    (l := l) hlength hlive' (.fault high)
  rw [hitems] at hmgmt halerts hlost
  simp only [hitems] at hrecords
  refine ⟨⟨hlen, hrecords, hlost⟩, hports.trans ?_, hmgmt, halerts, hqueue, State.tearDownTrunk_branches ..,
    State.tearDownTrunk_table .., State.tearDownTrunk_now ..⟩
  rw [s.tailAfter_eq]
  rfl

/-- Settles O44: nothing happens before the line has been low for long enough; then FAULTS is counted, the trunk's items
are dropped with their owners told, and PORT-FAULT is listed. -/
theorem stuckTrunkFaultsAndTearsDown : Obligations.StuckTrunkFaultsAndTearsDown := by
  unfold Obligations.StuckTrunkFaultsAndTearsDown
  intro dt low straps l s hlive
  obtain ⟨hstuck, hwait⟩ := execStuckLine_next hlive { dt := dt, straps := straps } low
  refine ⟨hwait, ?_⟩
  intro hlow hrestart hengine hunit hoffer
  obtain ⟨hlength, -⟩ := id hengine
  have hrun := (hstuck hlow).trans
    (congrArg Host.Outcome.next (State.stuck_trunk (s := s.advance dt) hlive hrestart _ straps))
  obtain ⟨hdropped, hports, hmgmt, halerts, hqueue, hbranches, htable, hnow⟩ :=
    State.tearDownTrunk_faultCounted hlive hlength dt (max l.highFrom (s.now + dt + low))
  generalize ((s.advance dt).countPort .p0 .faults).tearDownTrunk
    (.fault (max l.highFrom (s.now + dt + low))) = t at hrun hdropped hports hmgmt halerts hqueue hbranches htable hnow
  have hport : t.port .p0 = _ := (State.port_eq t .p0).trans ((congrArg (portGet · .p0) hports).trans
    ((portGet_portSet ..).trans (if_pos rfl)))
  have hline := congrArg Port.line hport
  have hdown : t.isActive .p0 = false := State.isActive_of_line hline rfl
  have hrecord := hengine.record_dropped hdropped
  rw [State.raise_of_down hdown] at hrun
  refine ⟨_, hrun, hline, State.faultAsserted_of_fault (p := .p0) hline, (congrArg Port.counters hport).trans rfl,
    (congrArg Port.tail hport).trans rfl, fun b => ?ports, hbranches, hqueue, fun x hx => ?free,
    fun x e d hx hm => ?direct, fun x e q hx hm => ?probe, ?lost, ?phase, ?list, ?offered, htable, hnow⟩
  case ports =>
    exact (State.port_eq t _).trans ((congrArg (portGet · (branchPort b)) hports).trans
      ((portGet_portSet ..).trans (if_neg (by cases b <;> decide))))
  case free => exact (hrecord x).trans (by rw [hx]; rfl)
  case direct =>
    refine (hrecord x).trans ?_
    rw [hx, Option.any_some, Option.bind_some, Exchange.afterReturn_of_direct hm]
    simp [Exchange.hasReturn, hm]
  case probe =>
    refine (hrecord x).trans ?_
    rw [hx, Option.any_some, Option.bind_some, Exchange.afterReturn_of_probe hm]
    cases hpending : q.pending with
    | true => simp [Exchange.hasReturn, hm, hpending]
    | false =>
      have hsame : q = { q with pending := false } := by rw [← hpending]
      have hhas : e.hasReturn = false := by rw [Exchange.hasReturn, hm, ← hpending]
      rw [hhas, if_neg Bool.false_ne_true, if_neg (fun h => Bool.false_ne_true h.1), ← hsame, ← hm]
  case lost => exact hdropped.lost.trans (by rw [hengine.length_returns])
  case phase => exact (congrArg Mgmt.phase hmgmt).trans hunit.afterDrop
  case list =>
    refine Eq.trans ?_ (s.alerts.add_afterDrop_list s.trunkItems .portFault 0)
    rw [← halerts]
  case offered => exact (AlertUnit.add_offered ..).trans ((congrArg AlertUnit.offered halerts).trans hoffer.afterDrop)

end Sys2Proof.Machine
end

section
/-! PROOFS. The rules of the buffer pool: its counts, its free list, and who holds each buffer (R93 to R97). -/

namespace Sys2Proof.Machine

/-! ### The pool alone -/

/-- The pool agrees with the reference counts `n`: 48 buffers, and a free list that holds each buffer of count 0 once,
and no other. -/
structure Pool.Counts (P : Pool) (n : BufId → Nat) : Prop where
  length : P.buffers.length = 48
  nodup : P.free.Nodup
  free : ∀ b, b ∈ P.free ↔ (P.buffer b).refs = 0
  refs : ∀ b, (P.buffer b).refs = n b

theorem holds_some (a b : BufId) : holds a (some b) = if a = b then 1 else 0 := by
  simp only [holds, Option.some.injEq, eq_comm]

namespace Pool.Counts

variable {P : Pool} {n : BufId → Nat} {b : BufId}

theorem congr {m : BufId → Nat} (h : P.Counts n) (hn : ∀ a, n a = m a) : P.Counts m :=
  ⟨h.length, h.nodup, h.free, fun a => (h.refs a).trans (hn a)⟩

/-- One holder less: at the last one the buffer joins the free list (R94). -/
theorem release (h : P.Counts (fun a => n a + holds a (some b))) : (P.release b).Counts n := by
  have hb : (P.buffer b).refs = n b + 1 := by rw [h.refs b, holds_some, if_pos rfl]
  have hrefs : ∀ a, ((P.release b).buffer a).refs = n a := fun a => by
    rw [Pool.refs_release h.length]
    split
    · rename_i ha
      rw [ha, hb]
      rfl
    · rename_i ha
      rw [h.refs a, holds_some, if_neg ha, Nat.add_zero]
  by_cases hlast : n b = 0
  · have hfree : (P.release b).free = P.free ++ [b] := by
      simp [Pool.release, hb, hlast]
    have hnew : b ∉ P.free := fun hin => by
      rw [h.free, hb] at hin
      cases hin
    refine ⟨(Pool.length_release ..).trans h.length, ?_, fun a => ?_, hrefs⟩
    · rw [hfree, List.nodup_append]
      exact ⟨h.nodup, List.nodup_singleton b, fun a ha c hc hac =>
        hnew (by rw [← List.mem_singleton.mp hc, ← hac]; exact ha)⟩
    · rw [hfree, List.mem_append, List.mem_singleton, hrefs, h.free, h.refs, holds_some]
      by_cases ha : a = b
      · subst ha
        simp [hlast]
      · simp [ha]
  · have hfree : (P.release b).free = P.free := by
      simp [Pool.release, hb, hlast]
    refine ⟨(Pool.length_release ..).trans h.length, by rw [hfree]; exact h.nodup, fun a => ?_, hrefs⟩
    rw [hfree, hrefs, h.free, h.refs, holds_some]
    by_cases ha : a = b
    · subst ha
      simp [hlast]
    · simp [ha]

/-- One more holder of a buffer that is held (R94). -/
theorem retain (h : P.Counts n) (hb : 1 ≤ n b) : (P.retain b).Counts (fun a => n a + holds a (some b)) := by
  have hrefs : ∀ a, ((P.retain b).buffer a).refs = n a + holds a (some b) := fun a => by
    rw [Pool.refs_retain h.length, holds_some]
    split
    · rename_i ha
      rw [ha, h.refs]
    · exact h.refs a
  refine ⟨(Pool.length_retain ..).trans h.length, h.nodup, fun a => ?_, hrefs⟩
  have hfree : a ∈ (P.retain b).free ↔ n a = 0 := (h.free a).trans (by rw [h.refs])
  rw [hrefs, hfree, holds_some]
  by_cases ha : a = b
  · subst ha
    simp
    omega
  · simp [ha]

/-- The grant of the head of the free list (R93, R95). -/
theorem grant {rest : List BufId} (h : P.Counts n) (hf : P.free = b :: rest) :
    (P.grant b rest).Counts (fun a => n a + holds a (some b)) := by
  have hzero : n b = 0 := by
    rw [← h.refs, ← h.free, hf]
    exact List.mem_cons_self ..
  obtain ⟨hb, hnd⟩ := List.nodup_cons.mp (hf ▸ h.nodup)
  have hbuf : ∀ a, ((P.grant b rest).buffer a).refs = n a + holds a (some b) := fun a => by
    have := Pool.buffer_set h.length a b { octets := [], refs := 1 }
    rw [show (P.grant b rest).buffer a = if a = b then { octets := [], refs := 1 } else P.buffer a from this, holds_some]
    split
    · rename_i ha
      rw [ha, hzero]
    · exact h.refs a
  refine ⟨List.length_set.trans h.length, hnd, fun a => ?_, hbuf⟩
  rw [hbuf, holds_some]
  by_cases ha : a = b
  · subst ha
    simpa [Pool.grant] using hb
  · have hmem : a ∈ P.free ↔ a ∈ rest := by rw [hf]; simp [ha]
    rw [if_neg ha, Nat.add_zero, ← h.refs, ← h.free, hmem]
    rfl

/-- A stored octet changes no count (R123). -/
theorem store (h : P.Counts n) (b : BufId) (o : Octet) : (P.store b o).Counts n := by
  have hrefs : ∀ a, ((P.store b o).buffer a).refs = (P.buffer a).refs := fun a => by
    rw [Pool.store, Pool.buffer_set h.length]
    split
    · rename_i ha
      rw [ha]
    · rfl
  refine ⟨(Pool.length_store ..).trans h.length, h.nodup, fun a => ?_, fun a => (hrefs a).trans (h.refs a)⟩
  rw [hrefs]
  exact h.free a

end Pool.Counts

/-! ### Who holds a buffer (R94) -/

theorem sumOver_append {α : Type} (f : α → Nat) (l m : List α) : sumOver f (l ++ m) = sumOver f l + sumOver f m := by
  simp [sumOver]


theorem sumOver_set {α : Type} (f : α → Nat) (l : List α) {i : Nat} (hi : i < l.length) (x : α) :
    sumOver f (l.set i x) + f l[i] = sumOver f l + f x := by
  induction l generalizing i with
  | nil => cases hi
  | cons y l ih =>
    cases i with
    | zero =>
      simp only [List.set_cons_zero, sumOver_cons, List.getElem_cons_zero]
      omega
    | succ i =>
      have := ih (Nat.lt_of_succ_lt_succ hi)
      simp only [List.set_cons_succ, sumOver_cons, List.getElem_cons_succ]
      omega

theorem sumOver_perm {α : Type} (f : α → Nat) {l m : List α} (h : l.Perm m) : sumOver f l = sumOver f m :=
  (h.map f).sum_eq

theorem sumOver_itemHolds (a : BufId) (q : List BranchItem) : sumOver (itemHolds a) q = (q.map (·.buf)).count a := by
  induction q with
  | nil => rfl
  | cons i q ih =>
    rw [sumOver_cons, ih, List.map_cons, List.count_cons, itemHolds, holds_some]
    simp only [beq_iff_eq, eq_comm (a := i.buf), Nat.add_comm]

theorem count_toList (a : BufId) (r : Option BufId) : r.toList.count a = holds a r := by
  cases r with
  | none => rfl
  | some b =>
    rw [Option.toList_some, List.count_singleton, holds_some]
    simp only [beq_iff_eq, eq_comm (a := b)]

theorem insertItem_perm (q : List BranchItem) (i : BranchItem) : (insertItem q i).Perm (i :: q) := by
  unfold insertItem
  split
  · have := List.perm_middle (a := i) (l₁ := q.takeWhile (·.urgent)) (l₂ := q.dropWhile (·.urgent))
    rwa [List.takeWhile_append_dropWhile] at this
  · exact List.perm_append_singleton i q

section Holders

variable {s t : State}

theorem State.holders_congr (hp : ∀ p, (t.port p).line = (s.port p).line)
    (hq : ∀ b, (t.branch b).queue = (s.branch b).queue)
    (ht : t.trunkQueue = s.trunkQueue) (hr : t.records = s.records) (a : BufId) : t.holders a = s.holders a := by
  simp only [State.holders, hp, hq, ht, hr]

theorem State.holders_setRecord (s : State) {x : SlotNo} (hx : x.val < s.records.length) (r : Option Exchange)
    (a : BufId) : (s.setRecord x r).holders a + recordHolds a (s.record x) = s.holders a + recordHolds a r := by
  have hset := sumOver_set (recordHolds a) s.records hx r
  have hget : s.records[x.val] = s.record x := by rw [State.record, List.getD_eq_getElem]
  rw [hget] at hset
  have hp : ∀ p, (s.setRecord x r).port p = s.port p := fun _ => rfl
  have hb : ∀ b, (s.setRecord x r).branch b = s.branch b := fun _ => rfl
  simp only [State.holders, hp, hb, State.setRecord_trunkQueue, State.setRecord_records]
  omega

theorem State.holders_setTrunk (s : State) (q : List TrunkItem) (a : BufId) :
    State.holders { s with trunkQueue := q } a + sumOver (trunkItemHolds a) s.trunkQueue =
      s.holders a + sumOver (trunkItemHolds a) q := by
  have hp : ∀ p, State.port { s with trunkQueue := q } p = s.port p := fun _ => rfl
  have hb : ∀ b, State.branch { s with trunkQueue := q } b = s.branch b := fun _ => rfl
  simp only [State.holders, hp, hb]
  omega

theorem State.holders_setBranch (s : State) (b : BranchId) (x : Branch) (a : BufId) :
    (s.setBranch b x).holders a + sumOver (itemHolds a) (s.branch b).queue =
      s.holders a + sumOver (itemHolds a) x.queue := by
  have hp : ∀ p, (s.setBranch b x).port p = s.port p := fun _ => rfl
  simp only [State.holders, hp, State.branch_setBranch, State.setBranch_trunkQueue, State.setBranch_records]
  cases b <;> simp <;> omega

theorem State.holders_setPort (s : State) (p : PortId) (x : Port) (a : BufId) :
    (s.setPort p x).holders a + (s.port p).line.holders a = s.holders a + x.line.holders a := by
  have hb : ∀ b, (s.setPort p x).branch b = s.branch b := fun _ => rfl
  simp only [State.holders, hb, State.port_setPort, State.setPort_trunkQueue, State.setPort_records]
  cases p <;> simp <;> omega

end Holders

/-! ### The pool while buffers are in hand -/

/-- The exchange has released its request as far as it is RETURNING or SETTLING (R30, R54). -/
def Exchange.RequestSound (e : Exchange) : Prop :=
  match e.mode with
  | .direct d => e.request = none ↔ d.phase = .returning
  | .probe q => e.request = none ↔ q.phase = .settling

/-- Every exchange holds its request as long as R23 and R54 say. -/
def State.RequestsSound (s : State) : Prop := ∀ x e, s.record x = some e → e.RequestSound

/-- The pool agrees with its holders and with the references `hand` that an event has taken over and not yet placed
or released. -/
structure State.Holding (s : State) (hand : List BufId) : Prop where
  hunt : s.SendersHunt
  records : s.records.length = 16
  requests : s.RequestsSound
  counts : s.pool.Counts (fun a => s.holders a + hand.count a)

theorem State.poolSound_iff (s : State) : s.PoolSound ∧ s.RequestsSound ↔ s.Holding [] := by
  constructor
  · rintro ⟨⟨hhunt, hlen, hrec, hnd, hfree, hrefs⟩, hreq⟩
    exact ⟨hhunt, hrec, hreq, ⟨hlen, hnd, hfree, hrefs⟩⟩
  · rintro ⟨hhunt, hrec, hreq, ⟨hlen, hnd, hfree, hrefs⟩⟩
    exact ⟨⟨hhunt, hlen, hrec, hnd, hfree, hrefs⟩, hreq⟩

theorem State.RequestsSound.congr {s t : State} (h : s.RequestsSound) (hr : t.records = s.records) : t.RequestsSound :=
  fun x e he => h x e ((State.record_congr hr x).symm.trans he)

namespace State.Holding

variable {s t : State} {hand kept : List BufId}

/-- The same references, told apart in another way. -/
theorem move (hs : s.Holding hand) (hunt : t.SendersHunt) (hr : t.records = s.records)
    (hpool : t.pool = s.pool) (hc : ∀ a, t.holders a + kept.count a = s.holders a + hand.count a) : t.Holding kept :=
  ⟨hunt, hr ▸ hs.records, hs.requests.congr hr, hpool ▸ hs.counts.congr fun a => (hc a).symm⟩

theorem sendersHunt_congr (h : s.SendersHunt) (hp : ∀ p, (t.port p).line = (s.port p).line) : t.SendersHunt :=
  fun p l hl => h p l (by rw [State.live?, ← hp]; exact hl)

/-- Nothing that holds a buffer is touched. -/
theorem of_eq (hs : s.Holding hand) (hp : ∀ p, (t.port p).line = (s.port p).line)
    (hq : ∀ b, (t.branch b).queue = (s.branch b).queue) (ht : t.trunkQueue = s.trunkQueue) (hr : t.records = s.records)
    (hpool : t.pool = s.pool) : t.Holding hand :=
  hs.move (sendersHunt_congr hs.hunt hp) hr hpool fun a => by rw [State.holders_congr hp hq ht hr]

/-- One reference in hand is released. -/
theorem release {b : BufId} (hs : s.Holding (b :: hand)) : (s.release b).Holding hand := by
  refine ⟨hs.hunt, hs.records, hs.requests, Pool.Counts.release (hs.counts.congr fun a => ?_)⟩
  rw [List.count_cons, holds_some, State.holders_congr (s := s) (t := s.release b) (fun _ => rfl) (fun _ => rfl) rfl rfl]
  simp only [beq_iff_eq, eq_comm (a := b), Nat.add_assoc]

theorem releaseOpt {r : Option BufId} (hs : s.Holding (r.toList ++ hand)) : (s.releaseOpt r).Holding hand := by
  cases r with
  | none => exact hs
  | some b => exact release hs

theorem releaseAll {bs : List BufId} (hs : s.Holding (bs ++ hand)) : (s.releaseAll bs).Holding hand := by
  induction bs generalizing s with
  | nil => exact hs
  | cons b bs ih => exact ih (release hs)

/-- A buffer that is held is held once more, by the hand. -/
theorem retain {b : BufId} (hs : s.Holding hand) (hb : 1 ≤ s.holders b + hand.count b) :
    (s.retain b).Holding (b :: hand) := by
  refine ⟨hs.hunt, hs.records, hs.requests, (hs.counts.retain hb).congr fun a => ?_⟩
  rw [List.count_cons, holds_some, State.holders_congr (s := s) (t := s.retain b) (fun _ => rfl) (fun _ => rfl) rfl rfl]
  simp only [beq_iff_eq, eq_comm (a := b), Nat.add_assoc]

/-- A record changes what it holds. -/
theorem setRecord {x : SlotNo} {r : Option Exchange} (hs : s.Holding hand) (hr : ∀ e, r = some e → e.RequestSound)
    (hc : ∀ a, recordHolds a r + kept.count a = recordHolds a (s.record x) + hand.count a) :
    (s.setRecord x r).Holding kept := by
  refine ⟨hs.hunt, List.length_set.trans hs.records, fun y e he => ?_, hs.counts.congr fun a => ?_⟩
  · rcases State.record_setRecord_cases he with ⟨-, h⟩ | h
    · exact hr e h
    · exact hs.requests y e h
  · have := s.holders_setRecord (x := x) (by rw [hs.records]; exact x.isLt) r a
    have := hc a
    omega

/-- A branch changes what its queue holds. -/
theorem setBranch {b : BranchId} {x : Branch} (hs : s.Holding hand)
    (hc : ∀ a, sumOver (itemHolds a) x.queue + kept.count a =
      sumOver (itemHolds a) (s.branch b).queue + hand.count a) : (s.setBranch b x).Holding kept := by
  refine hs.move hs.hunt rfl rfl fun a => ?_
  have := s.holders_setBranch b x a
  have := hc a
  omega

/-- The trunk queue changes what it holds. -/
theorem setTrunk {q : List TrunkItem} (hs : s.Holding hand)
    (hc : ∀ a, sumOver (trunkItemHolds a) q + kept.count a =
      sumOver (trunkItemHolds a) s.trunkQueue + hand.count a) : State.Holding { s with trunkQueue := q } kept := by
  refine hs.move hs.hunt rfl rfl fun a => ?_
  have := s.holders_setTrunk q a
  have := hc a
  omega

/-- A port changes what its line holds, and a line in SEND collects nothing (R129). -/
theorem setPort {p : PortId} {x : Port} (hs : s.Holding hand)
    (hunt : ∀ l, x.line = .active l → l.tx.sending?.isSome = true → l.rx = .hunt)
    (hc : ∀ a, x.line.holders a + kept.count a = (s.port p).line.holders a + hand.count a) :
    (s.setPort p x).Holding kept := by
  refine hs.move (fun q l hl => ?_) rfl rfl fun a => ?_
  · rw [State.live?, State.port_setPort] at hl
    split at hl
    · refine hunt l ?_
      cases hline : x.line with
      | active m => rw [hline] at hl; cases hl; rfl
      | disabled => rw [hline] at hl; cases hl
      | fault n => rw [hline] at hl; cases hl
    · exact hs.hunt q l hl
  · have := s.holders_setPort p x a
    have := hc a
    omega

/-- The receiver or the transmitter of an ACTIVE port changes what it holds. -/
theorem setLive {p : PortId} {l m : Live} (hs : s.Holding hand) (h : s.live? p = some l)
    (hunt : m.tx.sending?.isSome = true → m.rx = .hunt)
    (hc : ∀ a, holds a m.rx.buf? + holds a m.tx.buf? + kept.count a =
      holds a l.rx.buf? + holds a l.tx.buf? + hand.count a) : (s.setLive p m).Holding kept := by
  refine hs.setPort (x := { s.port p with line := .active m }) (fun v hv => ?_) fun a => ?_
  · cases hv
    exact hunt
  · rw [State.line_of_live? h]
    exact hc a

theorem enqueue {i : TrunkItem} (hs : s.Holding (i.buf?.toList ++ hand)) : (s.enqueue i).Holding hand := by
  refine hs.setTrunk fun a => ?_
  rw [sumOver_append, List.count_append, count_toList]
  simp only [sumOver, List.map_cons, List.map_nil, List.sum_cons, List.sum_nil, trunkItemHolds]
  omega

/-- An item is placed, with a reference of its own on a buffer that is held. -/
theorem appendItem {b : BranchId} {i : BranchItem} (hs : s.Holding hand)
    (hb : 1 ≤ s.holders i.buf + hand.count i.buf) : (s.appendItem b i).Holding hand := by
  refine (hs.retain hb).setBranch fun a => ?_
  rw [sumOver_perm _ (insertItem_perm ..), sumOver_cons, List.count_cons, itemHolds, holds_some]
  have hbranch : (s.retain i.buf).branch b = s.branch b := rfl
  simp only [hbranch, beq_iff_eq, eq_comm (a := i.buf)]
  omega

end State.Holding

end Sys2Proof.Machine
end

section
/-! PROOFS. Every effect of a command keeps the pool in agreement with the holders of its buffers (R93 to R97, R129). -/

namespace Sys2Proof.Machine

/-- An exchange that is RETURNING has released its request. -/
theorem Exchange.returning_requestSound (e : Exchange) (d : Direct) :
    Exchange.RequestSound { e with request := none, mode := .direct { d with phase := .returning } } :=
  ⟨fun _ => rfl, fun _ => rfl⟩

/-- The exchange that a first answer leaves behind for the time of its return: SETTLING, without a request. -/
def Exchange.answered (e : Exchange) (q : Probe) : Exchange :=
  { e with request := none, mode := .probe { q with phase := .settling } }

namespace State.Holding

variable {s t u v : State} {hand : List BufId} {x : SlotNo} {e : Exchange} {b : BufId}

/-! ### What holds no buffer -/

theorem count (hs : s.Holding hand) (c : BridgeCounter) : (s.count c).Holding hand :=
  hs.of_eq (fun _ => rfl) (fun _ => rfl) rfl rfl rfl

theorem countPort (hs : s.Holding hand) (p : PortId) (c : PortCounter) : (s.countPort p c).Holding hand := by
  refine hs.of_eq (fun q => ?_) (fun _ => rfl) rfl rfl rfl
  rw [State.countPort, State.port_setPort]
  split
  · rename_i hq
    rw [hq]
  · rfl

/-- A branch changes, and its queue does not. -/
theorem setBranchOf (hs : s.Holding hand) (b : BranchId) {y : Branch} (hy : y.queue = (s.branch b).queue) :
    (s.setBranch b y).Holding hand := hs.setBranch fun a => by rw [hy]

theorem setSlot (hs : s.Holding hand) (b : BranchId) (w : Option Slot) : (s.setSlot b w).Holding hand :=
  hs.setBranchOf b rfl

theorem setHolder (hs : s.Holding hand) (b : BranchId) (w : Option SlotNo) : (s.setHolder b w).Holding hand :=
  hs.setBranchOf b rfl

theorem setLastTimedOut (hs : s.Holding hand) (b : BranchId) (w : Option (Key × SlotNo)) :
    (s.setLastTimedOut b w).Holding hand := hs.setBranchOf b rfl

theorem clearBranch (hs : s.Holding hand) (b : BranchId) : (s.clearBranch b).Holding hand := hs.setBranchOf b rfl

theorem learn (hs : s.Holding hand) (a : Octet) (b : BranchId) : (s.learn a b).Holding hand := by
  rw [State.learn_frame]
  exact hs.of_eq (fun _ => rfl) (fun _ => rfl) rfl rfl rfl

theorem refreshFor (hs : s.Holding hand) (e : Exchange) (d : Direct) (f : Frame) : (s.refreshFor e d f).Holding hand := by
  rw [State.refreshFor_frame]
  exact hs.of_eq (fun _ => rfl) (fun _ => rfl) rfl rfl rfl

/-! ### Alerts, and items without a buffer -/

theorem enqueueUnit (hs : s.Holding hand) {i : TrunkItem} (hi : i.buf? = none) : (s.enqueue i).Holding hand :=
  enqueue (by rw [hi]; exact hs)

theorem offerAlert (hs : s.Holding hand) : s.offerAlert.Holding hand := by
  unfold State.offerAlert
  split
  · exact hs
  · rename_i e _ _
    split
    · have hoffered := hs.enqueueUnit (i := .alert (s.alertItem e)) rfl
      exact hoffered.of_eq (fun _ => rfl) (fun _ => rfl) rfl rfl rfl
    · exact hs

theorem raise (hs : s.Holding hand) (k : AlertKind) (a : Octet) : (s.raise k a).Holding hand :=
  offerAlert (hs.of_eq (t := { s with alerts := s.alerts.add k a }) (fun _ => rfl) (fun _ => rfl) rfl rfl rfl)

theorem alertLost (hs : s.Holding hand) : s.alertLost.Holding hand :=
  offerAlert (hs.of_eq (t := { s with alerts := { s.alerts with offered := false } })
    (fun _ => rfl) (fun _ => rfl) rfl rfl rfl)

theorem alertSent (hs : s.Holding hand) (i : AlertItem) : (s.alertSent i).Holding hand :=
  offerAlert (hs.of_eq (t := { s with alerts := { s.alerts with
    list := s.alerts.list.tail, offered := false, overflow := s.alerts.overflow && !i.overflow } })
    (fun _ => rfl) (fun _ => rfl) rfl rfl rfl)

theorem choices (hs : s.Holding hand) : State.Holding { s with choices := s.choices + 1 } hand :=
  hs.of_eq (fun _ => rfl) (fun _ => rfl) rfl rfl rfl

theorem resetAt (straps : Straps) : (s.resetAt straps).Holding [] := by
  refine (State.poolSound_iff _).mp ⟨State.poolSound_resetWith straps, fun x e he => ?_⟩
  have hfree : (s.resetAt straps).record x = none := State.record_resetWith straps x
  rw [hfree] at he
  cases he

theorem settleRestart (hs : s.Holding []) (straps : Straps) : (s.settleRestart straps).Holding [] := by
  rcases State.settleRestart_cases s straps with h | ⟨-, -, h⟩ <;> rw [h]
  · exact hs
  · exact .resetAt straps

theorem respond (hs : s.Holding []) (h : Header) (code : Octet) (status : Status) (data : List Octet) :
    (s.respond h code status data).Holding [] := by
  rcases State.respond_cases s h code status data with ⟨-, hr⟩ | ⟨-, -, hr⟩ | ⟨-, hr⟩ <;> rw [hr]
  · exact (hs.enqueueUnit (i := .response) rfl).of_eq (fun _ => rfl) (fun _ => rfl) rfl rfl rfl
  · exact hs.of_eq (fun _ => rfl) (fun _ => rfl) rfl rfl rfl
  · exact .resetAt _

theorem refuseBusy (hs : s.Holding hand) (h : Header) : (s.refuseBusy h).Holding hand := by
  unfold State.refuseBusy
  dsimp only
  split
  · exact (hs.enqueueUnit rfl).count _
  · exact hs.count _

/-! ### The exchange engine -/

theorem holds_request (a : BufId) {r : Option Exchange} (h : r = some e) : recordHolds a r = e.request.toList.count a := by
  rw [h, count_toList]
  rfl

/-- A record keeps its request. -/
theorem setRecordOf (hs : s.Holding hand) (he : s.record x = some e) {f : Exchange} (hf : f.request = e.request)
    (hsound : f.RequestSound) : (s.setRecord x (some f)).Holding hand :=
  hs.setRecord (fun g hg => by cases hg; exact hsound) fun a => by rw [holds_request a rfl, holds_request a he, hf]

/-- A record without a request becomes another one without a request, or FREE. -/
theorem setRecordIdle (hs : s.Holding hand) (hnone : ∀ f, s.record x = some f → f.request = none) {r : Option Exchange}
    (hr : ∀ f, r = some f → f.request = none ∧ f.RequestSound) : (s.setRecord x r).Holding hand := by
  have hzero : ∀ o : Option Exchange, (∀ f, o = some f → f.request = none) → ∀ a, recordHolds a o = 0 := fun o ho a => by
    cases o with
    | none => rfl
    | some f => rw [holds_request a rfl, ho f rfl]; rfl
  refine hs.setRecord (fun f hf => (hr f hf).2) fun a => ?_
  rw [hzero _ hnone a, hzero _ (fun f hf => (hr f hf).1) a]

theorem releaseOpt_setRecord (s : State) (r : Option BufId) (x : SlotNo) (w : Option Exchange) :
    (s.releaseOpt r).setRecord x w = (s.setRecord x w).releaseOpt r := by cases r <;> rfl

theorem releaseOpt_enqueue (s : State) (r : Option BufId) (i : TrunkItem) :
    (s.releaseOpt r).enqueue i = (s.enqueue i).releaseOpt r := by cases r <;> rfl

theorem releaseOpt_count (s : State) (r : Option BufId) (c : BridgeCounter) :
    (s.releaseOpt r).count c = (s.count c).releaseOpt r := by cases r <;> rfl

/-- The request of an ended exchange is released, and its record holds none (R30, R31). -/
theorem endRequest (hs : s.Holding hand) (he : s.record x = some e) {r : Option Exchange}
    (hr : ∀ f, r = some f → f.request = none ∧ f.RequestSound) :
    ((s.releaseOpt e.request).setRecord x r).Holding hand := by
  rw [releaseOpt_setRecord]
  refine releaseOpt (hs.setRecord (fun f hf => (hr f hf).2) fun a => ?_)
  rw [holds_request a he, List.count_append]
  cases r with
  | none => exact Nat.zero_add _
  | some f => rw [holds_request a rfl, (hr f rfl).1]; exact Nat.zero_add _

theorem endFree (hs : s.Holding hand) (he : s.record x = some e) :
    ((s.releaseOpt e.request).setRecord x none).Holding hand := hs.endRequest he nofun

theorem refuse (hs : s.Holding hand) (he : s.record x = some e) (d : Direct) (r : Reason) :
    (s.refuse x e d r).Holding hand := by
  unfold State.refuse
  split
  · rw [releaseOpt_enqueue, releaseOpt_count]
    refine endRequest (s := (s.enqueue (.refusalReturn x (e.refusal r))).count (.refusals r)) ?_ he
      (fun f hf => by cases hf; exact ⟨rfl, e.returning_requestSound d⟩)
    exact (hs.enqueueUnit rfl).count _
  · rw [releaseOpt_count]
    exact endFree (s := s.count .returnsLost) (hs.count _) he

/-- A returned frame takes its buffer with it, or the buffer is released (R31). -/
theorem returnFrame (hs : s.Holding (b :: hand)) (he : s.record x = some e) (d : Direct) :
    (s.returnFrame x e d b).Holding hand := by
  unfold State.returnFrame
  split
  · rw [releaseOpt_enqueue]
    exact endRequest (s := s.enqueue (.frameReturn x b)) (enqueue (i := .frameReturn x b) hs) he
      (fun f hf => by cases hf; exact ⟨rfl, e.returning_requestSound d⟩)
  · have hlost := endFree (s := s.count .returnsLost) (hs.count _) he
    rw [← releaseOpt_count] at hlost
    exact release hlost

theorem refuseAtOnce (hs : s.Holding (b :: hand)) (r : RefusalItem) : (s.refuseAtOnce b r).Holding hand := by
  unfold State.refuseAtOnce
  split
  · exact (hs.release.enqueueUnit rfl).count _
  · exact hs.release.count _

/-- A SETTLING exchange holds no request, and neither does what is left of it (R54). -/
theorem settle (hs : s.Holding hand) (hfree : ∀ f, s.record x = some f → f.request = none) (hnone : e.request = none)
    {q : Probe} (hq : q.phase = .settling) : (s.settle x e q).Holding hand := by
  rw [State.settle_eq]
  refine hs.setRecordIdle hfree fun f hf => ?_
  split at hf
  · cases hf
  · cases hf
    exact ⟨hnone, fun _ => hq, fun _ => hnone⟩

theorem settling_request (hs : s.Holding hand) (he : s.record x = some e) {q : Probe} (hm : e.mode = .probe q)
    (hq : q.phase = .settling) : e.request = none := by
  have := hs.requests x e he
  rw [Exchange.RequestSound, hm] at this
  exact this.mpr hq

/-- A SETTLING exchange goes on with another probe set, or ends (R67, R68). -/
theorem settleOn (hs : s.Holding hand) (he : s.record x = some e) {q q' : Probe} (hm : e.mode = .probe q)
    (hq : q.phase = .settling) (hq' : q'.phase = .settling) : (s.settle x e q').Holding hand := by
  have hnone := hs.settling_request he hm hq
  exact hs.settle (fun f hf => by rw [he] at hf; cases hf; exact hnone) hnone hq'

/-- What an exchange keeps of its request when a branch leaves its probe set (R60, R66, R67). -/
theorem loseBranch (hs : s.Holding hand) (he : s.record x = some e) {q : Probe} (hm : e.mode = .probe q)
    (b : BranchId) : (s.loseBranch x e q b).Holding hand := by
  unfold State.loseBranch
  split
  · rename_i hq
    split
    · exact (hs.endFree he).count _
    · refine hs.setRecordOf he rfl ?_
      have := hs.requests x e he
      rw [Exchange.RequestSound, hm] at this
      exact this
  · rename_i hq
    exact hs.settleOn he hm hq hq

/-- The exchange of a return that has ended holds no request (R43, R44). -/
theorem returnDone (hs : s.Holding hand) (hidle : ∀ e, s.record x = some e → e.request = none) :
    (s.returnDone x).Holding hand := by
  unfold State.returnDone
  split
  · exact hs
  · rename_i e he
    split
    · exact hs.setRecordIdle hidle (fun f hf => by cases hf)
    · rename_i q hm
      have hq : q.phase = .settling := by
        have := hs.requests x e he
        rw [Exchange.RequestSound, hm] at this
        exact this.mp (hidle e he)
      exact hs.settleOn he hm hq hq

theorem returnLost (hs : s.Holding hand) (hidle : ∀ e, s.record x = some e → e.request = none) :
    (s.returnLost x).Holding hand := (hs.returnDone hidle).count _

theorem downRecord (hs : s.Holding hand) (p : BranchId) (x : SlotNo) : (State.downRecord p s x).Holding hand := by
  unfold State.downRecord
  split
  · exact hs
  · rename_i e he
    split
    · split
      · exact hs.refuse he ..
      · exact hs
    · rename_i q hm
      split
      · exact hs.loseBranch he hm p
      · exact hs

theorem flushRecord (hs : s.Holding hand) (x : SlotNo) : (s.flushRecord x).Holding hand := by
  unfold State.flushRecord
  split
  · exact hs
  · rename_i e he
    split
    · split
      · exact hs.refuse he ..
      · exact hs
    · rename_i q hm
      split
      · exact hs.endFree he
      · rename_i hq
        exact hs.settleOn he hm hq hq

theorem foldl {α : Type} {op : State → α → State} (hop : ∀ t a, State.Holding t hand → (op t a).Holding hand) (as : List α)
    (hs : s.Holding hand) : (as.foldl op s).Holding hand := by
  induction as generalizing s with
  | nil => exact hs
  | cons a as ih => exact ih (hop s a hs)

/-- A branch queue loses the items that go into the hand. -/
theorem setQueue (hs : s.Holding hand) (b : BranchId) {q : List BranchItem} {out : List BufId}
    (hq : ∀ a, (q.map (·.buf)).count a + out.count a = ((s.branch b).queue.map (·.buf)).count a) :
    (s.setQueue b q).Holding (out ++ hand) := by
  refine hs.setBranch fun a => ?_
  show sumOver (itemHolds a) q + _ = _
  have := hq a
  rw [sumOver_itemHolds, sumOver_itemHolds, List.count_append]
  omega

theorem emptyQueue (hs : s.Holding hand) (b : BranchId) : (s.emptyQueue b).Holding hand :=
  releaseAll (hs.setQueue b fun _ => Nat.zero_add _)

theorem cancelIn (hs : s.Holding hand) (x : SlotNo) (b : BranchId) : (State.cancelIn x s b).Holding hand := by
  refine releaseAll (hs.setQueue b fun a => ?_)
  have hperm := (List.filter_append_perm (fun i : BranchItem => i.isProbeOf x) (s.branch b).queue).map (·.buf)
  rw [← hperm.count_eq, List.map_append, List.count_append, Nat.add_comm]

theorem branchDown (hs : s.Holding hand) (p : BranchId) : (s.branchDown p).Holding hand :=
  foldl (fun _ x ht => ht.downRecord p x) allSlots ((hs.emptyQueue p).clearBranch p)

theorem flushed (hs : s.Holding hand) : s.flushed.Holding hand :=
  foldl (fun _ x ht => ht.flushRecord x) allSlots
    (foldl (fun _ p ht => (ht.emptyQueue p).clearBranch p) allBranches hs)

theorem windowExpired (hs : s.Holding hand) (he : s.record x = some e) (p : BranchId) {d : Direct}
    (hm : e.mode = .direct d) (hph : d.phase ≠ .returning) : (s.windowExpired p x e d).Holding hand := by
  have hstart := ((hs.count .timeouts).setSlot p none).setLastTimedOut p (some (e.key, x))
  unfold State.windowExpired
  dsimp only
  split
  · refine setRecordOf (s := (((s.count .timeouts).setSlot p none).setLastTimedOut p (some (e.key, x))).setHolder p
      (some x)) (hstart.setHolder p (some x)) he rfl ?_
    have hreq := hs.requests x e he
    rw [Exchange.RequestSound, hm] at hreq
    exact ⟨fun h => absurd (hreq.mp h) hph, nofun⟩
  · exact hstart.refuse (s := ((s.count .timeouts).setSlot p none).setLastTimedOut p (some (e.key, x))) he d .timeout

theorem branchSent (hs : s.Holding hand) (p : BranchId) (i : BranchItem) : (s.branchSent p i).Holding hand := by
  rcases State.branchSent_cases s p i with h | ⟨x, -, -, h⟩ | ⟨x, e, d, -, -, he, hm, hph, h⟩ <;> rw [h]
  · exact hs
  · exact hs.setSlot ..
  · refine State.Holding.setSlot (hs.setRecordOf (f := e.sent d) he rfl ?_) p _
    have hreq := hs.requests x e he
    rw [Exchange.RequestSound, hm] at hreq
    exact ⟨fun h => absurd (hph.symm.trans (hreq.mp h)) (by decide), nofun⟩

theorem branchAbandoned (hs : s.Holding hand) (p : BranchId) (i : BranchItem) : (s.branchAbandoned p i).Holding hand := by
  rcases State.branchAbandoned_cases s p i with h | ⟨x, e, q, -, -, he, hm, h⟩ | ⟨x, e, d, -, -, he, -, -, h⟩ <;> rw [h]
  · exact hs
  · exact loseBranch (s := s.setSlot p none) (hs.setSlot p none) he hm p
  · exact refuse (s := s.setSlot p none) (hs.setSlot p none) he d .contention

/-! ### Answers -/

theorem matched (hs : s.Holding (b :: hand)) (he : s.record x = some e) (q : BranchId) (d : Direct) (f : Frame) :
    (s.matched q x e d f b).Holding hand := by
  refine returnFrame ((hs.setSlot q none).refreshFor e d f) ?_ d
  rw [State.refreshFor_frame]
  exact he

theorem lateAccepted (hs : s.Holding (b :: hand)) (he : s.record x = some e) (q : BranchId) (d : Direct) (f : Frame) :
    (s.lateAccepted q x e d f b).Holding hand := by
  refine returnFrame ((hs.setHolder q none).refreshFor e d f) ?_ d
  rw [State.refreshFor_frame]
  exact he

theorem furtherAnswer (hs : s.Holding (b :: hand)) (he : s.record x = some e) (p : BranchId) {q : Probe}
    (hm : e.mode = .probe q) (hq : q.phase = .settling) : (s.furtherAnswer p x e q b).Holding hand := by
  have hrec : (((s.setSlot p none).learn e.key.station p).release b).record x = some e := by
    rw [State.learn_frame]
    exact he
  have hsettled := ((hs.setSlot p none).learn e.key.station p).release.settleOn hrec hm hq
    (q' := { q with set := branchSet q.set p false }) hq
  unfold State.furtherAnswer
  dsimp only
  split
  · exact hsettled.raise ..
  · exact hsettled

theorem settle_setRecord (s : State) (x : SlotNo) (r : Option Exchange) (e : Exchange) (q : Probe) :
    (s.setRecord x r).settle x e q = s.settle x e q := by
  rw [State.settle_eq, State.settle_eq, State.setRecord_setRecord]

/-- The return of a first answer takes the buffer of the answer with it, or releases it; the record, whatever it held,
has released its request (R64). -/
theorem returnAnswer {f : Exchange} (hs : (s.setRecord x (some f)).Holding (b :: hand)) (hf : f.request = none)
    (q : Probe) : (s.returnAnswer x e q b).Holding hand := by
  have hx : x.val < s.records.length := by
    have := hs.records
    rw [State.setRecord_records, List.length_set] at this
    rw [this]
    exact x.isLt
  have hidle : ∀ g, (s.setRecord x (some f)).record x = some g → g.request = none := fun g hg => by
    rw [State.record_setRecord s x x _ hx, if_pos rfl] at hg
    cases hg
    exact hf
  unfold State.returnAnswer
  split
  · rw [← settle_setRecord _ x (some f)]
    exact settle (s := (s.enqueue (.frameReturn x b)).setRecord x (some f))
      (enqueue (s := s.setRecord x (some f)) (i := .frameReturn x b) hs) hidle rfl rfl
  · rw [← settle_setRecord _ x (some f)]
    exact settle (s := ((s.release b).count .returnsLost).setRecord x (some f))
      (count (s := (s.release b).setRecord x (some f)) (release (s := s.setRecord x (some f)) hs) .returnsLost) hidle
      rfl rfl

theorem raise_setRecord (s : State) (k : AlertKind) (a : Octet) (x : SlotNo) (r : Option Exchange) :
    (s.raise k a).setRecord x r = (s.setRecord x r).raise k a := by
  have hoffer : ∀ t : State, t.offerAlert.setRecord x r = (t.setRecord x r).offerAlert := fun t => by
    cases hl : t.alerts.list with
    | nil => rw [State.offerAlert_of_not_due (.inl hl), State.offerAlert_of_not_due (s := t.setRecord x r) (.inl hl)]
    | cons e rest =>
      simp only [State.offerAlert, hl, State.setRecord_alerts]
      split <;> rename_i h
      · rw [if_pos (by exact h)]
        rfl
      · rw [if_neg (by exact h)]
  exact hoffer { s with alerts := s.alerts.add k a }

theorem firstTaken (hs : s.Holding hand) (he : s.record x = some e) (p : BranchId) (q : Probe) :
    ((s.firstTaken p x e).setRecord x (some (e.answered q))).Holding hand := by
  have hcancelled := foldl (fun _ c ht => ht.cancelIn x c) allBranches (hs.setSlot p none)
  have hrec : (allBranches.foldl (State.cancelIn x) (s.setSlot p none)).record x = some e := by
    rw [State.cancelAll_frame]
    exact he
  have hended := hcancelled.endRequest hrec (r := some (e.answered q))
    (fun f hf => by cases hf; exact ⟨rfl, fun _ => rfl, fun _ => rfl⟩)
  unfold State.firstTaken
  rw [State.learn_frame]
  exact hended.of_eq (fun _ => rfl) (fun _ => rfl) rfl rfl rfl

theorem firstAnswer (hs : s.Holding (b :: hand)) (he : s.record x = some e) (p : BranchId) (q : Probe) :
    (s.firstAnswer p x e q b).Holding hand := by
  have htaken := hs.firstTaken he p q
  have hreturn : ∀ t : State, (t.setRecord x (some (e.answered q))).Holding (b :: hand) →
      (t.returnAnswer x e (s.firstLeft p x q) b).Holding hand := fun t ht => ht.returnAnswer rfl _
  rw [State.firstAnswer_eq]
  split
  case isFalse => exact hreturn _ htaken
  case isTrue =>
    rcases State.bothOrders_cases (s.firstTaken p x e) (fun t => t.returnAnswer x e (s.firstLeft p x q) b)
      (fun t => t.raise .addressConflict e.key.station) with h | h | h <;> rw [h]
    · exact (hreturn _ htaken).raise ..
    · refine hreturn _ ?_
      rw [raise_setRecord]
      exact raise (htaken.choices) ..
    · exact (hreturn _ htaken.choices).raise ..

/-! ### Opening and placing -/

theorem one_le_holders (hs : s.Holding hand) (he : s.record x = some e) (hb : e.request = some b) : 1 ≤ s.holders b := by
  have := s.holders_setRecord (x := x) (by rw [hs.records]; exact x.isLt) none b
  rw [holds_request b he, hb, Option.toList_some, List.count_singleton_self] at this
  have hzero : recordHolds b none = 0 := rfl
  omega

/-- A new exchange takes over the reference that came with the request (R29, R56). -/
theorem openAt (hs : s.Holding (b :: hand)) (hfree : s.record x = none) (hb : e.request = some b)
    (hsound : e.RequestSound) :
    (s.setRecord x (some e)).Holding hand ∧ (s.setRecord x (some e)).record x = some e := by
  refine ⟨hs.setRecord (fun f hf => by cases hf; exact hsound) fun a => ?_, ?_⟩
  · rw [holds_request a rfl, hb, hfree, ← List.count_append]
    exact (Nat.zero_add _).symm
  · rw [State.record_setRecord s x x _ (by rw [hs.records]; exact x.isLt), if_pos rfl]

/-- The request item of a new exchange holds a reference of its own. -/
theorem openDirect (hs : s.Holding (b :: hand)) (hfree : s.record x = none) (hb : e.request = some b)
    (hsound : e.RequestSound) (q : BranchId) {i : BranchItem} (hi : i.buf = b) :
    ((s.setRecord x (some e)).appendItem q i).Holding hand := by
  obtain ⟨hopen, hrec⟩ := hs.openAt hfree hb hsound
  exact hopen.appendItem (Nat.le_add_right_of_le (hopen.one_le_holders hrec (hi ▸ hb)))

theorem openDirectAt (hs : s.Holding (b :: hand)) (hfree : s.record x = none) (f : Frame) (q : BranchId) (window : Octet)
    (retries : Fin 4) (v : Bool) : (s.openDirectAt x f b q window retries v).Holding hand := by
  refine (hs.openDirect hfree rfl ?_ q rfl).count _
  exact ⟨nofun, nofun⟩

theorem placeProbe (hs : s.Holding hand) (he : s.record x = some e) (hb : e.request = some b) (f : Frame)
    (set : PerBranch Bool) (q : BranchId) : (State.placeProbe x f b set s q).Holding hand := by
  unfold State.placeProbe
  split
  · exact hs.appendItem (Nat.le_add_right_of_le (hs.one_le_holders he hb))
  · exact hs

theorem placeProbes (hs : s.Holding hand) (he : s.record x = some e) (hb : e.request = some b) (f : Frame)
    (set : PerBranch Bool) (qs : List BranchId) : (qs.foldl (State.placeProbe x f b set) s).Holding hand := by
  induction qs generalizing s with
  | nil => exact hs
  | cons q qs ih =>
    refine ih (hs.placeProbe he hb f set q) ?_
    rw [State.record_congr (by rw [State.placeProbe_frame])]
    exact he

theorem openProbe (hs : s.Holding (b :: hand)) (hfree : s.record x = none) (hb : e.request = some b)
    (hsound : e.RequestSound) (f : Frame) (set : PerBranch Bool) :
    (allBranches.foldl (State.placeProbe x f b set) (s.setRecord x (some e))).Holding hand := by
  obtain ⟨hopen, hrec⟩ := hs.openAt hfree hb hsound
  exact hopen.placeProbes hrec hb f set allBranches

theorem openProbeAt (hs : s.Holding (b :: hand)) (hfree : s.record x = none) (f : Frame) (set : PerBranch Bool) :
    (s.openProbeAt x f b set).Holding hand := by
  refine (hs.openProbe hfree rfl ?_ f set).count _
  exact ⟨nofun, nofun⟩

theorem placeNotices (hs : s.Holding (b :: hand)) (f : Frame) (targets : List BranchId) :
    (s.placeNotices f b targets).Holding hand := by
  refine release (foldl (fun t q ht => ?_) targets hs)
  unfold State.placeNotice
  split
  · refine ht.appendItem ?_
    rw [List.count_cons_self]
    omega
  · exact ht.countPort ..

theorem unsolicitedFrame (hs : s.Holding (b :: hand)) (q : BranchId) : (s.unsolicitedFrame q b).Holding hand := by
  unfold State.unsolicitedFrame
  split
  · exact (hs.countPort ..).release
  · split
    · exact enqueue (i := .passUp b) (hs.countPort ..)
    · exact (hs.countPort ..).release.countPort ..

end State.Holding

end Sys2Proof.Machine
end

section
/-! PROOFS. The pool through requests, dispatch, receivers, transmitters and teardowns (R93 to R97, R121, R129). -/

namespace Sys2Proof.Machine

/-- Each return among the items is of an exchange that has released its request (R23, R54). -/
def State.ReturnsIdle (s : State) (items : List TrunkItem) : Prop :=
  ∀ i ∈ items, ∀ x, i.isReturnOf x = true → ∀ e, s.record x = some e → e.request = none

/-- No record of `t` holds a request that it did not hold in `s`. -/
def State.KeepsRequests (s t : State) : Prop :=
  ∀ x f, t.record x = some f → ∃ e, s.record x = some e ∧ f.request = e.request

theorem State.KeepsRequests.of_records {s t : State} (h : t.records = s.records) : s.KeepsRequests t :=
  fun x f hf => ⟨f, (State.record_congr h x).symm.trans hf, rfl⟩

theorem State.ReturnsIdle.keeps {s t : State} {items : List TrunkItem} (hs : s.ReturnsIdle items)
    (h : s.KeepsRequests t) : t.ReturnsIdle items := fun i hi x hx f hf => by
  obtain ⟨e, he, hreq⟩ := h x f hf
  rw [hreq]
  exact hs i hi x hx e he

theorem State.KeepsRequests.returnDone (s : State) (x : SlotNo) : s.KeepsRequests (s.returnDone x) := by
  unfold State.returnDone
  split
  · exact .of_records rfl
  · rename_i e he
    split
    · intro y f hf
      rcases State.record_setRecord_cases hf with ⟨-, h⟩ | h
      · cases h
      · exact ⟨f, h, rfl⟩
    · intro y f hf
      rw [State.settle_eq] at hf
      rcases State.record_setRecord_cases hf with ⟨hy, h⟩ | h
      · split at h
        · cases h
        · cases h
          exact ⟨e, hy ▸ he, rfl⟩
      · exact ⟨f, h, rfl⟩

theorem State.KeepsRequests.dropItem (s : State) (i : TrunkItem) : s.KeepsRequests (s.dropItem i) := by
  cases i with
  | frameReturn x b => exact State.KeepsRequests.returnDone s x
  | refusalReturn x r => exact State.KeepsRequests.returnDone s x
  | alert a => exact .of_records (State.alertLost_records s)
  | _ => exact .of_records rfl

namespace State.Holding

variable {s t u v : State} {hand : List BufId} {x : SlotNo} {e : Exchange} {b : BufId}

/-! ### Ports that leave ACTIVE, or become it -/

/-- A line that is not ACTIVE holds no buffer. -/
theorem holders_down {line : Line} (h : line.live? = none) (a : BufId) : line.holders a = 0 := by
  cases line with
  | active l => cases h
  | _ => rfl

/-- A line that holds nothing takes the place of one that holds nothing. -/
theorem setLineDown (hs : s.Holding hand) {p : PortId} (hold : ∀ a, (s.port p).line.holders a = 0) {line : Line}
    (hnew : ∀ a, line.holders a = 0) (hunt : ∀ l, line = .active l → l.tx.sending?.isSome = true → l.rx = .hunt) :
    (s.setLine p line).Holding hand :=
  hs.setPort (x := { s.port p with line := line }) hunt fun a => by rw [hold a]; exact congrArg (· + _) (hnew a)

theorem holders_fresh (n : Nat) (a : BufId) : (Line.active (.fresh n)).holders a = 0 := rfl

theorem hunt_fresh (n : Nat) : ∀ l, Line.active (.fresh n) = .active l → l.tx.sending?.isSome = true → l.rx = .hunt := by
  rintro l ⟨⟩
  exact nofun

theorem enable (hs : s.Holding hand) (p : PortId) : (s.enable p).Holding hand := by
  unfold State.enable
  split
  · rename_i hl
    exact hs.setLineDown (fun a => by rw [hl]; rfl) (holders_fresh _) (hunt_fresh _)
  · exact hs
  · exact hs

theorem stopPort (hs : s.Holding hand) (p : PortId) {line : Line} (hline : line.live? = none) :
    (s.stopPort p line).Holding hand := by
  cases hl : s.live? p with
  | none => rw [State.stopPort_of_not_live hl]; exact hs
  | some l =>
    rw [State.stopPort_of_live hl]
    refine releaseOpt (releaseOpt (hs.setPort (fun m hm => ?_) fun a => ?_))
    · rw [show line = .active m from hm] at hline
      cases hline
    · rw [State.line_of_live? hl, show (s.stoppedPort p l line).line = line from rfl, holders_down hline,
        List.count_append, List.count_append, count_toList, count_toList]
      simp only [Line.holders]
      omega

theorem tearDownBranch (hs : s.Holding hand) (b : BranchId) {line : Line} (hline : line.live? = none) :
    (s.tearDownBranch b line).Holding hand := (hs.stopPort _ hline).branchDown b

theorem disable (hs : s.Holding hand) (b : BranchId) : (s.disable b).Holding hand := by
  unfold State.disable
  split
  · exact hs
  · exact hs.tearDownBranch b rfl
  · rename_i n hl
    exact hs.setLineDown (fun a => by rw [hl]; rfl) (fun _ => rfl) (fun _ h => by cases h)

theorem dropItem {i : TrunkItem} (hs : s.Holding hand) (hidle : s.ReturnsIdle [i]) : (s.dropItem i).Holding hand := by
  have hreturn : ∀ x, i.isReturnOf x = true → (s.returnLost x).Holding hand := fun x hx =>
    hs.returnLost (hidle i (List.mem_singleton_self i) x hx)
  cases i with
  | frameReturn x b => exact hreturn x (by simp [TrunkItem.isReturnOf])
  | refusalReturn x r => exact hreturn x (by simp [TrunkItem.isReturnOf])
  | response => exact hs.of_eq (fun _ => rfl) (fun _ => rfl) rfl rfl rfl
  | alert a => exact hs.alertLost
  | _ => exact hs

theorem dropItems {items : List TrunkItem} (hs : s.Holding (items.flatMap (fun i => i.buf?.toList) ++ hand))
    (hidle : s.ReturnsIdle items) :
    (items.foldl (fun t i => (t.releaseOpt i.buf?).dropItem i) s).Holding hand := by
  induction items generalizing s with
  | nil => exact hs
  | cons i items ih =>
    rw [List.flatMap_cons, List.append_assoc] at hs
    have hrelease : s.KeepsRequests (s.releaseOpt i.buf?) := .of_records (State.releaseOpt_records ..)
    have hall := hidle.keeps hrelease
    refine ih (hs.releaseOpt.dropItem fun j hj => hall j ?_) ?_
    · rw [List.mem_singleton.mp hj]
      exact List.mem_cons_self ..
    · exact State.ReturnsIdle.keeps (fun j hj => hall j (List.mem_cons_of_mem _ hj))
        (State.KeepsRequests.dropItem _ _)

theorem sumOver_trunkItemHolds (a : BufId) (q : List TrunkItem) :
    sumOver (trunkItemHolds a) q = (q.flatMap (fun i => i.buf?.toList)).count a := by
  induction q with
  | nil => rfl
  | cons i q ih => rw [sumOver_cons, ih, List.flatMap_cons, List.count_append, count_toList, trunkItemHolds]

theorem tearDownTrunk (hs : s.Holding hand) (hidle : s.ReturnsIdle s.trunkItems) {line : Line}
    (hline : line.live? = none) : (s.tearDownTrunk line).Holding hand := by
  unfold State.tearDownTrunk
  split
  · exact hs
  · rename_i l hl
    have hitems : s.trunkItems = (Line.active l).trunkItem?.toList ++ s.trunkQueue := State.trunkItems_of_current hl
    have hstop : (s.stopPort .p0 line).ReturnsIdle s.trunkItems := hidle.keeps (.of_records (State.stopPort_records ..))
    have hcurrent : ((s.stopPort .p0 line).dropCurrent l.tx).Holding hand ∧
        (s.stopPort .p0 line).KeepsRequests ((s.stopPort .p0 line).dropCurrent l.tx) := by
      unfold State.dropCurrent
      split
      · exact ⟨hs.stopPort _ hline, .of_records rfl⟩
      · rename_i c hc
        split
        · rename_i i hi
          refine ⟨(hs.stopPort _ hline).dropItem fun j hj => hstop j ?_,
            State.KeepsRequests.dropItem _ _⟩
          rw [hitems, Line.trunkItem?_of_trunk hc hi, List.mem_singleton.mp hj]
          exact List.mem_cons_self ..
        · exact ⟨hs.stopPort _ hline, .of_records rfl⟩
    refine dropItems (hcurrent.1.setTrunk fun a => ?_) ?_
    · have hdown : (s.stopPort .p0 line).isActive .p0 = false :=
        State.isActive_of_line (line := line) (by rw [State.port_stopPort_of_live hl, if_pos rfl]; rfl) hline
      obtain ⟨-, -, hqueue⟩ := State.dropCurrent_of_down hdown l
      rw [hqueue, State.stopPort_trunkQueue, sumOver_trunkItemHolds, sumOver_trunkItemHolds, List.count_append]
      exact Nat.zero_add _
    · refine State.ReturnsIdle.keeps (fun i hi => hstop i ?_) hcurrent.2
      rw [hitems]
      exact List.mem_append_right _ hi

theorem stuck (hs : s.Holding []) (hidle : s.ReturnsIdle s.trunkItems) {p : PortId} (high : Nat) (straps : Straps) :
    (s.stuck p high straps).Holding [] := by
  have hcount := hs.countPort p .faults
  unfold State.stuck
  split
  · rename_i hp
    have hitems : (s.countPort p .faults).trunkItems = s.trunkItems := by
      rw [State.trunkItems, State.trunkItems, State.countPort, State.port_setPort]
      split
      · rename_i h
        rw [h]
        rfl
      · rfl
    have hkept : (s.countPort p .faults).ReturnsIdle (s.countPort p .faults).trunkItems := by
      rw [hitems]
      exact hidle.keeps (.of_records rfl)
    exact ((hcount.tearDownTrunk hkept rfl).raise ..).settleRestart straps
  · exact State.bothOrders_induction (I := fun t => t.Holding []) (fun _ ht => ht.tearDownBranch _ rfl)
      (fun _ ht => ht.raise ..) (fun h => h.choices) hcount

/-! ### Requests and frames -/

theorem manages (hs : s.Holding []) (hm : s.Manages v) : v.Holding [] := by
  cases hm with
  | clearsPort p =>
    refine hs.of_eq (fun q => ?_) (fun _ => rfl) rfl rfl rfl
    rw [State.clearPortCounters, State.port_setPort]
    split
    · rename_i hq
      rw [hq]
    · rfl
  | configures b rate guard unsolicited broadcast probe =>
    refine hs.of_eq (fun q => ?_) (fun c => ?_) rfl rfl rfl
    · show (portGet (portSet s.ports (branchPort b) _) q).line = _
      rw [portGet_portSet]
      split
      · rename_i hq
        rw [hq]
      · rfl
    · rw [State.configure, State.branch_setBranch]
      split
      · rename_i hc
        rw [hc]
      · rfl
  | enables p => exact hs.enable p
  | disables b => exact hs.disable b
  | flushes => exact hs.flushed
  | _ => exact hs.of_eq (fun _ => rfl) (fun _ => rfl) rfl rfl rfl

theorem operates {h : Header} (hs : s.Holding []) (ho : s.Operates h t) : t.Holding [] := by
  cases ho with
  | answers code status data hm => exact (hs.manages hm).respond h code status data
  | setsBridge policy window retries ageing dest =>
    have hconf : (s.configureBridge policy window retries ageing dest).Holding [] :=
      hs.of_eq (fun _ => rfl) (fun _ => rfl) rfl rfl rfl
    exact (hconf.respond ..).offerAlert
  | _ => exact hs.of_eq (fun _ => rfl) (fun _ => rfl) rfl rfl rfl

theorem record_of_freeRecord (h : s.freeRecord = some x) : s.record x = none := by
  simpa using List.find?_some h

theorem dispatches {p : PortId} (hu : u.Holding [b]) (hd : u.Dispatches p b t) : t.Holding [] := by
  cases hd with
  | malformed => exact (hu.countPort ..).release
  | released => exact hu.release
  | refusesBusy h _ => exact hu.release.refuseBusy h
  | operates h _ _ ho => exact hu.release.operates ho
  | places f targets => exact hu.placeNotices f targets
  | refuses r => exact hu.refuseAtOnce r
  | counts c => exact hu.release.count c
  | opensDirect f x q window retries viaLearned _ hx _ _ => exact hu.openDirectAt (record_of_freeRecord hx) ..
  | opensProbe f x _ hx _ => exact hu.openProbeAt (record_of_freeRecord hx) ..
  | answersDirect f q sl e d _ he _ _ _ => exact hu.matched he q d f
  | answersFirst q sl e w _ he _ _ _ _ => exact hu.firstAnswer he q w
  | answersAgain q sl e w _ he _ hm _ hph => exact hu.furtherAnswer he q hm hph
  | acceptsLate f q x e d he _ _ _ => exact hu.lateAccepted he q d f
  | unsolicited q => exact hu.unsolicitedFrame q
  | lateUnsolicited q => exact (hu.countPort ..).unsolicitedFrame q
  | lateDiscarded q => exact (hu.countPort ..).release

/-! ### Receivers -/

theorem claim (hs : s.Holding hand) (p : PortId) : (s.claim p).2.Holding ((s.claim p).1.toList ++ hand) := by
  unfold State.claim
  split
  · exact hs
  · split
    · exact hs
    · rename_i b rest hf
      have hgranted : State.Holding { s with pool := s.pool.grant b rest } (b :: hand) := by
        refine ⟨hs.hunt, hs.records, hs.requests, (hs.counts.grant hf).congr fun a => ?_⟩
        rw [List.count_cons, holds_some, State.holders_congr (s := s) (t := { s with pool := s.pool.grant b rest })
          (fun _ => rfl) (fun _ => rfl) rfl rfl]
        simp only [beq_iff_eq, eq_comm (a := b), Nat.add_assoc]
      split
      · exact hgranted.raise ..
      · exact hgranted

/-- The receiver of a port that does not send takes a buffer from the hand, or puts its buffer into it. -/
theorem setRx (hs : s.Holding hand) {kept : List BufId} {p : PortId} {l m : Live} (h : s.live? p = some l)
    (hquiet : l.tx.sending? = none) (hm : m.tx = l.tx) {rx : Rx}
    (hc : ∀ a, rx.buf?.toList.count a + kept.count a = l.rx.buf?.toList.count a + hand.count a) :
    (s.setRx p m rx).Holding kept := by
  refine hs.setLive (m := { m with rx := rx }) h (fun hsend => ?_) fun a => ?_
  · rw [show Live.tx { m with rx := rx } = l.tx from hm, hquiet] at hsend
    cases hsend
  · have := hc a
    rw [count_toList, count_toList] at this
    rw [show Live.tx { m with rx := rx } = l.tx from hm]
    show holds a rx.buf? + _ + _ = _
    omega

theorem startFrame (hs : s.Holding hand) {p : PortId} {l m : Live} (h : s.live? p = some l)
    (hquiet : l.tx.sending? = none) (hm : m.tx = l.tx) (hunt : l.rx = .hunt) (o : Octet) :
    (s.startFrame p m o).Holding hand := by
  have hlive : (s.claim p).2.live? p = some l := (State.live?_claim ..).trans h
  have hclaim := hs.claim p
  rcases State.startFrame_cases s p m o with ⟨b, hb, h⟩ | ⟨hb, h⟩ <;> rw [h] <;> rw [hb] at hclaim
  · have hset : ((s.claim p).2.setRx p m (.collect b)).Holding hand := hclaim.setRx hlive hquiet hm fun a => by
      rw [hunt, ← List.count_append]
      exact (Nat.zero_add _).symm
    exact ⟨hset.hunt, hset.records, hset.requests, hset.counts.store b o⟩
  · refine countPort (hclaim.setRx hlive hquiet hm fun a => ?_) ..
    rw [hunt]
    rfl

theorem endEarly (hs : s.Holding hand) {p : PortId} {l m : Live} (h : s.live? p = some l)
    (hquiet : l.tx.sending? = none) (hm : m.tx = l.tx) (hrx : m.rx = l.rx) : (s.endEarly p m).Holding hand := by
  unfold State.endEarly
  split
  · exact hs
  · rename_i b hb
    refine release (countPort (hs.setRx h hquiet hm fun a => ?_) ..)
    rw [← hrx, hb]
    exact (Nat.zero_add _).trans (List.count_append (l₁ := [b]))
  · rename_i n len hd
    refine hs.setRx h hquiet hm fun a => ?_
    rw [← hrx, hd]
    rfl

theorem marked (hs : s.Holding hand) {p : PortId} {l m : Live} (h : s.live? p = some l)
    (hquiet : l.tx.sending? = none) (hm : m.tx = l.tx) (hrx : m.rx = l.rx) (o : Octet) : (s.marked p o m).Holding hand := by
  have hset : (s.setLive p m).Holding hand := hs.setRx (rx := m.rx) h hquiet hm fun a => by rw [hrx]
  have hend := hset.endEarly (m := m) (State.live?_setLive ..) (by rw [hm]; exact hquiet) rfl rfl
  exact hend.startFrame (State.live?_endEarly (State.live?_setLive ..)) (by rw [← hquiet, ← hm]) rfl rfl o

theorem store (hs : s.Holding hand) (b : BufId) (o : Octet) : State.Holding { s with pool := s.pool.store b o } hand :=
  ⟨hs.hunt, hs.records, hs.requests, hs.counts.store b o⟩

theorem receives {p : PortId} {l m : Live} (hu : u.Holding []) (hr : u.Receives p m t)
    (h : u.live? p = some l) (hquiet : l.tx.sending? = none) (hm : m.tx = l.tx) (hrx : m.rx = l.rx) :
    t.Holding [] := by
  have hhunt : ∀ (b : BufId) (o : Octet), m.rx = .collect b →
      (State.setRx { u with pool := u.pool.store b o } p m .hunt).Holding [b] := fun b o hb =>
    (hu.store b o).setRx h hquiet hm fun a => by
      rw [← hrx, hb]
      exact Nat.zero_add _
  cases hr with
  | hunts _ => exact hu.setRx (rx := m.rx) h hquiet hm fun a => by rw [hrx]
  | stores b o _ => exact (hu.store b o).setRx (rx := m.rx) h hquiet hm fun a => by rw [hrx]
  | fails b o c hb => exact ((hhunt b o hb).countPort ..).release
  | hands b o hb hd => exact ((hhunt b o hb).countPort ..).dispatches hd
  | follows n k len next hd =>
    refine hu.setRx h hquiet hm fun a => ?_
    rw [← hrx, hd]
    rfl
  | ends n len hd =>
    refine hu.setRx h hquiet hm fun a => ?_
    rw [← hrx, hd]
    rfl

/-! ### Transmitters -/

/-- The transmitter takes an item with its reference, or goes on with the item it has. -/
theorem setTx (hs : s.Holding hand) {kept : List BufId} {p : PortId} {l m : Live} (h : s.live? p = some l)
    (hrx : ∀ a, holds a m.rx.buf? = holds a l.rx.buf?) (hunt : m.tx.sending?.isSome = true → m.rx = .hunt)
    (hc : ∀ a, m.tx.buf?.toList.count a + kept.count a = l.tx.buf?.toList.count a + hand.count a) :
    (s.setLive p m).Holding kept := by
  refine hs.setLive h hunt fun a => ?_
  have := hc a
  rw [count_toList, count_toList] at this
  rw [hrx a]
  omega

theorem startSend (hs : s.Holding hand) {kept : List BufId} {p : PortId} {l : Live} {c : Current}
    (h : s.live? p = some l) (hquiet : l.tx.sending? = none)
    (hc : ∀ a, c.item.buf?.toList.count a + kept.count a = l.tx.buf?.toList.count a + hand.count a) :
    (s.startSend p l c).Holding kept := by
  unfold State.startSend
  exact (hs.endEarly h hquiet rfl rfl).setTx (State.live?_endEarly h) (fun _ => rfl) (fun _ => rfl) hc

theorem take (hs : s.Holding hand) {kept : List BufId} {p : PortId} {l : Live} {i : TxItem}
    (h : s.live? p = some l) (hidle : l.tx = .idle)
    (hc : ∀ a, i.buf?.toList.count a + kept.count a = hand.count a) : (s.take p l i).Holding kept := by
  unfold State.take
  split
  · refine hs.startSend h (by rw [hidle]; rfl) fun a => ?_
    rw [hidle]
    exact (hc a).trans (Nat.zero_add _).symm
  · refine hs.setTx h (fun _ => rfl) (fun hsend => ?_) fun a => ?_
    · cases hsend
    · rw [hidle]
      exact (hc a).trans (Nat.zero_add _).symm

theorem takeItem (hs : s.Holding []) (p : PortId) : (s.takeItem p).Holding [] := by
  rcases State.takeItem_cases s p with h | ⟨l, -, hl, hidle, h⟩ | ⟨b, l, x, -, hl, hidle, -, -, h⟩ |
    ⟨b, l, -, hl, hidle, -, -, h⟩ <;> rw [h]
  · exact hs
  · unfold State.takeTrunk
    split
    · exact hs
    · rename_i i rest hq
      have hhand : State.Holding { s with trunkQueue := rest } i.buf?.toList := hs.setTrunk fun a => by
        rw [hq, sumOver_cons, count_toList]
        exact Nat.add_comm ..
      exact hhand.take (i := .trunk i) hl hidle fun a => rfl
  · unfold State.takeHolder
    split
    · exact hs
    · rename_i e he
      split
      · rename_i d buf hm hbuf
        have hreq := hs.requests x e he
        rw [Exchange.RequestSound, hm, hbuf] at hreq
        have hset := ((hs.setRecordOf (f := { e with mode := .direct { d with phase := .queued } }) he rfl
          ⟨fun hn => absurd (hbuf.symm.trans hn) nofun, nofun⟩).setHolder b none).setSlot b
          (some { exch := x, kind := .request, deadline := none })
        have hrec := State.record_setRecord s x x (some { e with mode := .direct { d with phase := .queued } })
          (State.lt_length_of_record he)
        rw [if_pos rfl] at hrec
        have hone := hset.one_le_holders hrec hbuf
        exact (hset.retain (Nat.le_add_right_of_le hone)).take
          (i := .branch { kind := .request x, urgent := e.urgent, buf := buf }) hl hidle fun a => rfl
      · exact hs
      · exact hs
  · unfold State.takeBranch
    split
    · exact hs
    · rename_i i rest hq
      have hhand : (s.setQueue b rest).Holding ([i.buf] ++ []) := hs.setQueue b fun a => by
        rw [hq, List.map_cons, List.count_cons (b := i.buf) (l := rest.map (·.buf)), List.count_singleton]
      exact (hhand.setSlot b i.claims).take (i := .branch i) hl hidle fun a => rfl

theorem phaseIdle (hs : s.Holding hand) : State.Holding { s with mgmt := { s.mgmt with phase := .idle } } hand :=
  hs.of_eq (fun _ => rfl) (fun _ => rfl) rfl rfl rfl

theorem ownerSent (hs : s.Holding []) (p : PortId) (straps : Straps) {i : TxItem}
    (hidle : ∀ j, i = .trunk j → s.ReturnsIdle [j]) : (s.ownerSent p straps i).Holding [] := by
  unfold State.ownerSent
  split
  · rename_i i
    have hreturn : ∀ x, i.isReturnOf x = true → (s.returnDone x).Holding [] := fun x hx =>
      hs.returnDone (hidle i rfl i (List.mem_singleton_self i) x hx)
    cases i with
    | response => exact (hs.phaseIdle).settleRestart _
    | alert a => exact hs.alertSent a
    | frameReturn x b => exact hreturn x (by simp [TrunkItem.isReturnOf])
    | refusalReturn x r => exact hreturn x (by simp [TrunkItem.isReturnOf])
    | _ => exact hs
  · split
    · exact hs.branchSent ..
    · exact hs

theorem ownerAbandoned (hs : s.Holding []) (p : PortId) (straps : Straps) {i : TxItem}
    (hidle : ∀ j, i = .trunk j → s.ReturnsIdle [j]) : (s.ownerAbandoned p straps i).Holding [] := by
  unfold State.ownerAbandoned
  split
  · rename_i i
    have hreturn : ∀ x, i.isReturnOf x = true → (s.returnLost x).Holding [] := fun x hx =>
      hs.returnLost (hidle i rfl i (List.mem_singleton_self i) x hx)
    cases i with
    | response => exact (hs.phaseIdle).settleRestart _
    | alert a => exact hs.alertLost
    | frameReturn x b => exact hreturn x (by simp [TrunkItem.isReturnOf])
    | refusalReturn x r => exact hreturn x (by simp [TrunkItem.isReturnOf])
    | _ => exact hs
  · split
    · exact hs.branchAbandoned ..
    · exact hs

/-- A sender becomes IDLE: its item's reference is in the hand (R136, R137). -/
theorem setIdle (hs : s.Holding []) {p : PortId} {l m : Live} {c : Current} {since : Nat} {frame : List Octet}
    (h : s.live? p = some l) (htx : l.tx = .send c since frame) (hrx : m.rx = .hunt) (hm : m.tx = .idle) :
    (s.setLive p m).Holding (c.item.buf?.toList ++ []) := by
  have hhunt : l.rx = .hunt := hs.hunt p l h (by rw [htx]; rfl)
  refine hs.setTx h (fun a => by rw [hrx, hhunt]) (fun hsend => ?_) fun a => ?_
  · rw [hm] at hsend
    cases hsend
  · rw [hm, htx, List.append_nil]
    exact Nat.zero_add _

theorem contended (hs : s.Holding []) {p : PortId} {l : Live} {c : Current} {since : Nat} {frame : List Octet}
    (h : s.live? p = some l) (htx : l.tx = .send c since frame) (hidle : ∀ j, c.item = .trunk j → s.ReturnsIdle [j])
    (back : ReadBack) (first : Bool) (straps : Straps) : (s.contended p l c back first straps).Holding [] := by
  have hhunt : l.rx = .hunt := hs.hunt p l h (by rw [htx]; rfl)
  unfold State.contended
  dsimp only
  split
  · refine countPort (hs.setTx h (fun a => by rw [hhunt]) (fun hsend => ?_) fun a => ?_) ..
    · cases hsend
    · rw [htx]
      rfl
  · refine ownerAbandoned ?_ p straps fun j hj => (hidle j hj).keeps (.of_records (State.releaseOpt_records ..))
    exact releaseOpt (((hs.setIdle h htx rfl rfl).countPort ..).countPort ..)

theorem completed (hs : s.Holding []) {p : PortId} {l : Live} {c : Current} {since : Nat} {frame : List Octet}
    (h : s.live? p = some l) (htx : l.tx = .send c since frame) (hidle : ∀ j, c.item = .trunk j → s.ReturnsIdle [j])
    (high : Nat) (straps : Straps) : (s.completed p l c high straps).Holding [] := by
  refine ownerSent ?_ p straps fun j hj => (hidle j hj).keeps (.of_records (State.releaseOpt_records ..))
  exact releaseOpt ((hs.setIdle h htx rfl rfl).countPort ..)

/-! ### The effects -/

/-- Every effect keeps the pool in agreement, where the returns on the trunk are of exchanges that have released their
requests, a branch sends no trunk item, and the deadline that expires is of a request that was sent. -/
theorem does (hu : u.Holding []) (hd : u.Does t)
    (hidle : u.ReturnsIdle u.trunkItems) (hbranch : u.BranchesSendBranch)
    (hexpires : ∀ b sl start e d, (u.branch b).slot = some sl → sl.deadline = some start → u.record sl.exch = some e →
      e.mode = .direct d → d.phase ≠ .returning) : t.Holding [] := by
  have hitem : ∀ p l c, u.live? p = some l → l.tx.current? = some c → ∀ j, c.item = .trunk j → u.ReturnsIdle [j] := by
    intro p l c hl hc j hj
    rcases portId_cases p with rfl | ⟨b, rfl⟩
    · intro i hi
      refine hidle i ?_
      rw [State.trunkItems_of_current hl, Line.trunkItem?_of_trunk hc hj, List.mem_singleton.mp hi]
      exact List.mem_cons_self ..
    · obtain ⟨i, hi⟩ := hbranch.item hl hc
      rw [hi] at hj
      cases hj
  cases hd with
  | nothing => exact hu
  | refusesBusy h _ => exact hu.refuseBusy h
  | operates h q _ _ => exact hu.operates (State.operates_operate q)
  | copies h job since _ =>
    have hcopied : State.Holding { u with table := { u.table with shadow := u.table.active } } [] :=
      hu.of_eq (fun _ => rfl) (fun _ => rfl) rfl rfl rfl
    cases job
    · exact hcopied.respond ..
    · exact hcopied.respond ..
  | marked p l m o hl hrx hm => exact hu.marked hl.1 hl.2 hm hrx o
  | unmarked p l m o hl hrx hm => exact hu.receives (State.receives_unmarked ..) hl.1 hl.2 hm hrx
  | endsEarly p l m hl hrx hm =>
    have hset : (u.setLive p m).Holding [] := hu.setRx (rx := m.rx) hl.1 hl.2 hm fun a => by rw [hrx]
    exact hset.endEarly (State.live?_setLive ..) (by rw [hm]; exact hl.2) rfl rfl
  | stuck p l high straps _ => exact hu.stuck hidle ..
  | recovers p since hl =>
    have hfresh : (u.setLive p (.fresh u.now)).Holding [] :=
      hu.setLineDown (fun a => by rw [hl]; rfl) (holders_fresh _) (hunt_fresh _)
    exact State.bothOrders_induction (I := fun t => t.Holding []) (fun _ ht => ht.offerAlert)
      (fun _ ht => ht.raise ..) (fun h => h.choices) hfresh
  | restartsRecovery p since again hl =>
    exact hu.setLineDown (fun a => by rw [hl]; rfl) (fun _ => rfl) (fun _ h => by cases h)
  | windowExpires b sl start e d hs hd he hm => exact hu.windowExpired he b hm (hexpires b sl start e d hs hd he hm)
  | probeExpires b sl start e q _ _ he hm => exact loseBranch (s := u.setSlot b none) (hu.setSlot b none) he hm b
  | ages =>
    rw [State.age, State.countTimes_frame]
    exact hu.of_eq (fun _ => rfl) (fun _ => rfl) rfl rfl rfl
  | takes p => exact hu.takeItem p
  | startsSend p l c hl hc hquiet =>
    refine hu.startSend hl hquiet fun a => ?_
    rw [Tx.buf?, hc]
    rfl
  | contends p l c since frame back first straps hl htx =>
    exact hu.contended hl htx (hitem p l c hl (by rw [htx]; rfl)) ..
  | completes p l c since frame high straps hl htx =>
    exact hu.completed hl htx (hitem p l c hl (by rw [htx]; rfl)) ..
  | resets straps => exact .resetAt straps

end State.Holding

end Sys2Proof.Machine
end

section
/-! PROOFS. Where an exchange stands on a branch, and what its record says of it (R23, R24, R25, R54). -/

namespace Sys2Proof.Machine

/-! ### Seats -/

/-- What a branch holds of one exchange: the response slot with its kind and whether its deadline runs, the repeat
holder, and the waiting request and probe items. -/
@[ext] structure Seat where
  held     : Option (SlotKind × Bool)
  repeats  : Bool
  requests : Nat
  probes   : Nat

/-- The branch holds nothing of the exchange. -/
def Seat.away : Seat := { held := none, repeats := false, requests := 0, probes := 0 }

/-- A request item waits in the queue. -/
def Seat.waitsRequest : Seat := { Seat.away with requests := 1 }

/-- A probe item waits in the queue. -/
def Seat.waitsProbe : Seat := { Seat.away with probes := 1 }

/-- The slot is held for an item of kind `k`; `running` says whether the deadline runs. -/
def Seat.holds (k : SlotKind) (running : Bool) : Seat := { Seat.away with held := some (k, running) }

/-- The exchange stands in the repeat holder. -/
def Seat.repeating : Seat := { Seat.away with repeats := true }

/-- What a held slot says of an exchange. -/
def Slot.heldFor (x : SlotNo) (sl : Slot) : Option (SlotKind × Bool) :=
  if sl.exch = x then some (sl.kind, sl.deadline.isSome) else none

/-- How many items of a kind wait in a queue. -/
def kindCount (k : BranchItemKind) (q : List BranchItem) : Nat := (q.filter (fun i => decide (i.kind = k))).length

/-- What a branch holds of exchange `x`. -/
def Branch.seat (B : Branch) (x : SlotNo) : Seat where
  held := B.slot.bind (Slot.heldFor x)
  repeats := decide (B.holder = some x)
  requests := kindCount (.request x) B.queue
  probes := kindCount (.probe x) B.queue

/-- What branch `b` holds of exchange `x`. -/
def State.seat (s : State) (x : SlotNo) (b : BranchId) : Seat := (s.branch b).seat x

/-! ### What a record says of the seats and the returns -/

/-- The rows of R23 and R54: record `r`, the seats of its exchange on the branches, and the number `n` of its returns
agree. -/
def RecordAgrees (r : Option Exchange) (seat : BranchId → Seat) (n : Nat) : Prop :=
  match r with
  | none => (∀ b, seat b = .away) ∧ n = 0
  | some e => match e.mode with
    | .direct d => (∀ b, b ≠ d.port → seat b = .away) ∧
      (match d.phase with
        | .queued => e.request.isSome = true ∧ n = 0 ∧
            (seat d.port = .waitsRequest ∨ seat d.port = .holds .request false)
        | .awaiting => e.request.isSome = true ∧ n = 0 ∧ seat d.port = .holds .request true
        | .repeating => e.request.isSome = true ∧ n = 0 ∧ seat d.port = .repeating
        | .returning => e.request = none ∧ n = 1 ∧ seat d.port = .away)
    | .probe q =>
      (match q.phase with
        | .probing => e.request.isSome = true ∧ n = 0 ∧ q.pending = false ∧ setEmpty q.set = false ∧
            ∀ b, if branchGet q.set b = true then seat b = .waitsProbe ∨ ∃ r, seat b = .holds .probe r
              else seat b = .away
        | .settling => e.request = none ∧ n = (if q.pending then 1 else 0) ∧
            (setEmpty q.set = false ∨ q.pending = true) ∧
            ∀ b, if branchGet q.set b = true then ∃ r, seat b = .holds .probe r else seat b = .away)

section Seats

variable {s : State} {x : SlotNo} {b : BranchId}

theorem State.slotHeldBy_iff (k : SlotKind) :
    s.slotHeldBy b x k = true ↔ ∃ r, (s.seat x b).held = some (k, r) := by
  unfold State.slotHeldBy State.seat Branch.seat
  cases (s.branch b).slot with
  | none => simp
  | some sl =>
    simp only [Option.bind_some, Slot.heldFor, Bool.and_eq_true, decide_eq_true_eq]
    split <;> simp_all

theorem State.waiting_request : s.waiting b (.request x) = (s.seat x b).requests := rfl

theorem State.waiting_probe : s.waiting b (.probe x) = (s.seat x b).probes := rfl

theorem State.holder_eq_iff : (s.branch b).holder = some x ↔ (s.seat x b).repeats = true := by
  simp [State.seat, Branch.seat]

/-- A slot that is held for an exchange runs as far as the seat says. -/
theorem State.running_eq {k : SlotKind} {r : Bool} (h : (s.seat x b).held = some (k, r)) : s.running b = r := by
  unfold State.seat Branch.seat at h
  unfold State.running
  cases hs : (s.branch b).slot with
  | none => rw [hs] at h; cases h
  | some sl =>
    rw [hs, Option.bind_some, Slot.heldFor] at h
    split at h
    · cases h
      rfl
    · cases h

theorem Seat.held_eq_none_iff {S : Seat} :
    S.held = none ↔ (¬ ∃ r, S.held = some (.request, r)) ∧ ¬ ∃ r, S.held = some (.probe, r) := by
  cases h : S.held with
  | none => simp
  | some p =>
    obtain ⟨k, r⟩ := p
    cases k <;> simp

theorem State.absent_iff_request : s.Absent b x .request ↔
    (¬ ∃ r, (s.seat x b).held = some (.request, r)) ∧ (s.seat x b).requests = 0 := by
  rw [State.Absent, ← State.slotHeldBy_iff, Bool.not_eq_true]
  rfl

theorem State.absent_iff_probe : s.Absent b x .probe ↔
    (¬ ∃ r, (s.seat x b).held = some (.probe, r)) ∧ (s.seat x b).probes = 0 := by
  rw [State.Absent, ← State.slotHeldBy_iff, Bool.not_eq_true]
  rfl

theorem Seat.eq_iff {S : Seat} {h : Option (SlotKind × Bool)} {p : Bool} {n m : Nat} :
    S = ⟨h, p, n, m⟩ ↔ S.held = h ∧ S.repeats = p ∧ S.requests = n ∧ S.probes = m := by
  constructor
  · rintro rfl
    exact ⟨rfl, rfl, rfl, rfl⟩
  · rintro ⟨rfl, rfl, rfl, rfl⟩
    rfl

theorem State.seat_away_iff : s.seat x b = .away ↔
    s.Absent b x .request ∧ s.Absent b x .probe ∧ (s.branch b).holder ≠ some x := by
  rw [State.absent_iff_request, State.absent_iff_probe, Ne, State.holder_eq_iff, Seat.away, Seat.eq_iff,
    Seat.held_eq_none_iff, Bool.not_eq_true]
  tauto

theorem State.seat_waitsRequest_iff : s.seat x b = .waitsRequest ↔
    s.Absent b x .probe ∧ (s.branch b).holder ≠ some x ∧ s.waiting b (.request x) = 1 ∧
      s.slotHeldBy b x .request = false := by
  rw [State.absent_iff_probe, Ne, State.holder_eq_iff, State.waiting_request, ← Bool.not_eq_true (s.slotHeldBy ..),
    State.slotHeldBy_iff, Seat.waitsRequest, Seat.away, Seat.eq_iff, Seat.held_eq_none_iff, Bool.not_eq_true]
  tauto

theorem State.seat_waitsProbe_iff : s.seat x b = .waitsProbe ↔
    s.Absent b x .request ∧ (s.branch b).holder ≠ some x ∧ s.waiting b (.probe x) = 1 ∧
      s.slotHeldBy b x .probe = false := by
  rw [State.absent_iff_request, Ne, State.holder_eq_iff, State.waiting_probe, ← Bool.not_eq_true (s.slotHeldBy ..),
    State.slotHeldBy_iff, Seat.waitsProbe, Seat.away, Seat.eq_iff, Seat.held_eq_none_iff, Bool.not_eq_true]
  tauto

theorem State.seat_holds_request_iff (r : Bool) : s.seat x b = .holds .request r ↔
    s.Absent b x .probe ∧ (s.branch b).holder ≠ some x ∧ s.waiting b (.request x) = 0 ∧
      s.slotHeldBy b x .request = true ∧ s.running b = r := by
  rw [State.absent_iff_probe, Ne, State.holder_eq_iff, State.waiting_request, State.slotHeldBy_iff, Seat.holds,
    Seat.away, Seat.eq_iff, Bool.not_eq_true]
  constructor
  · rintro ⟨hheld, hrep, hreq, hprobe⟩
    exact ⟨⟨by rw [hheld]; simp, hprobe⟩, hrep, hreq, ⟨r, hheld⟩, State.running_eq hheld⟩
  · rintro ⟨⟨-, hprobe⟩, hrep, hreq, ⟨r', hheld⟩, hrun⟩
    rw [State.running_eq hheld] at hrun
    exact ⟨by rw [hheld, hrun], hrep, hreq, hprobe⟩

theorem State.seat_holds_probe_iff : (∃ r, s.seat x b = .holds .probe r) ↔
    s.Absent b x .request ∧ (s.branch b).holder ≠ some x ∧ s.waiting b (.probe x) = 0 ∧
      s.slotHeldBy b x .probe = true := by
  simp only [Seat.holds, Seat.away, Seat.eq_iff]
  rw [State.absent_iff_request, Ne, State.holder_eq_iff, State.waiting_probe, State.slotHeldBy_iff, Bool.not_eq_true]
  constructor
  · rintro ⟨r, hheld, hrep, hreq, hprobe⟩
    exact ⟨⟨by rw [hheld]; simp, hreq⟩, hrep, hprobe, ⟨r, hheld⟩⟩
  · rintro ⟨⟨-, hreq⟩, hrep, hprobe, ⟨r, hheld⟩⟩
    exact ⟨r, hheld, hrep, hreq, hprobe⟩

theorem State.seat_repeating_iff : s.seat x b = .repeating ↔
    s.Absent b x .probe ∧ (s.branch b).holder = some x ∧ s.Absent b x .request := by
  rw [State.absent_iff_request, State.absent_iff_probe, State.holder_eq_iff, Seat.repeating, Seat.away, Seat.eq_iff,
    Seat.held_eq_none_iff]
  tauto

theorem forall_port_iff {P : BranchId → Prop} (p : BranchId) : (∀ b, P b) ↔ (∀ b, b ≠ p → P b) ∧ P p :=
  ⟨fun h => ⟨fun b _ => h b, h p⟩, fun h b => if hb : b = p then hb ▸ h.2 else h.1 b hb⟩

theorem State.directSound_iff (s : State) (x : SlotNo) (e : Exchange) (d : Direct) (hm : e.mode = .direct d) :
    s.DirectSound x e d ↔ RecordAgrees (some e) (s.seat x) (s.standing (TrunkItem.isReturnOf x)) := by
  simp only [RecordAgrees, hm, State.DirectSound, State.seat_away_iff, State.seat_waitsRequest_iff,
    State.seat_holds_request_iff, State.seat_repeating_iff]
  rw [forall_port_iff (P := fun b => s.Absent b x .probe) d.port]
  have hother : ((∀ b, b ≠ d.port → s.Absent b x .request ∧ s.Absent b x .probe ∧ (s.branch b).holder ≠ some x) ↔
      (∀ b, b ≠ d.port → s.Absent b x .probe) ∧
        ∀ b, b ≠ d.port → s.Absent b x .request ∧ (s.branch b).holder ≠ some x) :=
    ⟨fun h => ⟨fun b hb => (h b hb).2.1, fun b hb => ⟨(h b hb).1, (h b hb).2.2⟩⟩,
      fun h b hb => ⟨(h.2 b hb).1, h.1 b hb, (h.2 b hb).2⟩⟩
  rw [hother]
  cases d.phase <;> simp only <;> tauto

/-- What holds of a branch beside each row of R54. -/
theorem forall_and_iff {P Q R : BranchId → Prop} {A : Prop} (h : ∀ b, R b ↔ P b ∧ Q b) :
    (∀ b, P b) ∧ A ∧ (∀ b, Q b) ↔ A ∧ ∀ b, R b := by
  constructor
  · rintro ⟨hp, ha, hq⟩
    exact ⟨ha, fun b => (h b).mpr ⟨hp b, hq b⟩⟩
  · rintro ⟨ha, hr⟩
    exact ⟨fun b => ((h b).mp (hr b)).1, ha, fun b => ((h b).mp (hr b)).2⟩

theorem State.probingSeat_iff (s : State) (x : SlotNo) (b : BranchId) (member : Bool) :
    (if member = true then s.seat x b = .waitsProbe ∨ ∃ r, s.seat x b = .holds .probe r else s.seat x b = .away) ↔
      (s.Absent b x .request ∧ (s.branch b).holder ≠ some x) ∧
        (if member = true then
          (s.waiting b (.probe x) = 1 ∧ s.slotHeldBy b x .probe = false) ∨
          (s.waiting b (.probe x) = 0 ∧ s.slotHeldBy b x .probe = true)
        else s.Absent b x .probe) := by
  rw [State.seat_waitsProbe_iff, State.seat_holds_probe_iff, State.seat_away_iff]
  split_ifs <;> tauto

theorem State.settlingSeat_iff (s : State) (x : SlotNo) (b : BranchId) (member : Bool) :
    (if member = true then ∃ r, s.seat x b = .holds .probe r else s.seat x b = .away) ↔
      (s.Absent b x .request ∧ (s.branch b).holder ≠ some x) ∧
        (s.waiting b (.probe x) = 0 ∧ s.slotHeldBy b x .probe = member) := by
  rw [State.seat_holds_probe_iff, State.seat_away_iff]
  have habsent : s.Absent b x .probe ↔ s.slotHeldBy b x .probe = false ∧ s.waiting b (.probe x) = 0 := Iff.rfl
  cases member <;> simp only [Bool.false_eq_true, if_true, if_false] <;> tauto

theorem State.probeSound_iff (s : State) (x : SlotNo) (e : Exchange) (q : Probe) (hm : e.mode = .probe q) :
    s.ProbeSound x e q ↔ RecordAgrees (some e) (s.seat x) (s.standing (TrunkItem.isReturnOf x)) := by
  simp only [RecordAgrees, hm, State.ProbeSound]
  cases q.phase with
  | probing =>
    have h := forall_and_iff (A := e.request.isSome = true ∧ s.standing (TrunkItem.isReturnOf x) = 0 ∧
      q.pending = false ∧ setEmpty q.set = false) fun b => State.probingSeat_iff s x b (branchGet q.set b)
    simpa only [and_assoc] using h
  | settling =>
    have h := forall_and_iff (A := e.request = none ∧
      s.standing (TrunkItem.isReturnOf x) = (if q.pending then 1 else 0) ∧ (setEmpty q.set = false ∨ q.pending = true))
      fun b => State.settlingSeat_iff s x b (branchGet q.set b)
    simpa only [and_assoc] using h

/-- The returns of exchange `x` that stand on the trunk. -/
def State.returns (s : State) (x : SlotNo) : Nat := s.standing (TrunkItem.isReturnOf x)

theorem State.recordSound_iff (s : State) (x : SlotNo) :
    s.RecordSound x ↔ RecordAgrees (s.record x) (s.seat x) (s.returns x) := by
  unfold State.RecordSound
  cases hr : s.record x with
  | none =>
    simp only [RecordAgrees, State.seat_away_iff, State.returns]
    constructor
    · rintro ⟨habsent, hholder, hn⟩
      exact ⟨fun b => ⟨habsent b .request, habsent b .probe, hholder b⟩, hn⟩
    · rintro ⟨hseat, hn⟩
      refine ⟨fun b k => ?_, fun b => (hseat b).2.2, hn⟩
      cases k
      · exact (hseat b).1
      · exact (hseat b).2.1
  | some e =>
    cases hm : e.mode with
    | direct d =>
      simp only [hm]
      exact s.directSound_iff x e d hm
    | probe q =>
      simp only [hm]
      exact s.probeSound_iff x e q hm

end Seats

/-! ### What a branch's slot and its line say of each other -/

/-- What a line does: whether it is ACTIVE, and the item its transmitter holds. -/
def Line.doing (l : Line) : Option (Option TxItem) := l.live?.map (fun v => v.tx.current?.map (·.item))

/-- The row of R24, with R33, R39 and R45: the slot, the holder and the last-timed-out record of a branch agree with
what its line does. -/
structure SlotAgrees (B : Branch) (w : Option (Option TxItem)) : Prop where
  stopped : ∀ sl, B.slot = some sl → sl.deadline = none → ∃ i, w = some (some (.branch i)) ∧ i.kind = sl.itemKind
  running : ∀ sl, B.slot = some sl → sl.deadline.isSome = true → w = some none
  holder : B.slot.isSome = true → B.holder = none
  down : w = none → B.slot = none ∧ B.holder = none ∧ B.lastTimedOut = none
  item : ∀ i, w ≠ some (some (.trunk i))

theorem Line.sending_eq_some_iff {l : Line} {k : BranchItemKind} :
    l.sending = some k ↔ ∃ i, l.doing = some (some (.branch i)) ∧ i.kind = k := by
  unfold Line.sending Line.doing
  cases l.live? with
  | none => simp
  | some v =>
    simp only [Option.bind_some, Option.map_some, Option.some.injEq]
    cases v.tx.current? with
    | none => simp
    | some c =>
      obtain ⟨item, n⟩ := c
      cases item <;> simp

theorem Line.sendsTrunk_eq_zero_iff {l : Line} :
    l.sendsTrunk (fun _ => true) = 0 ↔ ∀ i, l.doing ≠ some (some (.trunk i)) := by
  cases l with
  | disabled => simp [Line.sendsTrunk, Line.doing, Line.live?]
  | fault n => simp [Line.sendsTrunk, Line.doing, Line.live?]
  | active v =>
    simp only [Line.sendsTrunk, Tx.sendsTrunk, Line.doing, Line.live?_active, Option.map_some, Ne, Option.some.injEq]
    cases v.tx.current? with
    | none => simp
    | some c =>
      obtain ⟨item, n⟩ := c
      cases item <;> simp

/-- What the line of branch `b` does. -/
def State.doing (s : State) (b : BranchId) : Option (Option TxItem) := (s.port (branchPort b)).line.doing

theorem State.doing_eq_none_iff {s : State} {b : BranchId} : s.doing b = none ↔ s.isActive (branchPort b) = false := by
  unfold State.doing Line.doing State.isActive State.live?
  cases (s.port (branchPort b)).line.live? <;> simp

theorem State.doing_of_live {s : State} {b : BranchId} {l : Live} (h : s.live? (branchPort b) = some l) :
    s.doing b = some (l.tx.current?.map (·.item)) := by
  rw [State.doing, Line.doing, show (s.port (branchPort b)).line.live? = some l from h]
  rfl

theorem State.slotSound_iff (s : State) (b : BranchId) :
    s.SlotSound b ∧ (s.port (branchPort b)).line.sendsTrunk (fun _ => true) = 0 ↔ SlotAgrees (s.branch b) (s.doing b) := by
  have hidle : (s.port (branchPort b)).line.live?.bind (fun v => v.tx.current?) = none ↔
      s.doing b = none ∨ s.doing b = some none := by
    unfold State.doing Line.doing
    cases (s.port (branchPort b)).line.live? <;> simp
  rw [Line.sendsTrunk_eq_zero_iff, State.SlotSound, ← State.doing_eq_none_iff, hidle]
  constructor
  · rintro ⟨⟨hslot, hholder, hdown⟩, hitem⟩
    refine ⟨fun sl hs hd => ?_, fun sl hs hd => ?_, hholder, hdown, hitem⟩
    · rw [hs] at hslot
      dsimp only at hslot
      rw [hd] at hslot
      exact Line.sending_eq_some_iff.mp hslot
    · obtain ⟨start, hstart⟩ := Option.isSome_iff_exists.mp hd
      rw [hs] at hslot
      dsimp only at hslot
      rw [hstart] at hslot
      refine hslot.resolve_left fun hnone => ?_
      obtain ⟨hfree, -⟩ := hdown hnone
      rw [hs] at hfree
      cases hfree
  · intro h
    refine ⟨⟨?_, h.holder, h.down⟩, h.item⟩
    cases hs : (s.branch b).slot with
    | none => trivial
    | some sl =>
      dsimp only
      cases hd : sl.deadline with
      | none => exact Line.sending_eq_some_iff.mpr (h.stopped sl hs hd)
      | some start => exact .inr (h.running sl hs (by rw [hd]; rfl))

/-! ### The engine while returns and lines are in hand -/

/-- The engine agrees with the returns `n` and with what the lines `w` do. -/
structure State.EngineAt (s : State) (n : SlotNo → Nat) (w : BranchId → Option (Option TxItem)) : Prop where
  length : s.records.length = 16
  records : ∀ x, RecordAgrees (s.record x) (s.seat x) (n x)
  slots : ∀ b, SlotAgrees (s.branch b) (w b)

/-- The engine agrees with the returns that stand on the trunk and with what its lines do. -/
def State.Engine (s : State) : Prop := s.EngineAt s.returns s.doing

theorem State.engineSound_iff (s : State) : s.EngineSound ↔ s.Engine := by
  constructor
  · rintro ⟨hlength, hbranches, hrecords, hslots⟩
    exact ⟨hlength, fun x => (s.recordSound_iff x).mp (hrecords x),
      fun b => (s.slotSound_iff b).mp ⟨hslots b, hbranches b⟩⟩
  · rintro ⟨hlength, hrecords, hslots⟩
    exact ⟨hlength, fun b => ((s.slotSound_iff b).mpr (hslots b)).2, fun x => (s.recordSound_iff x).mpr (hrecords x),
      fun b => ((s.slotSound_iff b).mpr (hslots b)).1⟩

end Sys2Proof.Machine
end

section
/-! PROOFS. The changes that the exchange engine does not see: the pool, the table, the units, the counters, and the
items of dispatch (R23, R24, R54). -/

namespace Sys2Proof.Machine

/-- Between `s` and `t` nothing happened that the exchange engine sees. -/
structure State.Still (s t : State) : Prop where
  records : t.records = s.records
  seats : ∀ x b, t.seat x b = s.seat x b
  slots : ∀ b, (t.branch b).slot = (s.branch b).slot ∧ (t.branch b).holder = (s.branch b).holder ∧
    (t.branch b).lastTimedOut = (s.branch b).lastTimedOut
  lines : ∀ p, (t.port p).line.doing = (s.port p).line.doing
  trunk : t.trunkQueue.filter (fun i => i.returns.isSome) = s.trunkQueue.filter (fun i => i.returns.isSome)

theorem State.returns_eq (s : State) (x : SlotNo) :
    s.returns x = ((s.trunkQueue.filter (fun i => i.returns.isSome)).filter (TrunkItem.isReturnOf x)).length +
      (s.port .p0).line.sendsTrunk (TrunkItem.isReturnOf x) := by
  rw [List.filter_filter, State.returns, State.standing]
  congr 2
  refine List.filter_congr fun i _ => ?_
  cases h : i.returns <;> simp [TrunkItem.isReturnOf_eq, h]

/-- What a line does says which trunk item it sends. -/
theorem Line.sendsTrunk_eq_of_doing (l : Line) (f : TrunkItem → Bool) :
    l.sendsTrunk f = match l.doing with
      | some (some (.trunk i)) => if f i then 1 else 0
      | _ => 0 := by
  cases l with
  | disabled => rfl
  | fault n => rfl
  | active v =>
    simp only [Line.sendsTrunk, Tx.sendsTrunk, Line.doing, Line.live?_active, Option.map_some]
    cases v.tx.current? with
    | none => rfl
    | some c =>
      obtain ⟨item, n⟩ := c
      cases item <;> rfl

theorem Line.sendsTrunk_congr {l m : Line} (h : m.doing = l.doing) (f : TrunkItem → Bool) :
    m.sendsTrunk f = l.sendsTrunk f := by
  rw [Line.sendsTrunk_eq_of_doing, h, Line.sendsTrunk_eq_of_doing]

theorem SlotAgrees.congr {B C : Branch} {w : Option (Option TxItem)} (h : SlotAgrees B w) (hs : C.slot = B.slot)
    (hh : C.holder = B.holder) (hl : C.lastTimedOut = B.lastTimedOut) : SlotAgrees C w where
  stopped sl := by rw [hs]; exact h.stopped sl
  running sl := by rw [hs]; exact h.running sl
  holder := by rw [hs, hh]; exact h.holder
  down := by rw [hs, hh, hl]; exact h.down
  item := h.item

namespace State.Still

variable {s t u : State}

theorem returns_eq (h : s.Still t) (x : SlotNo) : t.returns x = s.returns x := by
  rw [State.returns_eq, State.returns_eq, h.trunk, Line.sendsTrunk_congr (h.lines .p0)]

theorem doing_eq (h : s.Still t) (b : BranchId) : t.doing b = s.doing b := h.lines (branchPort b)

theorem record_eq (h : s.Still t) (x : SlotNo) : t.record x = s.record x := State.record_congr h.records x

theorem engineAt (h : s.Still t) {n : SlotNo → Nat} {w : BranchId → Option (Option TxItem)} (hs : s.EngineAt n w) :
    t.EngineAt n w where
  length := h.records ▸ hs.length
  records x := by
    rw [h.record_eq, funext (h.seats x)]
    exact hs.records x
  slots b := by
    obtain ⟨hslot, hholder, hlast⟩ := h.slots b
    exact (hs.slots b).congr hslot hholder hlast

theorem engine (h : s.Still t) (hs : s.Engine) : t.Engine := by
  have ht := h.engineAt hs
  rwa [← funext h.returns_eq, ← funext h.doing_eq] at ht

theorem refl (s : State) : s.Still s := ⟨rfl, fun _ _ => rfl, fun _ => ⟨rfl, rfl, rfl⟩, fun _ => rfl, rfl⟩

theorem trans (h : s.Still t) (h' : t.Still u) : s.Still u where
  records := h'.records.trans h.records
  seats x b := (h'.seats x b).trans (h.seats x b)
  slots b := by
    obtain ⟨h1, h2, h3⟩ := h.slots b
    obtain ⟨h1', h2', h3'⟩ := h'.slots b
    exact ⟨h1'.trans h1, h2'.trans h2, h3'.trans h3⟩
  lines p := (h'.lines p).trans (h.lines p)
  trunk := h'.trunk.trans h.trunk

/-- The lines do the same, and no change of branches or records. -/
theorem of_lines (hl : ∀ p, (t.port p).line.doing = (s.port p).line.doing) (hb : t.branches = s.branches)
    (hr : t.records = s.records)
    (hq : t.trunkQueue.filter (fun i => i.returns.isSome) = s.trunkQueue.filter (fun i => i.returns.isSome)) :
    s.Still t where
  records := hr
  seats x b := by rw [State.seat, State.branch_congr hb, State.seat]
  slots b := by rw [State.branch_congr hb]; exact ⟨rfl, rfl, rfl⟩
  lines := hl
  trunk := hq

theorem of_items (hp : t.ports = s.ports) (hb : t.branches = s.branches) (hr : t.records = s.records)
    (hq : t.trunkQueue.filter (fun i => i.returns.isSome) = s.trunkQueue.filter (fun i => i.returns.isSome)) :
    s.Still t :=
  of_lines (fun p => by rw [State.port_congr hp]) hb hr hq

theorem of_eq (hp : t.ports = s.ports) (hb : t.branches = s.branches) (hr : t.records = s.records)
    (hq : t.trunkQueue = s.trunkQueue) : s.Still t :=
  of_items hp hb hr (by rw [hq])

theorem foldl {α : Type} {op : State → α → State} (hop : ∀ (t : State) a, t.Still (op t a)) (as : List α) (s : State) :
    s.Still (as.foldl op s) := by
  induction as generalizing s with
  | nil => exact refl s
  | cons a as ih => exact (hop s a).trans (ih (op s a))

theorem setPort (s : State) (p : PortId) {x : Port} (hl : x.line.doing = (s.port p).line.doing) :
    s.Still (s.setPort p x) := by
  refine of_lines (fun q => ?_) rfl rfl rfl
  rw [State.port_setPort]
  split_ifs with hq
  · rw [hq, hl]
  · rfl

theorem setLive {p : PortId} {l m : Live} (h : s.live? p = some l)
    (hi : m.tx.current?.map (·.item) = l.tx.current?.map (·.item)) : s.Still (s.setLive p m) :=
  setPort s p (by rw [State.line_of_live? h]; exact congrArg some hi)

theorem countPort (s : State) (p : PortId) (c : PortCounter) : s.Still (s.countPort p c) := setPort s p rfl

/-- An item of no exchange at the tail of the trunk queue. -/
theorem enqueue (s : State) {i : TrunkItem} (hi : i.returns = none) : s.Still (s.enqueue i) :=
  of_items rfl rfl rfl (by simp [State.enqueue, hi])

theorem count (s : State) (c : BridgeCounter) : s.Still (s.count c) := of_eq rfl rfl rfl rfl

theorem release (s : State) (b : BufId) : s.Still (s.release b) := of_eq rfl rfl rfl rfl

theorem releaseOpt (s : State) (r : Option BufId) : s.Still (s.releaseOpt r) :=
  of_eq (by simp) (by simp) (by simp) (by simp)

theorem refreshFor (s : State) (e : Exchange) (d : Direct) (f : Frame) : s.Still (s.refreshFor e d f) := by
  rw [State.refreshFor_eq]
  exact of_eq rfl rfl rfl rfl

/-! ### The units -/

theorem offerAlert (s : State) : s.Still s.offerAlert := by
  unfold State.offerAlert
  split
  · exact refl s
  · split
    · exact (enqueue s rfl).trans (of_eq rfl rfl rfl rfl)
    · exact refl s

theorem raise (s : State) (k : AlertKind) (a : Octet) : s.Still (s.raise k a) :=
  (of_eq (s := s) (t := { s with alerts := s.alerts.add k a }) rfl rfl rfl rfl).trans (offerAlert _)

theorem alertLost (s : State) : s.Still s.alertLost :=
  (of_eq (s := s) (t := { s with alerts := { s.alerts with offered := false } }) rfl rfl rfl rfl).trans (offerAlert _)

theorem alertSent (s : State) (i : AlertItem) : s.Still (s.alertSent i) :=
  (of_eq (s := s) (t := { s with alerts := { s.alerts with
    list := s.alerts.list.tail, offered := false, overflow := s.alerts.overflow && !i.overflow } })
    rfl rfl rfl rfl).trans (offerAlert _)

theorem alertConflict (s : State) (a : Octet) (event : LearnEvent) : s.Still (s.alertConflict a event) := by
  unfold State.alertConflict
  split
  · exact raise ..
  · exact refl s

theorem refuseBusy (s : State) (h : Header) : s.Still (s.refuseBusy h) := by
  unfold State.refuseBusy
  dsimp only
  split
  · exact (enqueue s rfl).trans (count ..)
  · exact count ..

theorem refuseAtOnce (s : State) (b : BufId) (r : RefusalItem) : s.Still (s.refuseAtOnce b r) := by
  unfold State.refuseAtOnce
  split
  · exact ((release s b).trans (enqueue _ rfl)).trans (count ..)
  · exact (release s b).trans (count ..)

theorem unsolicitedFrame (s : State) (q : BranchId) (b : BufId) : s.Still (s.unsolicitedFrame q b) := by
  unfold State.unsolicitedFrame
  split
  · exact (countPort ..).trans (release ..)
  · split
    · exact (countPort s _ _).trans (enqueue _ rfl)
    · exact ((countPort ..).trans (release ..)).trans (countPort ..)

/-! ### Receivers -/

theorem setRx {p : PortId} {l m : Live} (h : s.live? p = some l) (hm : m.tx = l.tx) (rx : Rx) :
    s.Still (s.setRx p m rx) :=
  setLive (m := { m with rx := rx }) h (by rw [show Live.tx { m with rx := rx } = l.tx from hm])

theorem claim (s : State) (p : PortId) : s.Still (s.claim p).2 := by
  unfold State.claim
  split
  · exact refl s
  · split
    · exact refl s
    · split
      · exact (of_eq (s := s) (t := { s with pool := s.pool.grant _ _ }) rfl rfl rfl rfl).trans (raise ..)
      · exact of_eq rfl rfl rfl rfl

theorem endEarly {p : PortId} {l m : Live} (h : s.live? p = some l) (hm : m.tx = l.tx) : s.Still (s.endEarly p m) := by
  unfold State.endEarly
  split
  · exact refl s
  · exact ((setRx h hm _).trans (countPort ..)).trans (release ..)
  · exact setRx h hm _

theorem startFrame {p : PortId} {l m : Live} (h : s.live? p = some l) (hm : m.tx = l.tx) (o : Octet) :
    s.Still (s.startFrame p m o) := by
  have hlive : (s.claim p).2.live? p = some l := (State.live?_claim ..).trans h
  rcases State.startFrame_cases s p m o with ⟨b, -, heq⟩ | ⟨-, heq⟩ <;> rw [heq]
  · exact (claim s p).trans ((setRx hlive hm _).trans (of_eq rfl rfl rfl rfl))
  · exact (claim s p).trans ((setRx hlive hm _).trans (countPort ..))

theorem marked {p : PortId} {l m : Live} (h : s.live? p = some l) (hm : m.tx = l.tx) (o : Octet) :
    s.Still (s.marked p o m) := by
  have hset : s.Still (s.setLive p m) := setLive h (by rw [hm])
  have hend := hset.trans (endEarly (m := m) (State.live?_setLive ..) rfl)
  exact hend.trans (startFrame (State.live?_endEarly (State.live?_setLive ..)) rfl o)

theorem startSend {p : PortId} {l : Live} {c : Current} (h : s.live? p = some l)
    (hc : l.tx.current?.map (·.item) = some c.item) : s.Still (s.startSend p l c) := by
  unfold State.startSend
  exact (endEarly h rfl).trans (setLive (State.live?_endEarly h) hc.symm)

end State.Still

/-! ### Queues of branches (R100) -/

/-- How a placed item counts. -/
theorem kindCount_insertItem (k : BranchItemKind) (q : List BranchItem) (i : BranchItem) :
    kindCount k (insertItem q i) = kindCount k q + if i.kind = k then 1 else 0 := by
  have hperm := (insertItem_perm q i).filter (fun j => decide (j.kind = k))
  rw [kindCount, hperm.length_eq, List.filter_cons]
  by_cases h : i.kind = k <;> simp [h, kindCount]

/-- What an item at branch `b` adds to the seat of exchange `x`. -/
theorem State.seat_appendItem (s : State) (b : BranchId) (i : BranchItem) (x : SlotNo) (c : BranchId) :
    (s.appendItem b i).seat x c = if c = b then
      { s.seat x c with
        requests := (s.seat x c).requests + if i.kind = .request x then 1 else 0
        probes := (s.seat x c).probes + if i.kind = .probe x then 1 else 0 }
      else s.seat x c := by
  have hbranch : (s.appendItem b i).branch c =
      if c = b then { s.branch b with queue := insertItem (s.branch b).queue i } else s.branch c :=
    State.branch_setBranch ..
  rw [State.seat, hbranch]
  by_cases hc : c = b
  · subst hc
    rw [if_pos rfl, if_pos rfl]
    exact Seat.ext rfl rfl (kindCount_insertItem ..) (kindCount_insertItem ..)
  · rw [if_neg hc, if_neg hc]
    rfl

theorem State.slots_appendItem (s : State) (b : BranchId) (i : BranchItem) (c : BranchId) :
    ((s.appendItem b i).branch c).slot = (s.branch c).slot ∧ ((s.appendItem b i).branch c).holder = (s.branch c).holder ∧
      ((s.appendItem b i).branch c).lastTimedOut = (s.branch c).lastTimedOut := by
  have hbranch : (s.appendItem b i).branch c =
      if c = b then { s.branch b with queue := insertItem (s.branch b).queue i } else s.branch c :=
    State.branch_setBranch ..
  rw [hbranch]
  split_ifs with hc
  · subst hc
    exact ⟨rfl, rfl, rfl⟩
  · exact ⟨rfl, rfl, rfl⟩

namespace State.Still

theorem appendNotice (s : State) (b : BranchId) {i : BranchItem} (hi : i.kind = .notice) : s.Still (s.appendItem b i) where
  records := rfl
  seats x c := by
    rw [State.seat_appendItem, hi]
    by_cases hc : c = b
    · rw [if_pos hc]
      rfl
    · rw [if_neg hc]
  slots := s.slots_appendItem b i
  lines _ := rfl
  trunk := rfl

theorem placeNotice (f : Frame) (b : BufId) (s : State) (q : BranchId) : s.Still (State.placeNotice f b s q) := by
  unfold State.placeNotice
  split
  · exact appendNotice s q rfl
  · exact countPort ..

theorem placeNotices (s : State) (f : Frame) (b : BufId) (targets : List BranchId) :
    s.Still (s.placeNotices f b targets) :=
  (foldl (placeNotice f b) targets s).trans (release ..)

end State.Still

/-! ### The reset (R140) -/

theorem State.engine_resetAt (s : State) (straps : Straps) : (s.resetAt straps).Engine := by
  refine State.Still.engine (s := State.resetWith straps) ?_
    ((State.engineSound_iff _).mp (State.engineSound_resetWith straps))
  exact .of_eq rfl rfl rfl rfl

/-- The end of a RESTART's response, or of another one (R155, R172). -/
theorem State.Engine.settleRestart {s : State} (hs : s.Engine) (straps : Straps) : (s.settleRestart straps).Engine := by
  unfold State.settleRestart
  split
  · exact s.engine_resetAt straps
  · exact hs

theorem State.Engine.respond {s : State} (hs : s.Engine) (h : Header) (code : Octet) (status : Status)
    (data : List Octet) : (s.respond h code status data).Engine := by
  unfold State.respond
  split
  · refine State.Still.engine (s := s.enqueue .response) ?_ ((State.Still.enqueue s rfl).engine hs)
    exact .of_eq rfl rfl rfl rfl
  · refine State.Engine.settleRestart (State.Still.engine (s := s) ?_ hs) _
    exact .of_eq rfl rfl rfl rfl

end Sys2Proof.Machine
end

section
/-! PROOFS. How the rows of R23 and R54 follow each other: what a record, its seats and its returns come to. -/

namespace Sys2Proof.Machine

theorem setEmpty_eq_true_iff (set : PerBranch Bool) : setEmpty set = true ↔ ∀ b, branchGet set b = false := by
  obtain ⟨m1, m2, m3⟩ := set
  constructor
  · intro h b
    cases b <;> simp_all [setEmpty, branchGet]
  · intro h
    have h1 := h .b1
    have h2 := h .b2
    have h3 := h .b3
    simp_all [setEmpty, branchGet]

/-- What is left of a PROBE exchange without branch `b` in its set (R67, R68). -/
def Exchange.without (e : Exchange) (q : Probe) (b : BranchId) : Option Exchange :=
  if setEmpty (branchSet q.set b false) = true ∧ (q.phase = .probing ∨ q.pending = false) then none
  else some { e with mode := .probe { q with set := branchSet q.set b false } }

namespace RecordAgrees

variable {r : Option Exchange} {e : Exchange} {d : Direct} {q : Probe} {seat seat' : BranchId → Seat} {n : Nat}
  {b : BranchId}

/-! ### One row after the other -/

theorem free_iff : RecordAgrees none seat n ↔ (∀ b, seat b = .away) ∧ n = 0 := Iff.rfl

theorem queued_iff (hm : e.mode = .direct d) (hp : d.phase = .queued) : RecordAgrees (some e) seat n ↔
    (∀ b, b ≠ d.port → seat b = .away) ∧ e.request.isSome = true ∧ n = 0 ∧
      (seat d.port = .waitsRequest ∨ seat d.port = .holds .request false) := by
  simp only [RecordAgrees, hm, hp]

theorem awaiting_iff (hm : e.mode = .direct d) (hp : d.phase = .awaiting) : RecordAgrees (some e) seat n ↔
    (∀ b, b ≠ d.port → seat b = .away) ∧ e.request.isSome = true ∧ n = 0 ∧ seat d.port = .holds .request true := by
  simp only [RecordAgrees, hm, hp]

theorem repeating_iff (hm : e.mode = .direct d) (hp : d.phase = .repeating) : RecordAgrees (some e) seat n ↔
    (∀ b, b ≠ d.port → seat b = .away) ∧ e.request.isSome = true ∧ n = 0 ∧ seat d.port = .repeating := by
  simp only [RecordAgrees, hm, hp]

theorem returning_iff (hm : e.mode = .direct d) (hp : d.phase = .returning) : RecordAgrees (some e) seat n ↔
    (∀ b, b ≠ d.port → seat b = .away) ∧ e.request = none ∧ n = 1 ∧ seat d.port = .away := by
  simp only [RecordAgrees, hm, hp]

theorem probing_iff (hm : e.mode = .probe q) (hp : q.phase = .probing) : RecordAgrees (some e) seat n ↔
    e.request.isSome = true ∧ n = 0 ∧ q.pending = false ∧ setEmpty q.set = false ∧
      ∀ b, if branchGet q.set b = true then seat b = .waitsProbe ∨ ∃ r, seat b = .holds .probe r
        else seat b = .away := by
  simp only [RecordAgrees, hm, hp]

theorem settling_iff (hm : e.mode = .probe q) (hp : q.phase = .settling) : RecordAgrees (some e) seat n ↔
    e.request = none ∧ n = (if q.pending then 1 else 0) ∧ (setEmpty q.set = false ∨ q.pending = true) ∧
      ∀ b, if branchGet q.set b = true then ∃ r, seat b = .holds .probe r else seat b = .away := by
  simp only [RecordAgrees, hm, hp]

/-! ### What a seat says of its record -/

/-- A branch outside of the set holds nothing of a PROBE exchange. -/
theorem away_of_not_in (h : RecordAgrees (some e) seat n) (hm : e.mode = .probe q) (hin : branchGet q.set b = false) :
    seat b = .away := by
  cases hp : q.phase with
  | probing =>
    obtain ⟨-, -, -, -, hseat⟩ := (probing_iff hm hp).mp h
    simpa [hin] using hseat b
  | settling =>
    obtain ⟨-, -, -, hseat⟩ := (settling_iff hm hp).mp h
    simpa [hin] using hseat b

/-- The seats that a record allows on branch `b`. -/
inductive Seated (r : Option Exchange) (b : BranchId) : Seat → Prop where
  | away : Seated r b .away
  | waits (e : Exchange) (d : Direct) : r = some e → e.mode = .direct d → d.phase = .queued → d.port = b →
      Seated r b .waitsRequest
  | sends (e : Exchange) (d : Direct) : r = some e → e.mode = .direct d → d.phase = .queued → d.port = b →
      Seated r b (.holds .request false)
  | awaits (e : Exchange) (d : Direct) : r = some e → e.mode = .direct d → d.phase = .awaiting → d.port = b →
      Seated r b (.holds .request true)
  | repeats (e : Exchange) (d : Direct) : r = some e → e.mode = .direct d → d.phase = .repeating → d.port = b →
      Seated r b .repeating
  | waitsProbe (e : Exchange) (q : Probe) : r = some e → e.mode = .probe q → q.phase = .probing →
      branchGet q.set b = true → Seated r b .waitsProbe
  | holdsProbe (e : Exchange) (q : Probe) (running : Bool) : r = some e → e.mode = .probe q →
      branchGet q.set b = true → Seated r b (.holds .probe running)

theorem seated (h : RecordAgrees r seat n) (b : BranchId) : Seated r b (seat b) := by
  cases r with
  | none =>
    obtain ⟨hseat, -⟩ := free_iff.mp h
    rw [hseat b]
    exact .away
  | some e =>
    cases hm : e.mode with
    | direct d =>
      have hother : (∀ c, c ≠ d.port → seat c = .away) := by
        rw [RecordAgrees, hm] at h
        exact h.1
      by_cases hb : b = d.port
      · subst hb
        cases hp : d.phase with
        | queued =>
          obtain ⟨-, -, -, hseat | hseat⟩ := (queued_iff hm hp).mp h <;> rw [hseat]
          · exact .waits e d rfl hm hp rfl
          · exact .sends e d rfl hm hp rfl
        | awaiting =>
          obtain ⟨-, -, -, hseat⟩ := (awaiting_iff hm hp).mp h
          rw [hseat]
          exact .awaits e d rfl hm hp rfl
        | repeating =>
          obtain ⟨-, -, -, hseat⟩ := (repeating_iff hm hp).mp h
          rw [hseat]
          exact .repeats e d rfl hm hp rfl
        | returning =>
          obtain ⟨-, -, -, hseat⟩ := (returning_iff hm hp).mp h
          rw [hseat]
          exact .away
      · rw [hother b hb]
        exact .away
    | probe q =>
      cases hin : branchGet q.set b with
      | false =>
        rw [h.away_of_not_in hm hin]
        exact .away
      | true =>
        cases hp : q.phase with
        | probing =>
          obtain ⟨-, -, -, -, hseat⟩ := (probing_iff hm hp).mp h
          have hb := hseat b
          rw [if_pos hin] at hb
          obtain hb | ⟨run, hb⟩ := hb <;> rw [hb]
          · exact .waitsProbe e q rfl hm hp hin
          · exact .holdsProbe e q run rfl hm hin
        | settling =>
          obtain ⟨-, -, -, hseat⟩ := (settling_iff hm hp).mp h
          have hb := hseat b
          rw [if_pos hin] at hb
          obtain ⟨run, hb⟩ := hb
          rw [hb]
          exact .holdsProbe e q run rfl hm hin

/-- The slot of a branch that is held for a request is held for the exchange on that branch. -/
theorem of_held_request {run : Bool} (h : RecordAgrees r seat n) (hheld : (seat b).held = some (.request, run)) :
    seat b = .holds .request run ∧ ∃ e d, r = some e ∧ e.mode = .direct d ∧ d.port = b ∧
      d.phase = if run then .awaiting else .queued := by
  have hs := h.seated b
  generalize seat b = S at hs hheld
  cases hs <;> cases hheld
  case sends e d hr hm hp hport => exact ⟨rfl, e, d, hr, hm, hport, hp⟩
  case awaits e d hr hm hp hport => exact ⟨rfl, e, d, hr, hm, hport, hp⟩

theorem of_held_probe {run : Bool} (h : RecordAgrees r seat n) (hheld : (seat b).held = some (.probe, run)) :
    seat b = .holds .probe run ∧ ∃ e q, r = some e ∧ e.mode = .probe q ∧ branchGet q.set b = true := by
  have hs := h.seated b
  generalize seat b = S at hs hheld
  cases hs <;> cases hheld
  case holdsProbe e q hr hm hin => exact ⟨rfl, e, q, hr, hm, hin⟩

theorem of_repeats (h : RecordAgrees r seat n) (hrep : (seat b).repeats = true) :
    seat b = .repeating ∧ ∃ e d, r = some e ∧ e.mode = .direct d ∧ d.port = b ∧ d.phase = .repeating := by
  have hs := h.seated b
  generalize seat b = S at hs hrep
  cases hs <;> cases hrep
  case repeats e d hr hm hp hport => exact ⟨rfl, e, d, hr, hm, hport, hp⟩

theorem of_requests (h : RecordAgrees r seat n) (hreq : 1 ≤ (seat b).requests) :
    seat b = .waitsRequest ∧ ∃ e d, r = some e ∧ e.mode = .direct d ∧ d.port = b ∧ d.phase = .queued := by
  have hs := h.seated b
  generalize seat b = S at hs hreq
  cases hs
  case waits e d hr hm hp hport => exact ⟨rfl, e, d, hr, hm, hport, hp⟩
  all_goals cases hreq

theorem of_probes (h : RecordAgrees r seat n) (hprobe : 1 ≤ (seat b).probes) :
    seat b = .waitsProbe ∧ ∃ e q, r = some e ∧ e.mode = .probe q ∧ q.phase = .probing ∧ branchGet q.set b = true := by
  have hs := h.seated b
  generalize seat b = S at hs hprobe
  cases hs
  case waitsProbe e q hr hm hp hin => exact ⟨rfl, e, q, hr, hm, hp, hin⟩
  all_goals cases hprobe

/-! ### Returns -/

/-- A DIRECT exchange that is not RETURNING has no return, and stands on its own branch alone. -/
theorem of_direct (h : RecordAgrees (some e) seat n) (hm : e.mode = .direct d) (hp : d.phase ≠ .returning) :
    (∀ b, b ≠ d.port → seat b = .away) ∧ n = 0 := by
  cases hphase : d.phase with
  | queued =>
    obtain ⟨hother, -, hn, -⟩ := (queued_iff hm hphase).mp h
    exact ⟨hother, hn⟩
  | awaiting =>
    obtain ⟨hother, -, hn, -⟩ := (awaiting_iff hm hphase).mp h
    exact ⟨hother, hn⟩
  | repeating =>
    obtain ⟨hother, -, hn, -⟩ := (repeating_iff hm hphase).mp h
    exact ⟨hother, hn⟩
  | returning => exact absurd hphase hp

/-- A DIRECT exchange in its return (R30, R31). -/
theorem returning (e : Exchange) (d : Direct) (h : ∀ b, seat b = .away) :
    RecordAgrees (some { e with request := none, mode := .direct { d with phase := .returning } }) seat 1 :=
  (returning_iff rfl rfl).mpr ⟨fun b _ => h b, rfl, rfl, h _⟩

/-- A return that stands is of an exchange that has released its request, and at its end the exchange has ended too as
far as R43 and R68 say. -/
theorem afterReturn (h : RecordAgrees r seat 1) : RecordAgrees (r.bind Exchange.afterReturn) seat 0 := by
  cases r with
  | none =>
    obtain ⟨-, hn⟩ := free_iff.mp h
    cases hn
  | some e =>
    rw [Option.bind_some]
    cases hm : e.mode with
    | direct d =>
      rw [Exchange.afterReturn_of_direct hm]
      by_cases hp : d.phase = .returning
      · obtain ⟨hother, -, -, hport⟩ := (returning_iff hm hp).mp h
        exact free_iff.mpr ⟨fun b => if hb : b = d.port then hb ▸ hport else hother b hb, rfl⟩
      · obtain ⟨-, hn⟩ := h.of_direct hm hp
        cases hn
    | probe q =>
      rw [Exchange.afterReturn_of_probe hm]
      cases hp : q.phase with
      | probing =>
        obtain ⟨-, hn, -⟩ := (probing_iff hm hp).mp h
        cases hn
      | settling =>
        obtain ⟨hrequest, -, -, hseat⟩ := (settling_iff hm hp).mp h
        cases hset : setEmpty q.set with
        | true =>
          have hout := (setEmpty_eq_true_iff q.set).mp hset
          refine free_iff.mpr ⟨fun b => ?_, rfl⟩
          simpa [hout b] using hseat b
        | false =>
          rw [if_neg Bool.false_ne_true]
          exact (settling_iff (q := { q with phase := .settling, pending := false }) rfl rfl).mpr
            ⟨hrequest, rfl, .inl hset, hseat⟩

/-! ### Probes -/

/-- A PROBE exchange loses a branch that holds nothing of it any more (R67, R68, R70). -/
theorem without (h : RecordAgrees (some e) seat n) (hm : e.mode = .probe q) (hb : seat' b = .away)
    (hother : ∀ c, c ≠ b → seat' c = seat c) : RecordAgrees (e.without q b) seat' n := by
  have hin : ∀ c, branchGet (branchSet q.set b false) c = true ↔ c ≠ b ∧ branchGet q.set c = true := fun c => by
    rw [branchGet_branchSet]
    split_ifs with hc <;> simp [hc]
  have hout : setEmpty (branchSet q.set b false) = true → ∀ c, c ≠ b → branchGet q.set c = false := fun hset c hc => by
    have := (setEmpty_eq_true_iff _).mp hset c
    rwa [branchGet_branchSet, if_neg hc] at this
  cases hp : q.phase with
  | probing =>
    obtain ⟨hrequest, hn, hpending, -, hseat⟩ := (probing_iff hm hp).mp h
    cases hset : setEmpty (branchSet q.set b false) with
    | true =>
      rw [Exchange.without, if_pos ⟨hset, .inl hp⟩]
      refine free_iff.mpr ⟨fun c => ?_, hn⟩
      by_cases hc : c = b
      · rw [hc, hb]
      · rw [hother c hc]
        simpa [hout hset c hc] using hseat c
    | false =>
      rw [Exchange.without, if_neg (by simp [hset])]
      refine (probing_iff (q := { q with set := branchSet q.set b false }) rfl hp).mpr
        ⟨hrequest, hn, hpending, hset, fun c => ?_⟩
      by_cases hc : c = b
      · rw [if_neg (by rw [hin]; exact fun hand => hand.1 hc), hc, hb]
      · rw [hother c hc]
        have := hseat c
        rwa [branchGet_branchSet, if_neg hc]
  | settling =>
    obtain ⟨hrequest, hn, -, hseat⟩ := (settling_iff hm hp).mp h
    by_cases hend : setEmpty (branchSet q.set b false) = true ∧ q.pending = false
    · obtain ⟨hset, hpending⟩ := hend
      rw [Exchange.without, if_pos ⟨hset, .inr hpending⟩]
      refine free_iff.mpr ⟨fun c => ?_, by rw [hn, hpending]; rfl⟩
      by_cases hc : c = b
      · rw [hc, hb]
      · rw [hother c hc]
        simpa [hout hset c hc] using hseat c
    · rw [Exchange.without, if_neg (by simpa [hp] using hend)]
      refine (settling_iff (q := { q with set := branchSet q.set b false }) rfl hp).mpr
        ⟨hrequest, hn, ?_, fun c => ?_⟩
      · show setEmpty (branchSet q.set b false) = false ∨ q.pending = true
        cases hset : setEmpty (branchSet q.set b false) <;> simp_all
      · by_cases hc : c = b
        · rw [if_neg (by rw [hin]; exact fun hand => hand.1 hc), hc, hb]
        · rw [hother c hc]
          have := hseat c
          rwa [branchGet_branchSet, if_neg hc]

/-- A PROBE exchange that has had its first answer (R63, R64). -/
theorem answered (e : Exchange) {set : PerBranch Bool}
    (hseat : ∀ c, if branchGet set c = true then ∃ r, seat c = .holds .probe r else seat c = .away) :
    RecordAgrees (some { e with
      request := none, mode := .probe { phase := .settling, set := set, pending := true } }) seat 1 ∧
    RecordAgrees (if setEmpty set then none else some { e with
      request := none, mode := .probe { phase := .settling, set := set, pending := false } }) seat 0 := by
  refine ⟨(settling_iff rfl rfl).mpr ⟨rfl, rfl, .inr rfl, hseat⟩, ?_⟩
  cases hset : setEmpty set with
  | true =>
    have hout := (setEmpty_eq_true_iff set).mp hset
    refine free_iff.mpr ⟨fun c => ?_, rfl⟩
    have := hseat c
    rwa [hout c] at this
  | false => exact (settling_iff rfl rfl).mpr ⟨rfl, rfl, .inl hset, hseat⟩

/-! ### Teardown, FLUSH and the end of the trunk's items -/

/-- The teardown of branch `b` at one record (R45, R70). -/
theorem down (h : RecordAgrees r seat n) (up : Bool) (x : SlotNo) (hb : seat' b = .away)
    (hother : ∀ c, c ≠ b → seat' c = seat c) : RecordAgrees ((downSweep b).left up r) seat'
      (n + if up && ((downSweep b).refusal? x r).isSome then 1 else 0) := by
  have hkept : seat b = .away → seat' = seat := fun haway => funext fun c =>
    if hc : c = b then by rw [hc, hb, haway] else hother c hc
  cases r with
  | none =>
    obtain ⟨hseat, hn⟩ := free_iff.mp h
    rw [hkept (hseat b)]
    exact free_iff.mpr ⟨hseat, by simp [hn, Sweep.refusal?]⟩
  | some e =>
    cases hm : e.mode with
    | probe q =>
      have hnone : (downSweep b).refusal? x (some e) = none := by simp [Sweep.refusal?, hm]
      rw [hnone, Option.isSome_none, Bool.and_false, if_neg Bool.false_ne_true, Nat.add_zero, downSweep_left_probe hm]
      split_ifs with hin hend
      · rw [hkept (h.away_of_not_in hm hin)]
        exact h
      · have := h.without hm hb hother
        rwa [Exchange.without, if_pos hend] at this
      · have := h.without hm hb hother
        rwa [Exchange.without, if_neg hend] at this
    | direct d =>
      rw [downSweep_left_direct hm]
      have hrefusal : ((downSweep b).refusal? x (some e)).isSome = d.livesOn b := by
        cases hlives : d.livesOn b <;> simp [Sweep.refusal?, hm, downSweep, hlives]
      rw [hrefusal]
      cases hlives : d.livesOn b with
      | false =>
        have haway : seat b = .away := by
          cases hp : d.phase with
          | returning =>
            obtain ⟨hoff, -, -, hport⟩ := (returning_iff hm hp).mp h
            exact if hb : b = d.port then hb ▸ hport else hoff b hb
          | _ =>
            refine (h.of_direct hm (by rw [hp]; exact nofun)).1 b fun hb => ?_
            simp [Direct.livesOn, Direct.onBranch, hp, hb] at hlives
        rw [hkept haway, if_pos rfl, Bool.and_false, if_neg Bool.false_ne_true]
        exact h
      | true =>
        obtain ⟨hport, hon⟩ : d.port = b ∧ d.onBranch = true := by simpa [Direct.livesOn] using hlives
        obtain ⟨hoff, rfl⟩ := h.of_direct hm fun hp => by simp [Direct.onBranch, hp] at hon
        have haway : ∀ c, seat' c = .away := fun c =>
          if hc : c = b then hc ▸ hb else (hother c hc).trans (hoff c (hport ▸ hc))
        cases up with
        | true => exact returning e d haway
        | false => exact free_iff.mpr ⟨haway, rfl⟩

/-- FLUSH at one record (R48, R71). -/
theorem flush (h : RecordAgrees r seat n) (up : Bool) (x : SlotNo) (haway : ∀ c, seat' c = .away) :
    RecordAgrees (flushSweep.left up r) seat' (n + if up && (flushSweep.refusal? x r).isSome then 1 else 0) := by
  cases r with
  | none =>
    obtain ⟨-, hn⟩ := free_iff.mp h
    exact free_iff.mpr ⟨haway, by simp [hn, Sweep.refusal?]⟩
  | some e =>
    cases hm : e.mode with
    | probe q =>
      have hnone : flushSweep.refusal? x (some e) = none := by simp [Sweep.refusal?, hm]
      rw [hnone, Option.isSome_none, Bool.and_false, if_neg Bool.false_ne_true, Nat.add_zero, flushSweep_left_probe hm]
      cases hp : q.phase with
      | probing =>
        obtain ⟨-, hn, -⟩ := (probing_iff hm hp).mp h
        exact free_iff.mpr ⟨haway, hn⟩
      | settling =>
        obtain ⟨hrequest, hn, -⟩ := (settling_iff hm hp).mp h
        cases hpending : q.pending with
        | true =>
          rw [if_pos ⟨rfl, rfl⟩]
          refine (settling_iff (q := { phase := .settling, set := emptySet, pending := true }) rfl rfl).mpr
            ⟨hrequest, by rw [hn, hpending], .inr rfl, fun b => ?_⟩
          rw [if_neg (by cases b <;> exact Bool.false_ne_true), haway]
        | false =>
          rw [if_neg (by simp)]
          exact free_iff.mpr ⟨haway, by rw [hn, hpending]; rfl⟩
    | direct d =>
      have hrefusal : (flushSweep.refusal? x (some e)).isSome = d.onBranch := by
        cases hon : d.onBranch <;> simp [Sweep.refusal?, hm, flushSweep, hon]
      rw [hrefusal]
      by_cases hp : d.phase = .returning
      · obtain ⟨-, hrequest, hn, -⟩ := (returning_iff hm hp).mp h
        have hon : d.onBranch = false := by simp [Direct.onBranch, hp]
        have hleft : flushSweep.left up (some e) = some e := by simp [Sweep.left, hm, flushSweep, hon]
        rw [hleft, hon, Bool.and_false, if_neg Bool.false_ne_true]
        exact (returning_iff hm hp).mpr ⟨fun b _ => haway b, hrequest, hn, haway _⟩
      · obtain ⟨-, rfl⟩ := h.of_direct hm hp
        have hon : d.onBranch = true := by
          cases hphase : d.phase <;> simp_all [Direct.onBranch]
        cases up with
        | true =>
          have hleft : flushSweep.left true (some e) =
              some { e with request := none, mode := .direct { d with phase := .returning } } := by
            simp [Sweep.left, hm, flushSweep, hon]
          rw [hleft, hon]
          exact returning e d haway
        | false =>
          have hleft : flushSweep.left false (some e) = none := by simp [Sweep.left, hm, flushSweep, hon]
          rw [hleft]
          exact free_iff.mpr ⟨haway, rfl⟩

end RecordAgrees

end Sys2Proof.Machine
end

section
/-! PROOFS. How the exchange engine changes at one exchange or at one branch (R23, R24, R31, R54). -/

namespace Sys2Proof.Machine

/-! ### Slots and seats -/

theorem SlotAgrees.free {B : Branch} {w : Option (Option TxItem)} (hs : B.slot = none) (hw : w ≠ none)
    (hi : ∀ i, w ≠ some (some (.trunk i))) : SlotAgrees B w where
  stopped sl h := by rw [hs] at h; cases h
  running sl h := by rw [hs] at h; cases h
  holder h := by rw [hs] at h; cases h
  down h := absurd h hw
  item := hi

/-- A branch whose slot, holder and last-timed-out record are empty agrees with any line that sends no trunk item. -/
theorem SlotAgrees.empty {B : Branch} {w : Option (Option TxItem)} (hs : B.slot = none) (hh : B.holder = none)
    (hl : B.lastTimedOut = none) (hi : ∀ i, w ≠ some (some (.trunk i))) : SlotAgrees B w where
  stopped sl h := by rw [hs] at h; cases h
  running sl h := by rw [hs] at h; cases h
  holder _ := hh
  down _ := ⟨hs, hh, hl⟩
  item := hi

/-- The slot of an ACTIVE branch is freed. -/
theorem SlotAgrees.freed {B C : Branch} {w : Option (Option TxItem)} (h : SlotAgrees B w) (hw : w ≠ none)
    (hs : C.slot = none) : SlotAgrees C w := .free hs hw h.item

/-- A branch whose slot is held, or that has something in its repeat holder, is ACTIVE. -/
theorem SlotAgrees.active_of_slot {B : Branch} {w : Option (Option TxItem)} (h : SlotAgrees B w)
    (hs : B.slot.isSome = true) : w ≠ none := fun hw => by
  obtain ⟨hnone, -, -⟩ := h.down hw
  rw [hnone] at hs
  cases hs

theorem SlotAgrees.active_of_holder {B : Branch} {w : Option (Option TxItem)} (h : SlotAgrees B w)
    (hh : B.holder.isSome = true) : w ≠ none := fun hw => by
  obtain ⟨-, hnone, -⟩ := h.down hw
  rw [hnone] at hh
  cases hh

theorem RecordAgrees.le_one {r : Option Exchange} {seat : BranchId → Seat} {n : Nat} (h : RecordAgrees r seat n) :
    n ≤ 1 := by
  cases r with
  | none =>
    obtain ⟨-, hn⟩ := RecordAgrees.free_iff.mp h
    omega
  | some e =>
    cases hm : e.mode with
    | direct d =>
      by_cases hp : d.phase = .returning
      · obtain ⟨-, -, hn, -⟩ := (RecordAgrees.returning_iff hm hp).mp h
        omega
      · obtain ⟨-, hn⟩ := h.of_direct hm hp
        omega
    | probe q =>
      cases hp : q.phase with
      | probing =>
        obtain ⟨-, hn, -⟩ := (RecordAgrees.probing_iff hm hp).mp h
        omega
      | settling =>
        obtain ⟨-, hn, -⟩ := (RecordAgrees.settling_iff hm hp).mp h
        split_ifs at hn <;> omega

theorem State.seat_setBranch (s : State) (b : BranchId) (y : Branch) (x : SlotNo) (c : BranchId) :
    (s.setBranch b y).seat x c = if c = b then y.seat x else s.seat x c := by
  rw [State.seat, State.branch_setBranch]
  split_ifs <;> rfl

theorem State.record_setBranch (s : State) (b : BranchId) (y : Branch) (x : SlotNo) :
    (s.setBranch b y).record x = s.record x := rfl

theorem State.seat_congr {s t : State} (h : t.branches = s.branches) (x : SlotNo) : t.seat x = s.seat x :=
  funext fun b => by rw [State.seat, State.branch_congr h, State.seat]

/-- What the slot of a branch says of the exchange it is held for. -/
theorem State.held_of_slot {s : State} {b : BranchId} {sl : Slot} (h : (s.branch b).slot = some sl) :
    (s.seat sl.exch b).held = some (sl.kind, sl.deadline.isSome) := by
  rw [State.seat, Branch.seat, h, Option.bind_some, Slot.heldFor, if_pos rfl]

/-- A slot that is held for one exchange says nothing of another one. -/
theorem Branch.held_of_ne {B : Branch} {x y : SlotNo} (hs : ∀ sl, B.slot = some sl → sl.exch = x) (hy : y ≠ x) :
    (B.seat y).held = none := by
  cases h : B.slot with
  | none => rw [Branch.seat, h, Option.bind_none]
  | some sl =>
    rw [Branch.seat, h, Option.bind_some, Slot.heldFor, if_neg (by rw [hs sl h]; exact hy.symm)]

/-- Branches with the same waiting items, where slot and holder of each belong to `x` alone. -/
theorem Branch.seat_of_ne {B C : Branch} {x y : SlotNo} (hy : y ≠ x) (hB : ∀ sl, B.slot = some sl → sl.exch = x)
    (hC : ∀ sl, C.slot = some sl → sl.exch = x) (hh : C.holder = some y ↔ B.holder = some y)
    (hr : kindCount (.request y) C.queue = kindCount (.request y) B.queue)
    (hp : kindCount (.probe y) C.queue = kindCount (.probe y) B.queue) : C.seat y = B.seat y := by
  refine Seat.ext ?_ ?_ hr hp
  · rw [Branch.held_of_ne hB hy, Branch.held_of_ne hC hy]
  · exact decide_eq_decide.mpr hh

/-! ### The returns on the trunk -/

theorem State.returns_enqueue (s : State) (i : TrunkItem) (x : SlotNo) :
    (s.enqueue i).returns x = s.returns x + if i.isReturnOf x then 1 else 0 := s.standing_enqueue i _

theorem State.returns_congr {s t : State} (hp : t.ports = s.ports) (hq : t.trunkQueue = s.trunkQueue) (x : SlotNo) :
    t.returns x = s.returns x := by
  rw [State.returns, State.standing, State.port_congr hp, hq]
  rfl

theorem State.doing_congr {s t : State} (hp : t.ports = s.ports) (b : BranchId) : t.doing b = s.doing b := by
  rw [State.doing, State.port_congr hp, State.doing]

/-! ### One exchange aside -/

/-- What the lines do, with branch `b` doing `w`. -/
def doingAt (lines : BranchId → Option (Option TxItem)) (b : BranchId) (w : Option (Option TxItem)) :
    BranchId → Option (Option TxItem) := fun c => if c = b then w else lines c

theorem doingAt_same (lines : BranchId → Option (Option TxItem)) (b : BranchId) (w : Option (Option TxItem)) :
    doingAt lines b w b = w := if_pos rfl

theorem doingAt_self (lines : BranchId → Option (Option TxItem)) (b : BranchId) : doingAt lines b (lines b) = lines := by
  funext c
  rw [doingAt]
  split_ifs with h
  · rw [h]
  · rfl

/-- The engine agrees with the returns `n` and with what the lines do, the record of exchange `x` left aside. -/
structure State.EngineBut (s : State) (x : SlotNo) (n : SlotNo → Nat) (lines : BranchId → Option (Option TxItem)) :
    Prop where
  length : s.records.length = 16
  records : ∀ y, y ≠ x → RecordAgrees (s.record y) (s.seat y) (n y)
  slots : ∀ b, SlotAgrees (s.branch b) (lines b)

section Moves

variable {s t : State} {x : SlotNo} {n : SlotNo → Nat} {lines : BranchId → Option (Option TxItem)}

theorem State.EngineAt.but (hs : s.EngineAt n lines) (x : SlotNo) : s.EngineBut x n lines :=
  ⟨hs.length, fun y _ => hs.records y, hs.slots⟩

theorem State.EngineAt.of_eq (hs : s.EngineAt n lines) (hr : t.records = s.records) (hb : t.branches = s.branches) :
    t.EngineAt n lines where
  length := hr ▸ hs.length
  records x := by
    rw [State.record_congr hr, State.seat_congr hb]
    exact hs.records x
  slots b := by
    rw [State.branch_congr hb]
    exact hs.slots b

/-- The state whose returns and lines the engine agrees with. -/
theorem State.EngineAt.engine (hs : s.EngineAt n lines) (hr : t.records = s.records) (hb : t.branches = s.branches)
    (hn : ∀ x, t.returns x = n x) (hw : ∀ b, t.doing b = lines b) : t.Engine := by
  have ht := hs.of_eq hr hb
  rwa [← funext hn, ← funext hw] at ht

namespace State.EngineBut

theorem lt_length (hs : s.EngineBut x n lines) : x.val < s.records.length := x.isLt.trans_eq hs.length.symm

theorem still (hs : s.EngineBut x n lines) (h : s.Still t) : t.EngineBut x n lines where
  length := h.records ▸ hs.length
  records y hy := by
    rw [h.record_eq, funext (h.seats y)]
    exact hs.records y hy
  slots b := by
    obtain ⟨hslot, hholder, hlast⟩ := h.slots b
    exact (hs.slots b).congr hslot hholder hlast

theorem stillSelf (hs : s.EngineBut x s.returns s.doing) (h : s.Still t) : t.EngineBut x t.returns t.doing := by
  rw [funext h.returns_eq, funext h.doing_eq]
  exact hs.still h

theorem of_eq (hs : s.EngineBut x n lines) (hr : t.records = s.records) (hb : t.branches = s.branches) :
    t.EngineBut x n lines where
  length := hr ▸ hs.length
  records y hy := by
    rw [State.record_congr hr, State.seat_congr hb]
    exact hs.records y hy
  slots b := by
    rw [State.branch_congr hb]
    exact hs.slots b

/-- A branch changes at exchange `x` alone, and agrees with what its line does then. -/
theorem setBranch (hs : s.EngineBut x n lines) {b : BranchId} {B : Branch} (w : Option (Option TxItem))
    (hseat : ∀ y, y ≠ x → B.seat y = (s.branch b).seat y) (hslot : SlotAgrees B w) :
    (s.setBranch b B).EngineBut x n (doingAt lines b w) where
  length := hs.length
  records y hy := by
    have hsame : (s.setBranch b B).seat y = s.seat y := funext fun c => by
      rw [State.seat_setBranch]
      split_ifs with hc
      · rw [hseat y hy, hc, State.seat]
      · rfl
    rw [hsame]
    exact hs.records y hy
  slots c := by
    rw [State.branch_setBranch, doingAt]
    split_ifs with hc
    · exact hslot
    · exact hs.slots c

theorem setBranchSame (hs : s.EngineBut x n lines) {b : BranchId} {B : Branch}
    (hseat : ∀ y, y ≠ x → B.seat y = (s.branch b).seat y) (hslot : SlotAgrees B (lines b)) :
    (s.setBranch b B).EngineBut x n lines := by
  have h := hs.setBranch (lines b) hseat hslot
  rwa [doingAt_self] at h

theorem setRecord (hs : s.EngineBut x n lines) (r : Option Exchange) : (s.setRecord x r).EngineBut x n lines where
  length := List.length_set.trans hs.length
  records y hy := by
    rw [State.record_setRecord s x y r hs.lt_length, if_neg hy]
    exact hs.records y hy
  slots := hs.slots

/-- The record agrees too. -/
theorem engineAt (hs : s.EngineBut x n lines) (hx : RecordAgrees (s.record x) (s.seat x) (n x)) : s.EngineAt n lines :=
  ⟨hs.length, fun y => if hy : y = x then hy ▸ hx else hs.records y hy, hs.slots⟩

theorem engineAt_setRecord (hs : s.EngineBut x n lines) {r : Option Exchange} (hx : RecordAgrees r (s.seat x) (n x)) :
    (s.setRecord x r).EngineAt n lines :=
  (hs.setRecord r).engineAt (by rw [State.record_setRecord s x x r hs.lt_length, if_pos rfl]; exact hx)

/-- The returns of exchange `x` change. -/
theorem returns (hs : s.EngineBut x n lines) {m : SlotNo → Nat} (h : ∀ y, y ≠ x → m y = n y) : s.EngineBut x m lines :=
  ⟨hs.length, fun y hy => by rw [h y hy]; exact hs.records y hy, hs.slots⟩

/-- The record of `x` is written, and nothing else is left aside. -/
theorem engine_setRecord (hs : s.EngineBut x s.returns s.doing) {r : Option Exchange}
    (hx : RecordAgrees r (s.seat x) (s.returns x)) : (s.setRecord x r).Engine :=
  (hs.engineAt_setRecord hx).engine rfl rfl (fun _ => rfl) (fun _ => rfl)

/-- Items have gone to the tail of the trunk queue, and the record of `x` is written. -/
theorem engine_return (hs : s.EngineBut x s.returns s.doing) {i : TrunkItem} (hi : i.returns = some x)
    {r : Option Exchange} (hx : RecordAgrees r (s.seat x) (s.returns x + 1)) : ((s.enqueue i).setRecord x r).Engine := by
  have hreturns : ∀ y, (s.enqueue i).returns y = s.returns y + if y = x then 1 else 0 := fun y => by
    rw [State.returns_enqueue, TrunkItem.isReturnOf_eq, hi]
    simp [eq_comm]
  refine engine_setRecord (s := s.enqueue i) ((hs.of_eq (t := s.enqueue i) rfl rfl).returns fun y hy => ?_) ?_
  · rw [hreturns, if_neg hy, Nat.add_zero]
  · rw [hreturns, if_pos rfl]
    exact hx

/-! ### Returns of a DIRECT exchange (R30, R31) -/

/-- An exchange that has left its branches ends with a refusal, or FREE. -/
theorem refuse (hs : s.EngineBut x s.returns s.doing) (hseat : ∀ b, s.seat x b = .away) (hn : s.returns x = 0)
    (e : Exchange) (d : Direct) (r : Reason) : (s.refuse x e d r).Engine := by
  have hrelease := State.Still.releaseOpt s e.request
  have hbut := hs.stillSelf hrelease
  have haway : ∀ b, (s.releaseOpt e.request).seat x b = .away := fun b => (hrelease.seats x b).trans (hseat b)
  have hnone : (s.releaseOpt e.request).returns x = 0 := (hrelease.returns_eq x).trans hn
  unfold State.refuse
  generalize s.releaseOpt e.request = u at *
  split
  · refine (State.Still.count ((u.enqueue (.refusalReturn x (e.refusal r))).setRecord x _) (.refusals r)).engine
      (hbut.engine_return rfl ?_)
    rw [hnone]
    exact .returning e d haway
  · refine (State.Still.count (u.setRecord x none) .returnsLost).engine (hbut.engine_setRecord ?_)
    exact RecordAgrees.free_iff.mpr ⟨haway, hnone⟩

/-- An exchange that has left its branches ends with a frame, or FREE. -/
theorem returnFrame (hs : s.EngineBut x s.returns s.doing) (hseat : ∀ b, s.seat x b = .away) (hn : s.returns x = 0)
    (e : Exchange) (d : Direct) (b : BufId) : (s.returnFrame x e d b).Engine := by
  have hrelease := State.Still.releaseOpt s e.request
  have hbut := hs.stillSelf hrelease
  have haway : ∀ b, (s.releaseOpt e.request).seat x b = .away := fun b => (hrelease.seats x b).trans (hseat b)
  have hnone : (s.releaseOpt e.request).returns x = 0 := (hrelease.returns_eq x).trans hn
  unfold State.returnFrame
  generalize s.releaseOpt e.request = u at *
  split
  · refine hbut.engine_return rfl ?_
    rw [hnone]
    exact .returning e d haway
  · refine ((State.Still.release (u.setRecord x none) b).trans (.count _ .returnsLost)).engine (hbut.engine_setRecord ?_)
    exact RecordAgrees.free_iff.mpr ⟨haway, hnone⟩

/-! ### The end of a PROBE exchange on a branch (R67, R68) -/

/-- A branch that holds nothing of a PROBE exchange any more leaves its set. -/
theorem loseBranch (hs : s.EngineBut x s.returns s.doing) {e : Exchange} {q : Probe} {b : BranchId}
    (hx : RecordAgrees (e.without q b) (s.seat x) (s.returns x)) : (s.loseBranch x e q b).Engine := by
  rw [State.loseBranch_eq]
  unfold Exchange.without at hx
  split
  case isTrue hset =>
    rw [if_congr (and_iff_right hset) rfl rfl] at hx
    split
    case h_1 hp =>
      have hend := (State.Still.releaseOpt (s.setRecord x none) e.request).trans (.count _ .probeMisses)
      rw [if_pos (.inl hp)] at hx
      have := hend.engine (hs.engine_setRecord hx)
      rwa [← State.Holding.releaseOpt_setRecord] at this
    case h_2 hp hpending =>
      rw [if_pos (.inr hpending)] at hx
      exact hs.engine_setRecord hx
    case h_3 hp hpending =>
      rw [if_neg (by simp [hp, hpending])] at hx
      exact hs.engine_setRecord hx
  case isFalse hset =>
    rw [if_neg (fun hand => hset hand.1)] at hx
    exact hs.engine_setRecord hx

end State.EngineBut

end Moves

end Sys2Proof.Machine
end

section
/-! PROOFS. Window expiries, answers and openings keep the exchange engine sound (R27 to R42, R55 to R68). -/

namespace Sys2Proof.Machine

section Exchanges

variable {s t : State} {x : SlotNo} {e : Exchange} {b : BranchId} {sl : Slot}

theorem State.Engine.but (hs : s.Engine) (x : SlotNo) : s.EngineBut x s.returns s.doing := State.EngineAt.but hs x

theorem State.Engine.record (hs : s.Engine) (he : s.record x = some e) :
    RecordAgrees (some e) (s.seat x) (s.returns x) := he ▸ State.EngineAt.records hs x

theorem State.Engine.slot (hs : s.Engine) (b : BranchId) : SlotAgrees (s.branch b) (s.doing b) := State.EngineAt.slots hs b

/-! ### The slot and the repeat holder of a branch -/

/-- A slot that is held for a DIRECT exchange (R32, R34). -/
theorem State.Engine.slot_direct (hs : s.Engine) (hslot : (s.branch b).slot = some sl) (he : s.record sl.exch = some e)
    {d : Direct} (hm : e.mode = .direct d) :
    s.seat sl.exch b = .holds .request sl.deadline.isSome ∧ d.port = b ∧
      d.phase = (if sl.deadline.isSome then .awaiting else .queued) ∧ (∀ c, c ≠ b → s.seat sl.exch c = .away) ∧
      s.returns sl.exch = 0 := by
  have hagrees := hs.record he
  have hheld := State.held_of_slot hslot
  cases hkind : sl.kind with
  | probe =>
    rw [hkind] at hheld
    obtain ⟨-, f, q, hf, hq, -⟩ := hagrees.of_held_probe hheld
    cases hf
    rw [hm] at hq
    cases hq
  | request =>
    rw [hkind] at hheld
    obtain ⟨hseat, f, g, hf, hg, hport, hphase⟩ := hagrees.of_held_request hheld
    cases hf
    rw [hm] at hg
    cases hg
    obtain ⟨hother, hn⟩ := hagrees.of_direct hm (by rw [hphase]; split_ifs <;> exact nofun)
    exact ⟨hseat, hport, hphase, hport ▸ hother, hn⟩

/-- A slot that is held for a PROBE exchange (R58, R59). -/
theorem State.Engine.slot_probe (hs : s.Engine) (hslot : (s.branch b).slot = some sl) (he : s.record sl.exch = some e)
    {q : Probe} (hm : e.mode = .probe q) :
    s.seat sl.exch b = .holds .probe sl.deadline.isSome ∧ branchGet q.set b = true := by
  have hagrees := hs.record he
  have hheld := State.held_of_slot hslot
  cases hkind : sl.kind with
  | probe =>
    rw [hkind] at hheld
    obtain ⟨hseat, f, g, hf, hg, hin⟩ := hagrees.of_held_probe hheld
    cases hf
    rw [hm] at hg
    cases hg
    exact ⟨hseat, hin⟩
  | request =>
    rw [hkind] at hheld
    obtain ⟨-, f, d, hf, hd, -⟩ := hagrees.of_held_request hheld
    cases hf
    rw [hm] at hd
    cases hd

/-- The slot of a branch is freed, its exchange left aside. -/
theorem State.Engine.leaveSlot (hs : s.Engine) (hslot : (s.branch b).slot = some sl) {B : Branch} (hB : B.slot = none)
    (hholder : ∀ y, B.holder = some y → y = sl.exch) (hqueue : B.queue = (s.branch b).queue) :
    (s.setBranch b B).EngineBut sl.exch (s.setBranch b B).returns (s.setBranch b B).doing := by
  have hold : (s.branch b).holder = none := (hs.slot b).holder (by rw [hslot]; rfl)
  refine (hs.but sl.exch).setBranchSame (fun y hy => ?_) ((hs.slot b).freed ?_ hB)
  · refine Branch.seat_of_ne hy (fun w hw => ?_) (fun w hw => ?_) ?_ (by rw [hqueue]) (by rw [hqueue])
    · rw [hslot] at hw
      cases hw
      rfl
    · rw [hB] at hw
      cases hw
    · rw [hold]
      exact ⟨fun h => absurd (hholder y h) hy, nofun⟩
  · exact (hs.slot b).active_of_slot (by rw [hslot]; rfl)

theorem State.Engine.freeSlot (hs : s.Engine) (hslot : (s.branch b).slot = some sl) :
    (s.setSlot b none).EngineBut sl.exch (s.setSlot b none).returns (s.setSlot b none).doing :=
  hs.leaveSlot hslot rfl (fun y hy => by
    rw [show (s.branch b).holder = none from (hs.slot b).holder (by rw [hslot]; rfl)] at hy
    cases hy) rfl

theorem State.seat_freeSlot {k : SlotKind} {run : Bool} (h : s.seat x b = .holds k run) :
    (s.setSlot b none).seat x b = .away ∧ ∀ c, c ≠ b → (s.setSlot b none).seat x c = s.seat x c := by
  refine ⟨?_, fun c hc => (State.seat_setBranch ..).trans (if_neg hc)⟩
  rw [State.setSlot, State.seat_setBranch, if_pos rfl]
  show { s.seat x b with held := none } = Seat.away
  rw [h]
  rfl

/-- The repeat holder of a branch is emptied, its exchange left aside. -/
theorem State.Engine.freeHolder (hs : s.Engine) (hholder : (s.branch b).holder = some x) :
    (s.branch b).slot = none ∧
      (s.setHolder b none).EngineBut x (s.setHolder b none).returns (s.setHolder b none).doing := by
  have hslot : (s.branch b).slot = none := by
    cases h : (s.branch b).slot with
    | none => rfl
    | some sl =>
      have := (hs.slot b).holder (by rw [h]; rfl)
      rw [hholder] at this
      cases this
  refine ⟨hslot, (hs.but x).setBranchSame (fun y hy => ?_) ((hs.slot b).freed ?_ hslot)⟩
  · refine Branch.seat_of_ne hy (fun w hw => ?_) (fun w hw => ?_) ?_ rfl rfl
    · rw [hslot] at hw
      cases hw
    · rw [show Branch.slot { s.branch b with holder := none } = none from hslot] at hw
      cases hw
    · rw [hholder]
      simp [hy.symm]
  · exact (hs.slot b).active_of_holder (by rw [hholder]; rfl)

/-! ### Window expiries (R39, R40, R66) -/

theorem State.Engine.windowExpired (hs : s.Engine) (hslot : (s.branch b).slot = some sl) {start : Nat}
    (hdeadline : sl.deadline = some start) (he : s.record sl.exch = some e) {d : Direct} (hm : e.mode = .direct d) :
    (s.windowExpired b sl.exch e d).Engine := by
  obtain ⟨hseat, hport, hphase, hother, hn⟩ := hs.slot_direct hslot he hm
  rw [hdeadline] at hseat hphase
  obtain ⟨-, hrequest, -⟩ := (RecordAgrees.awaiting_iff hm hphase).mp (hs.record he)
  have hcount : (s.count .timeouts).Engine := (State.Still.count s .timeouts).engine hs
  have hold : (s.branch b).holder = none := (hs.slot b).holder (by rw [hslot]; rfl)
  have hseats : ∀ B : Branch, ∀ c, ((s.count .timeouts).setBranch b B).seat sl.exch c =
      if c = b then B.seat sl.exch else .away := fun B c => by
    rw [State.seat_setBranch]
    split_ifs with hc
    · rfl
    · exact hother c hc
  have hleft : ∀ (h : Option SlotNo) (l : Option (Key × SlotNo)),
      Branch.seat { s.branch b with slot := none, holder := h, lastTimedOut := l } sl.exch =
        { Seat.away with repeats := decide (h = some sl.exch) } := fun h l =>
    show ({ s.seat sl.exch b with held := none, repeats := decide (h = some sl.exch) } : Seat) = _ by rw [hseat]; rfl
  by_cases hagain : d.attempts ≤ d.retries.val
  · rw [State.windowExpired_of_repeat hagain]
    refine (hcount.leaveSlot hslot (B := { s.branch b with
      slot := none, lastTimedOut := some (e.key, sl.exch), holder := some sl.exch }) rfl
      (fun y hy => (Option.some.inj hy).symm) rfl).engine_setRecord ?_
    refine (RecordAgrees.repeating_iff rfl rfl).mpr ⟨fun c hc => ?_, hrequest, hn, ?_⟩
    · rw [hseats, if_neg (hport ▸ hc)]
    · rw [hseats, if_pos hport, hleft, decide_eq_true rfl]
      rfl
  · rw [State.windowExpired_of_timeout (Nat.not_le.mp hagain)]
    refine (hcount.leaveSlot hslot (B := { s.branch b with slot := none, lastTimedOut := some (e.key, sl.exch) }) rfl
      (fun y hy => ?_) rfl).refuse (fun c => ?_) hn e d .timeout
    · rw [show (s.branch b).holder = some y from hy] at hold
      cases hold
    · rw [hseats, hleft, hold]
      split_ifs <;> rfl

/-- A PROBE exchange leaves the branch whose slot it held (R66, R60). -/
theorem State.Engine.loseSlot (hs : s.Engine) (hslot : (s.branch b).slot = some sl) (he : s.record sl.exch = some e)
    {q : Probe} (hm : e.mode = .probe q) : ((s.setSlot b none).loseBranch sl.exch e q b).Engine := by
  obtain ⟨hseat, -⟩ := hs.slot_probe hslot he hm
  obtain ⟨haway, hkept⟩ := State.seat_freeSlot hseat
  exact (hs.freeSlot hslot).loseBranch ((hs.record he).without hm haway hkept)

/-! ### Answers (R38, R41, R64, R65) -/

theorem State.Engine.matched (hs : s.Engine) (hslot : (s.branch b).slot = some sl) (he : s.record sl.exch = some e)
    {d : Direct} (hm : e.mode = .direct d) (f : Frame) (a : BufId) : (s.matched b sl.exch e d f a).Engine := by
  obtain ⟨hseat, -, -, hother, hn⟩ := hs.slot_direct hslot he hm
  obtain ⟨haway, hkept⟩ := State.seat_freeSlot hseat
  have hrefresh := State.Still.refreshFor (s.setSlot b none) e d f
  refine ((hs.freeSlot hslot).stillSelf hrefresh).returnFrame (fun c => ?_) ?_ e d a
  · rw [hrefresh.seats]
    by_cases hc : c = b
    · rw [hc]
      exact haway
    · exact (hkept c hc).trans (hother c hc)
  · rw [hrefresh.returns_eq]
    exact hn

theorem State.Engine.lateAccepted (hs : s.Engine) (hholder : (s.branch b).holder = some x) (he : s.record x = some e)
    {d : Direct} (hm : e.mode = .direct d) (f : Frame) (a : BufId) : (s.lateAccepted b x e d f a).Engine := by
  have hagrees := hs.record he
  obtain ⟨hseat, g, w, hg, hw, hport, hphase⟩ := hagrees.of_repeats (State.holder_eq_iff.mp hholder)
  cases hg
  rw [hm] at hw
  cases hw
  obtain ⟨hother, hn⟩ := hagrees.of_direct hm (by rw [hphase]; exact nofun)
  obtain ⟨-, hbut⟩ := hs.freeHolder hholder
  have hrefresh := State.Still.refreshFor (s.setHolder b none) e d f
  refine (hbut.stillSelf hrefresh).returnFrame (fun c => ?_) ?_ e d a
  · rw [hrefresh.seats, State.setHolder, State.seat_setBranch]
    split_ifs with hc
    · show { s.seat x b with repeats := false } = Seat.away
      rw [hseat]
      rfl
    · exact hother c (hport ▸ hc)
  · rw [hrefresh.returns_eq]
    exact hn

/-- A further answer (R65). -/
theorem State.Engine.furtherAnswer (hs : s.Engine) (hslot : (s.branch b).slot = some sl)
    (he : s.record sl.exch = some e) {q : Probe} (hm : e.mode = .probe q) (hp : q.phase = .settling) (a : BufId) :
    (s.furtherAnswer b sl.exch e q a).Engine := by
  obtain ⟨hseat, -⟩ := hs.slot_probe hslot he hm
  obtain ⟨haway, hkept⟩ := State.seat_freeSlot hseat
  have hleft := (hs.record he).without hm haway hkept
  rw [Exchange.without, if_congr (and_congr_right fun _ => or_iff_right (by rw [hp]; exact nofun)) rfl rfl] at hleft
  rw [State.furtherAnswer_eq]
  refine (State.Still.alertConflict ..).engine ?_
  have htaken : (s.setSlot b none).Still { s.setSlot b none with
      table := { s.table with learned := (s.table.learn e.key.station b).1 }
      counters := (s.table.learn e.key.station b).2.counted s.counters
      pool := s.pool.release a } := .of_eq rfl rfl rfl rfl
  exact ((hs.freeSlot hslot).stillSelf htaken).engine_setRecord hleft

/-- An alert beside another effect is nothing to the engine. -/
theorem State.Beside.still {alerted : Bool} {k : AlertKind} {a : Octet} {r t : State} (h : r.Beside alerted k a t) :
    r.Still t := by
  have hpick : ∀ q : List TrunkItem, q.filter (fun i => i.returns.isSome) =
      (q.filter (fun i => !i.isAlert)).filter (fun i => i.returns.isSome) := fun q => by
    rw [List.filter_filter]
    refine List.filter_congr fun i _ => ?_
    cases i <;> rfl
  refine .of_items ?_ ?_ ?_ (by rw [hpick, h.otherItems, ← hpick]) <;> rw [h.frame]

theorem kindCount_filter {k : BranchItemKind} (q : List BranchItem) (p : BranchItem → Bool) :
    kindCount k (q.filter p) = ((q.filter (fun i => decide (i.kind = k))).filter p).length := by
  rw [kindCount, List.filter_filter, List.filter_filter]
  simp only [Bool.and_comm]

theorem kindCount_cancel (x : SlotNo) (k : BranchItemKind) (q : List BranchItem) :
    kindCount k (q.filter (fun i => decide (i.kind ≠ .probe x))) = if k = .probe x then 0 else kindCount k q := by
  rw [kindCount_filter]
  split_ifs with hk
  · rw [hk, List.length_eq_zero_iff, List.filter_eq_nil_iff]
    intro i hi
    simpa using (List.mem_filter.mp hi).2
  · rw [List.filter_eq_self.mpr fun i hi => ?_]
    · rfl
    · have := (List.mem_filter.mp hi).2
      simp_all

/-- What a first answer leaves of an exchange on a branch (R63). -/
theorem State.seat_firstTaken (s : State) (p : BranchId) (x : SlotNo) (e : Exchange) (y : SlotNo) (c : BranchId) :
    (s.firstTaken p x e).seat y c = { s.seat y c with
      held := if c = p then none else (s.seat y c).held
      probes := if y = x then 0 else (s.seat y c).probes } := by
  rw [State.seat, State.branch_firstTaken]
  refine Seat.ext ?_ rfl ?_ ?_
  · show Option.bind (if c = p then none else (s.branch c).slot) _ = _
    split_ifs <;> rfl
  · exact (kindCount_cancel ..).trans (if_neg nofun)
  · exact (kindCount_cancel ..).trans (if_congr (by simp) rfl rfl)

theorem State.branchGet_firstLeft (s : State) (p : BranchId) (x : SlotNo) (q : Probe) (c : BranchId) :
    branchGet (s.firstLeft p x q).set c = true ↔
      c ≠ p ∧ branchGet q.set c = true ∧ s.waiting c (.probe x) = 0 := by
  rw [State.firstLeft, State.setAfterCancel_eq]
  cases c <;> simp [branchGet, and_assoc]

/-- The seats of an exchange that has had its first answer: its copies that were sent in full, but for the one on the
answering branch. -/
theorem RecordAgrees.seat_firstTaken (h : RecordAgrees (some e) (s.seat x) (s.returns x)) {q : Probe}
    (hm : e.mode = .probe q) (hp : q.phase = .probing) {run : Bool} (hb : s.seat x b = .holds .probe run) (c : BranchId) :
    if branchGet (s.firstLeft b x q).set c = true then ∃ r, (s.firstTaken b x e).seat x c = .holds .probe r
      else (s.firstTaken b x e).seat x c = .away := by
  obtain ⟨-, -, -, -, hset⟩ := (RecordAgrees.probing_iff hm hp).mp h
  have hc := hset c
  rw [if_congr (s.branchGet_firstLeft b x q c) rfl rfl, State.waiting_probe, State.seat_firstTaken, if_pos rfl]
  by_cases hcb : c = b
  · rw [if_neg (fun hand => hand.1 hcb), if_pos hcb, hcb, hb]
    rfl
  · rw [if_neg hcb]
    cases hin : branchGet q.set c with
    | false =>
      rw [hin, if_neg Bool.false_ne_true] at hc
      rw [if_neg (by simp), hc]
      rfl
    | true =>
      rw [hin, if_pos rfl] at hc
      rcases hc with hwaits | ⟨r, hholds⟩
      · rw [if_neg (by rw [hwaits]; exact fun hand => absurd hand.2.2 (by decide)), hwaits]
        rfl
      · rw [if_pos ⟨hcb, rfl, by rw [hholds]; rfl⟩, hholds]
        exact ⟨r, rfl⟩

theorem State.Engine.firstTaken (hs : s.Engine) (hslot : (s.branch b).slot = some sl) (e : Exchange) :
    (s.firstTaken b sl.exch e).EngineBut sl.exch (s.firstTaken b sl.exch e).returns (s.firstTaken b sl.exch e).doing := by
  have hseat := State.seat_firstTaken s b sl.exch e
  have hbranch := State.branch_firstTaken s b sl.exch e
  have hframe := State.firstTaken_frame s b sl.exch e
  generalize s.firstTaken b sl.exch e = u at *
  have hrecords : u.records = s.records := by rw [hframe]
  have hports : u.ports = s.ports := by rw [hframe]
  have hqueue : u.trunkQueue = s.trunkQueue := by rw [hframe]
  refine ⟨hrecords ▸ State.EngineAt.length hs, fun y hy => ?_, fun c => ?_⟩
  · have hsame : u.seat y = s.seat y := funext fun c => by
      rw [hseat, if_neg hy]
      refine Seat.ext ?_ rfl rfl rfl
      show (if c = b then none else (s.seat y c).held) = _
      split_ifs with hc
      · rw [hc]
        refine (Branch.held_of_ne (fun w hw => ?_) hy).symm
        rw [hslot] at hw
        cases hw
        rfl
      · rfl
    rw [State.record_congr hrecords, hsame, State.returns_congr hports hqueue]
    exact State.EngineAt.records hs y
  · rw [hbranch, State.doing_congr hports]
    by_cases hc : c = b
    · subst hc
      exact (hs.slot c).freed ((hs.slot c).active_of_slot (by rw [hslot]; rfl)) (if_pos rfl)
    · exact (hs.slot c).congr (if_neg hc) rfl rfl

/-- A first answer (R62, R63, R64). -/
theorem State.Engine.firstAnswer (hs : s.Engine) (hslot : (s.branch b).slot = some sl) (he : s.record sl.exch = some e)
    {q : Probe} (hm : e.mode = .probe q) (hp : q.phase = .probing) (a : BufId) :
    (s.firstAnswer b sl.exch e q a).Engine := by
  obtain ⟨hseat, -⟩ := hs.slot_probe hslot he hm
  have hbut := hs.firstTaken hslot e
  have hseats := (hs.record he).seat_firstTaken hm hp hseat
  have hn : (s.firstTaken b sl.exch e).returns sl.exch = 0 := by
    obtain ⟨-, hn, -⟩ := (RecordAgrees.probing_iff hm hp).mp (hs.record he)
    have hframe := State.firstTaken_frame s b sl.exch e
    rw [← hn]
    exact State.returns_congr (by rw [hframe]) (by rw [hframe]) _
  refine (State.beside_firstAnswer ..).still.engine ?_
  generalize s.firstTaken b sl.exch e = u at *
  obtain ⟨hreturned, hlost⟩ := RecordAgrees.answered e hseats
  cases hadmits : u.admits (.frameReturn sl.exch a) with
  | true =>
    rw [State.returnAnswer_of_admits hadmits]
    exact hbut.engine_return rfl (by rw [hn]; exact hreturned)
  | false =>
    rw [State.returnAnswer_of_full hadmits]
    have hdropped := (State.Still.release u a).trans (.count _ .returnsLost)
    refine (hbut.stillSelf hdropped).engine_setRecord ?_
    rw [hdropped.returns_eq, hn, funext (hdropped.seats _)]
    exact hlost

/-! ### Openings (R29, R56) -/

/-- An item of exchange `x` is placed in a branch queue, its record left aside. -/
theorem State.EngineBut.appendItem (hs : s.EngineBut x s.returns s.doing) (b : BranchId) {i : BranchItem}
    (hi : ∀ y, y ≠ x → i.kind ≠ .request y ∧ i.kind ≠ .probe y) :
    (s.appendItem b i).EngineBut x (s.appendItem b i).returns (s.appendItem b i).doing where
  length := hs.length
  records y hy := by
    obtain ⟨hrequest, hprobe⟩ := hi y hy
    have hsame : (s.appendItem b i).seat y = s.seat y := funext fun c => by
      rw [State.seat_appendItem, if_neg hrequest, if_neg hprobe]
      exact ite_self _
    rw [hsame]
    exact hs.records y hy
  slots c := by
    obtain ⟨hslot, hholder, hlast⟩ := s.slots_appendItem b i c
    exact (hs.slots c).congr hslot hholder hlast

/-- A record is opened, and nothing of it stands anywhere yet. -/
theorem State.Engine.openRecord (hs : s.Engine) (hfree : s.record x = none) (e : Exchange) :
    (s.setRecord x (some e)).EngineBut x (s.setRecord x (some e)).returns (s.setRecord x (some e)).doing ∧
      (s.setRecord x (some e)).record x = some e ∧ (∀ c, (s.setRecord x (some e)).seat x c = .away) ∧
      (s.setRecord x (some e)).returns x = 0 := by
  obtain ⟨hseat, hn⟩ := RecordAgrees.free_iff.mp (hfree ▸ State.EngineAt.records hs x)
  refine ⟨(hs.but x).setRecord (some e), ?_, hseat, hn⟩
  rw [State.record_setRecord s x x _ (hs.but x).lt_length, if_pos rfl]

theorem State.Engine.openDirect (hs : s.Engine) (hfree : s.record x = none) {d : Direct} (hm : e.mode = .direct d)
    (hp : d.phase = .queued) (hrequest : e.request.isSome = true) {i : BranchItem} (hi : i.kind = .request x) :
    ((s.setRecord x (some e)).appendItem d.port i).Engine := by
  obtain ⟨hbut, he, hseat, hn⟩ := hs.openRecord hfree e
  generalize s.setRecord x (some e) = u at *
  refine (hbut.appendItem d.port fun y hy => ?_).engineAt ?_
  · rw [hi]
    exact ⟨fun h => hy (BranchItemKind.request.inj h).symm, nofun⟩
  · rw [show (u.appendItem d.port i).record x = some e from he]
    refine (RecordAgrees.queued_iff hm hp).mpr ⟨fun c hc => ?_, hrequest, hn, .inl ?_⟩
    · rw [State.seat_appendItem, if_neg hc, hseat]
    · rw [State.seat_appendItem, if_pos rfl, hseat, hi, if_pos rfl, if_neg nofun]
      rfl

theorem State.Engine.openDirectAt (hs : s.Engine) (hfree : s.record x = none) (f : Frame) (a : BufId) (b : BranchId)
    (window : Octet) (retries : Fin 4) (v : Bool) : (s.openDirectAt x f a b window retries v).Engine :=
  (State.Still.count _ _).engine (hs.openDirect hfree
    (d := { phase := .queued, port := b, viaLearned := v, retries := retries, attempts := 0 }) rfl rfl rfl rfl)

theorem State.seat_placeProbe (x : SlotNo) (f : Frame) (a : BufId) (set : PerBranch Bool) (s : State) (b c : BranchId) :
    (State.placeProbe x f a set s b).seat x c = if c = b ∧ branchGet set b = true then
      { s.seat x c with probes := (s.seat x c).probes + 1 } else s.seat x c := by
  unfold State.placeProbe
  cases branchGet set b with
  | false => rw [if_neg Bool.false_ne_true, if_neg (fun h => Bool.false_ne_true h.2)]
  | true =>
    simp only [if_true, and_true, State.seat_appendItem, reduceCtorEq, if_false, Nat.add_zero]

/-- A probe item stands on each branch of the set (R56). -/
theorem State.seat_placeProbes (x : SlotNo) (f : Frame) (a : BufId) (set : PerBranch Bool) (s : State) (c : BranchId) :
    (allBranches.foldl (State.placeProbe x f a set) s).seat x c = if branchGet set c = true then
      { s.seat x c with probes := (s.seat x c).probes + 1 } else s.seat x c := by
  simp only [allBranches, List.foldl_cons, List.foldl_nil, State.seat_placeProbe]
  cases c <;> simp

theorem State.EngineBut.placeProbes (hs : s.EngineBut x s.returns s.doing) (f : Frame) (a : BufId)
    (set : PerBranch Bool) (bs : List BranchId) :
    (bs.foldl (State.placeProbe x f a set) s).EngineBut x (bs.foldl (State.placeProbe x f a set) s).returns
      (bs.foldl (State.placeProbe x f a set) s).doing := by
  induction bs generalizing s with
  | nil => exact hs
  | cons b bs ih =>
    refine ih ?_
    unfold State.placeProbe
    split
    · exact hs.appendItem b fun y hy => ⟨nofun, fun h => hy (BranchItemKind.probe.inj h).symm⟩
    · exact hs

theorem State.Engine.openProbe (hs : s.Engine) (hfree : s.record x = none) {q : Probe} (hm : e.mode = .probe q)
    (hp : q.phase = .probing) (hpending : q.pending = false) (hset : setEmpty q.set = false)
    (hrequest : e.request.isSome = true) (f : Frame) (a : BufId) :
    (allBranches.foldl (State.placeProbe x f a q.set) (s.setRecord x (some e))).Engine := by
  obtain ⟨hbut, he, hseat, hn⟩ := hs.openRecord hfree e
  generalize s.setRecord x (some e) = u at *
  have hplaced := hbut.placeProbes f a q.set allBranches
  have hseats := State.seat_placeProbes x f a q.set u
  have hframe := State.placeProbes_frame x f a q.set allBranches u
  generalize allBranches.foldl (State.placeProbe x f a q.set) u = t at *
  refine hplaced.engineAt ?_
  rw [State.record_congr (s := u) (by rw [hframe]), he]
  refine (RecordAgrees.probing_iff hm hp).mpr ⟨hrequest, ?_, hpending, hset, fun c => ?_⟩
  · exact (State.returns_congr (s := u) (by rw [hframe]) (by rw [hframe]) x).trans hn
  · rw [hseats, hseat]
    split_ifs
    · exact .inl rfl
    · rfl

theorem State.Engine.openProbeAt (hs : s.Engine) (hfree : s.record x = none) (f : Frame) (a : BufId)
    {set : PerBranch Bool} (hset : setEmpty set = false) : (s.openProbeAt x f a set).Engine :=
  (State.Still.count _ _).engine (hs.openProbe hfree (q := { phase := .probing, set := set, pending := false })
    rfl rfl rfl hset rfl f a)

end Exchanges

end Sys2Proof.Machine
end

section
/-! PROOFS. Transmitters that take items and end them keep the exchange engine sound (R32 to R36, R58 to R60, R131 to
R137). -/

namespace Sys2Proof.Machine

section Lines

variable {s t u v : State} {x : SlotNo} {e : Exchange} {b : BranchId} {n : SlotNo → Nat}
  {lines : BranchId → Option (Option TxItem)}

/-! ### Ports -/

theorem doingAt_doingAt (lines : BranchId → Option (Option TxItem)) (b : BranchId) (w : Option (Option TxItem)) :
    doingAt (doingAt lines b w) b (lines b) = lines := by
  funext c
  unfold doingAt
  split_ifs with hc
  · rw [hc]
  · rfl

theorem State.doing_setPort (s : State) (b : BranchId) (X : Port) :
    (s.setPort (branchPort b) X).doing = doingAt s.doing b X.line.doing := by
  funext c
  rw [State.doing, State.port_setPort, doingAt, if_congr branchPort_injective.eq_iff rfl rfl]
  split_ifs <;> rfl

theorem State.doing_setPort_p0 (s : State) (X : Port) : (s.setPort .p0 X).doing = s.doing := by
  funext c
  rw [State.doing, State.port_setPort, if_neg (branchPort_ne_p0 c), State.doing]

theorem State.returns_setPort (s : State) (b : BranchId) (X : Port) :
    (s.setPort (branchPort b) X).returns = s.returns := by
  funext x
  rw [State.returns, State.standing, State.port_setPort, if_neg (branchPort_ne_p0 b).symm]
  rfl

theorem State.returns_setPort_p0 (s : State) (X : Port) (x : SlotNo) :
    (s.setPort .p0 X).returns x =
      (s.trunkQueue.filter (TrunkItem.isReturnOf x)).length + X.line.sendsTrunk (TrunkItem.isReturnOf x) := by
  rw [State.returns, State.standing, State.port_setPort, if_pos rfl]
  rfl

theorem Live.doing_eq {l : Live} : (Line.active l).doing = some (l.tx.current?.map (·.item)) := rfl

theorem State.EngineAt.setBranch (hs : s.EngineAt n lines) {B : Branch} (w : Option (Option TxItem))
    (hseat : ∀ y, B.seat y = (s.branch b).seat y) (hslot : SlotAgrees B w) :
    (s.setBranch b B).EngineAt n (doingAt lines b w) := by
  refine ((hs.but 0).setBranch w (fun y _ => hseat y) hslot).engineAt ?_
  have hsame : (s.setBranch b B).seat 0 = s.seat 0 := funext fun c => by
    rw [State.seat_setBranch]
    split_ifs with hc
    · rw [hseat, hc, State.seat]
    · rfl
  rw [hsame]
  exact hs.records 0

/-- A branch line changes, and the engine has followed it. -/
theorem State.EngineAt.engine_setPort {X : Port} (hs : s.EngineAt s.returns (doingAt s.doing b X.line.doing)) :
    (s.setPort (branchPort b) X).Engine :=
  hs.engine rfl rfl (fun x => by rw [State.returns_setPort]) (fun c => by rw [State.doing_setPort])

/-- The line of a branch changes to one that agrees with its slot. -/
theorem State.Engine.setPort (hs : s.Engine) {X : Port} (hslot : SlotAgrees (s.branch b) X.line.doing) :
    (s.setPort (branchPort b) X).Engine := by
  refine State.EngineAt.engine_setPort ⟨State.EngineAt.length hs, State.EngineAt.records hs, fun c => ?_⟩
  unfold doingAt
  split_ifs with hc
  · rw [hc]
    exact hslot
  · exact hs.slot c

/-- The line of the trunk changes, and so does its queue, and the same returns stand. -/
theorem State.EngineAt.engine_setTrunk {X : Port} {q : List TrunkItem} (hs : s.EngineAt n s.doing)
    (hn : ∀ x, n x = (q.filter (TrunkItem.isReturnOf x)).length + X.line.sendsTrunk (TrunkItem.isReturnOf x)) :
    (State.setPort { s with trunkQueue := q } .p0 X).Engine :=
  hs.engine rfl rfl (fun x => (State.returns_setPort_p0 ..).trans (hn x).symm)
    (fun c => by rw [State.doing_setPort_p0]; rfl)

/-- A port that is not ACTIVE becomes it. -/
theorem State.Engine.wake (hs : s.Engine) {p : PortId} (h : (s.port p).line.live? = none) (now : Nat) :
    (s.setLive p (.fresh now)).Engine := by
  rcases portId_cases p with rfl | ⟨b, rfl⟩
  · refine State.EngineAt.engine_setTrunk (q := s.trunkQueue) hs fun x => ?_
    rw [State.returns, State.standing, Line.sendsTrunk_eq_of_doing (s.port .p0).line, Line.doing, h]
    rfl
  · refine hs.setPort ?_
    obtain ⟨hslot, -, -⟩ := (hs.slot b).down (by rw [State.doing, Line.doing, h]; rfl)
    exact .free hslot nofun nofun

/-! ### A transmitter takes an item -/

theorem State.EngineAt.take {i : TxItem} (hs : u.EngineAt u.returns (doingAt u.doing b (some (some i)))) (l : Live) :
    (u.take (branchPort b) l i).Engine := by
  obtain ⟨m, hm, h⟩ := State.take_eq u (branchPort b) l i
  have hset : (u.setLive (branchPort b) m).Engine := State.EngineAt.engine_setPort (by
    show u.EngineAt u.returns (doingAt u.doing b (Line.active m).doing)
    rw [Live.doing_eq, hm]
    exact hs)
  rcases h with h | h <;> rw [h]
  · exact (State.Still.endEarly (State.live?_setLive ..) rfl).engine hset
  · exact hset

theorem State.Engine.takeTrunk (hs : s.Engine) {l : Live} (hl : s.live? .p0 = some l) (hidle : l.tx = .idle) :
    (s.takeTrunk l).Engine := by
  unfold State.takeTrunk
  split
  · exact hs
  · rename_i i rest hq
    obtain ⟨m, hm, h⟩ := State.take_eq { s with trunkQueue := rest } .p0 l (.trunk i)
    have hset : (State.setLive { s with trunkQueue := rest } .p0 m).Engine := by
      refine State.EngineAt.engine_setTrunk hs fun x => ?_
      have hline : (Line.active m).sendsTrunk (TrunkItem.isReturnOf x) = if i.isReturnOf x then 1 else 0 := by
        rw [Line.sendsTrunk_eq_of_doing, Live.doing_eq, hm]
        rfl
      have hold : (s.port .p0).line.sendsTrunk (TrunkItem.isReturnOf x) = 0 := by
        rw [State.line_of_live? hl, Line.sendsTrunk_eq_of_doing, Live.doing_eq, hidle]
        rfl
      rw [State.returns, State.standing, hold, hq, List.filter_cons]
      refine Eq.trans ?_ (congrArg (_ + ·) hline.symm)
      split_ifs <;> rfl
    rcases h with h | h <;> rw [h]
    · exact (State.Still.endEarly (State.live?_setLive ..) rfl).engine hset
    · exact hset

/-- The slot of an item that is being sent (R32, R33, R58). -/
theorem SlotAgrees.claimed {B : Branch} {i : BranchItem} (hslot : B.slot = i.claims) (hholder : B.holder = none) :
    SlotAgrees B (some (some (.branch i))) where
  stopped sl h hd := by
    rw [hslot, BranchItem.claims] at h
    refine ⟨i, rfl, ?_⟩
    cases hk : i.kind <;> rw [hk] at h <;> cases h <;> rfl
  running sl h hd := by
    rw [hslot, BranchItem.claims] at h
    cases hk : i.kind <;> rw [hk] at h <;> cases h <;> cases hd
  holder _ := hholder
  down h := by cases h
  item := nofun

theorem State.Engine.takeHolder (hs : s.Engine) (hholder : (s.branch b).holder = some x) (l : Live) :
    (s.takeHolder b x l).Engine := by
  unfold State.takeHolder
  split
  · exact hs
  · rename_i e he
    split
    · rename_i d buf hm hbuf
      have hagrees := hs.record he
      obtain ⟨hseat, f, w, hf, hw, hport, hphase⟩ := hagrees.of_repeats (State.holder_eq_iff.mp hholder)
      cases hf
      rw [hm] at hw
      cases hw
      obtain ⟨hother, hn⟩ := hagrees.of_direct hm (by rw [hphase]; exact nofun)
      obtain ⟨hslot, -⟩ := hs.freeHolder hholder
      have hsame : ∀ y, y ≠ x → Branch.seat { s.branch b with
          holder := none, slot := some { exch := x, kind := .request, deadline := none } } y = (s.branch b).seat y :=
        fun y hy => Branch.seat_of_ne hy (fun sl h => by rw [hslot] at h; cases h) (fun sl h => by cases h; rfl)
          (by rw [hholder]; simp [hy.symm]) rfl rfl
      have hbut := ((hs.but x).setRecord (some { e with mode := .direct { d with phase := .queued } })).setBranch
        (b := b)
        (B := { s.branch b with holder := none, slot := some { exch := x, kind := .request, deadline := none } })
        (some (some (.branch { kind := .request x, urgent := e.urgent, buf := buf })))
        hsame (SlotAgrees.claimed (i := { kind := .request x, urgent := e.urgent, buf := buf }) rfl rfl)
      have hall := hbut.engineAt (by
        rw [State.record_setBranch, State.record_setRecord s x x _ (hs.but x).lt_length, if_pos rfl]
        refine (RecordAgrees.queued_iff rfl rfl).mpr ⟨fun c hc => ?_, by rw [hbuf]; rfl, hn, .inr ?_⟩
        · rw [State.seat_setBranch, if_neg (hport ▸ hc)]
          exact hother c hc
        · rw [State.seat_setBranch, if_pos hport]
          show ({ s.seat x b with held := Slot.heldFor x _, repeats := false } : Seat) = _
          rw [hseat, Slot.heldFor, if_pos rfl]
          rfl)
      have heq : ((s.setRecord x (some { e with mode := .direct { d with phase := .queued } })).setHolder b none).setSlot b
          (some { exch := x, kind := .request, deadline := none }) =
          (s.setRecord x (some { e with mode := .direct { d with phase := .queued } })).setBranch b
            { s.branch b with holder := none, slot := some { exch := x, kind := .request, deadline := none } } := by
        cases b <;> rfl
      rw [heq]
      refine State.EngineAt.take ?_ l
      exact hall.of_eq rfl rfl
    · exact hs
    · exact hs

theorem kindCount_cons (k : BranchItemKind) (i : BranchItem) (q : List BranchItem) :
    kindCount k (i :: q) = kindCount k q + if i.kind = k then 1 else 0 := by
  unfold kindCount
  rw [List.filter_cons]
  by_cases h : i.kind = k <;> simp [h]

/-- The seat of exchange `y` on a branch that takes the head of its queue (R32, R58). -/
theorem Branch.seat_takes {B : Branch} {i : BranchItem} {rest : List BranchItem} (hq : B.queue = i :: rest)
    (hslot : B.slot = none) (y : SlotNo) :
    B.seat y = { Branch.seat { B with queue := rest, slot := i.claims } y with
      held := none
      requests := kindCount (.request y) rest + if i.kind = .request y then 1 else 0
      probes := kindCount (.probe y) rest + if i.kind = .probe y then 1 else 0 } := by
  refine Seat.ext ?_ rfl ?_ ?_
  · rw [Branch.seat, hslot]
    rfl
  · rw [Branch.seat, hq]
    exact kindCount_cons ..
  · rw [Branch.seat, hq]
    exact kindCount_cons ..

theorem BranchItem.heldFor_claims (i : BranchItem) (y : SlotNo) : i.claims.bind (Slot.heldFor y) =
    if i.kind = .request y then some (.request, false) else if i.kind = .probe y then some (.probe, false) else none := by
  unfold BranchItem.claims Slot.heldFor
  cases i.kind <;> simp

/-- The seats that the head of a queue leaves as they are when it is taken. -/
theorem Branch.seat_takes_other {B : Branch} {i : BranchItem} {rest : List BranchItem} (hq : B.queue = i :: rest)
    (hslot : B.slot = none) {y : SlotNo} (hrequest : i.kind ≠ .request y) (hprobe : i.kind ≠ .probe y) :
    Branch.seat { B with queue := rest, slot := i.claims } y = B.seat y := by
  rw [Branch.seat_takes hq hslot, if_neg hrequest, if_neg hprobe]
  exact Seat.ext ((i.heldFor_claims y).trans (by rw [if_neg hrequest, if_neg hprobe])) rfl rfl rfl

/-- What the head of a queue that is taken leaves of its exchange on the branch (R32, R58). -/
theorem State.Engine.seat_takes (hs : s.Engine) {i : BranchItem} {rest : List BranchItem}
    (hq : (s.branch b).queue = i :: rest) (hslot : (s.branch b).slot = none) :
    (∀ x, i.kind = .request x → Branch.seat { s.branch b with queue := rest, slot := i.claims } x =
      .holds .request false ∧ ∃ e d, s.record x = some e ∧ e.mode = .direct d ∧ d.port = b ∧ d.phase = .queued) ∧
    (∀ x, i.kind = .probe x → Branch.seat { s.branch b with queue := rest, slot := i.claims } x =
      .holds .probe false ∧ ∃ e q, s.record x = some e ∧ e.mode = .probe q ∧ q.phase = .probing ∧
        branchGet q.set b = true) := by
  have hold := Branch.seat_takes hq hslot
  have hheld := i.heldFor_claims
  constructor
  · intro x hx
    have h := hold x
    rw [hx, if_pos rfl, if_neg nofun] at h
    have hheld := hheld x
    rw [hx, if_pos rfl] at hheld
    obtain ⟨hseat, hrecord⟩ := (State.EngineAt.records hs x).of_requests (b := b) (by
      show 1 ≤ ((s.branch b).seat x).requests
      rw [h]
      exact Nat.le_add_left ..)
    rw [State.seat, h] at hseat
    obtain ⟨-, hrep, hreq, hprobe⟩ := Seat.eq_iff.mp hseat
    exact ⟨Seat.ext hheld hrep (Nat.add_right_cancel (hreq.trans (Nat.zero_add 1).symm)) hprobe, hrecord⟩
  · intro x hx
    have h := hold x
    rw [hx, if_neg nofun, if_pos rfl] at h
    have hheld := hheld x
    rw [hx, if_neg nofun, if_pos rfl] at hheld
    obtain ⟨hseat, hrecord⟩ := (State.EngineAt.records hs x).of_probes (b := b) (by
      show 1 ≤ ((s.branch b).seat x).probes
      rw [h]
      exact Nat.le_add_left ..)
    rw [State.seat, h] at hseat
    obtain ⟨-, hrep, hreq, hprobe⟩ := Seat.eq_iff.mp hseat
    exact ⟨Seat.ext hheld hrep hreq (Nat.add_right_cancel (hprobe.trans (Nat.zero_add 1).symm)), hrecord⟩

theorem State.Engine.takeBranch (hs : s.Engine) (hslot : (s.branch b).slot = none) (hholder : (s.branch b).holder = none)
    (l : Live) : (s.takeBranch b l).Engine := by
  unfold State.takeBranch
  split
  · exact hs
  · rename_i i rest hq
    have heq : (s.setQueue b rest).setSlot b i.claims =
        s.setBranch b { s.branch b with queue := rest, slot := i.claims } := by cases b <;> rfl
    have hclaims : SlotAgrees { s.branch b with queue := rest, slot := i.claims } (some (some (.branch i))) :=
      .claimed rfl hholder
    have hother := fun y => Branch.seat_takes_other (y := y) hq hslot
    obtain ⟨hrequest, hprobe⟩ := hs.seat_takes hq hslot
    rw [heq]
    refine State.EngineAt.take ?_ l
    generalize hB : ({ s.branch b with queue := rest, slot := i.claims } : Branch) = B at *
    cases hk : i.kind with
    | notice =>
      exact State.EngineAt.setBranch hs _ (fun y => hother y (by rw [hk]; exact nofun) (by rw [hk]; exact nofun)) hclaims
    | request x =>
      obtain ⟨hseat, e, d, he, hm, hport, hphase⟩ := hrequest x hk
      obtain ⟨hoff, hreq, hn, -⟩ := (RecordAgrees.queued_iff hm hphase).mp (hs.record he)
      refine ((hs.but x).setBranch _ (fun y hy => hother y ?_ (by rw [hk]; exact nofun)) hclaims).engineAt ?_
      · rw [hk]
        exact fun h => hy (BranchItemKind.request.inj h).symm
      · rw [State.record_setBranch, he]
        refine (RecordAgrees.queued_iff hm hphase).mpr ⟨fun c hc => ?_, hreq, hn, .inr ?_⟩
        · rw [State.seat_setBranch, if_neg (hport ▸ hc)]
          exact hoff c hc
        · rw [State.seat_setBranch, if_pos hport]
          exact hseat
    | probe x =>
      obtain ⟨hseat, e, q, he, hm, hphase, hin⟩ := hprobe x hk
      obtain ⟨hreq, hn, hpending, hset, hseats⟩ := (RecordAgrees.probing_iff hm hphase).mp (hs.record he)
      refine ((hs.but x).setBranch _ (fun y hy => hother y (by rw [hk]; exact nofun) ?_) hclaims).engineAt ?_
      · rw [hk]
        exact fun h => hy (BranchItemKind.probe.inj h).symm
      · rw [State.record_setBranch, he]
        refine (RecordAgrees.probing_iff hm hphase).mpr ⟨hreq, hn, hpending, hset, fun c => ?_⟩
        rw [State.seat_setBranch]
        by_cases hc : c = b
        · rw [if_pos (hc ▸ hin), if_pos hc]
          exact .inr ⟨false, hseat⟩
        · rw [if_neg hc]
          exact hseats c

theorem State.Engine.takeItem (hs : s.Engine) (p : PortId) : (s.takeItem p).Engine := by
  rcases State.takeItem_cases s p with h | ⟨l, -, hl, hidle, h⟩ | ⟨b, l, x, -, -, -, -, hholder, h⟩ |
    ⟨b, l, -, -, -, hslot, hholder, h⟩ <;> rw [h]
  · exact hs
  · exact hs.takeTrunk hl hidle
  · exact hs.takeHolder hholder l
  · exact hs.takeBranch hslot hholder l

/-! ### The end of a branch item (R34, R35, R36, R59, R60) -/

/-- A slot whose deadline is stopped is held for the item that is being sent. -/
theorem SlotAgrees.sends {B : Branch} {i : BranchItem} (h : SlotAgrees B (some (some (.branch i)))) :
    B.slot = none ∨ ∃ sl, B.slot = some sl ∧ sl.deadline = none ∧ i.kind = sl.itemKind ∧ B.holder = none := by
  cases hs : B.slot with
  | none => exact .inl rfl
  | some sl =>
    refine .inr ⟨sl, rfl, ?_⟩
    have hholder := h.holder (by rw [hs]; rfl)
    cases hd : sl.deadline with
    | none =>
      obtain ⟨j, hj, hkind⟩ := h.stopped sl hs hd
      cases hj
      exact ⟨rfl, hkind, hholder⟩
    | some start =>
      have := h.running sl hs (by rw [hd]; rfl)
      cases this

theorem State.slotHeldBy_of_slot {sl : Slot} (h : (s.branch b).slot = some sl) (y : SlotNo) (k : SlotKind) :
    s.slotHeldBy b y k = (decide (sl.exch = y) && decide (sl.kind = k)) := by
  rw [State.slotHeldBy, h]

theorem State.branchSent_of_free (h : (s.branch b).slot = none) (i : BranchItem) : s.branchSent b i = s := by
  have hheld : ∀ y k, s.slotHeldBy b y k = false := fun y k => by rw [State.slotHeldBy, h]
  unfold State.branchSent
  split <;> simp [hheld]

theorem State.branchAbandoned_of_free (h : (s.branch b).slot = none) (i : BranchItem) : s.branchAbandoned b i = s := by
  have hheld : ∀ y k, s.slotHeldBy b y k = false := fun y k => by rw [State.slotHeldBy, h]
  unfold State.branchAbandoned
  split <;> simp [hheld]

theorem State.seat_startSlot (s : State) (b : BranchId) (x : SlotNo) (k : SlotKind) (start : Nat) (c : BranchId) :
    (s.setSlot b (some { exch := x, kind := k, deadline := some start })).seat x c =
      if c = b then { s.seat x b with held := some (k, true) } else s.seat x c := by
  rw [State.setSlot, State.seat_setBranch]
  split_ifs
  · refine Seat.ext ?_ rfl rfl rfl
    show Slot.heldFor x _ = _
    rw [Slot.heldFor, if_pos rfl]
    rfl
  · rfl

/-- The deadline of a probe starts, or stops (R59). -/
theorem RecordAgrees.started {seat seat' : BranchId → Seat} {m : Nat}
    (h : RecordAgrees (some e) seat m) {q : Probe} (hm : e.mode = .probe q) (hin : branchGet q.set b = true)
    {run : Bool} (hb' : seat' b = .holds .probe run)
    (hother : ∀ c, c ≠ b → seat' c = seat c) : RecordAgrees (some e) seat' m := by
  cases hp : q.phase with
  | probing =>
    obtain ⟨hreq, hn, hpending, hset, hseats⟩ := (RecordAgrees.probing_iff hm hp).mp h
    refine (RecordAgrees.probing_iff hm hp).mpr ⟨hreq, hn, hpending, hset, fun c => ?_⟩
    by_cases hc : c = b
    · rw [hc, if_pos hin]
      exact .inr ⟨run, hb'⟩
    · rw [hother c hc]
      exact hseats c
  | settling =>
    obtain ⟨hreq, hn, hend, hseats⟩ := (RecordAgrees.settling_iff hm hp).mp h
    refine (RecordAgrees.settling_iff hm hp).mpr ⟨hreq, hn, hend, fun c => ?_⟩
    by_cases hc : c = b
    · rw [hc, if_pos hin]
      exact ⟨run, hb'⟩
    · rw [hother c hc]
      exact hseats c

/-- The item `i` has left the transmitter of branch `b`, and its owner has not been told. -/
structure State.EngineAfter (s : State) (b : BranchId) (i : BranchItem) : Prop where
  engineAt : s.EngineAt s.returns (doingAt s.doing b (some (some (.branch i))))
  idle : s.doing b = some none

namespace State.EngineAfter

variable {i : BranchItem} {sl : Slot}

theorem still (hs : s.EngineAfter b i) (h : s.Still t) : t.EngineAfter b i where
  engineAt := by
    rw [funext h.returns_eq, funext h.doing_eq]
    exact h.engineAt hs.engineAt
  idle := (h.doing_eq b).trans hs.idle

theorem slot (hs : s.EngineAfter b i) : SlotAgrees (s.branch b) (some (some (.branch i))) := by
  have := hs.engineAt.slots b
  rwa [doingAt_same] at this

/-- The slot was not held for the item (R101). -/
theorem engine_of_free (hs : s.EngineAfter b i) (hslot : (s.branch b).slot = none) : s.Engine where
  length := hs.engineAt.length
  records := hs.engineAt.records
  slots c := by
    have := hs.engineAt.slots c
    unfold doingAt at this
    split_ifs at this with hc
    · rw [hc, hs.idle]
      exact .free hslot nofun nofun
    · exact this

/-- The slot of the item is freed, or its deadline starts, its exchange left aside. -/
theorem setSlot (hs : s.EngineAfter b i) (hslot : (s.branch b).slot = some sl) (hholder : (s.branch b).holder = none)
    {v : Option Slot} (hv : ∀ w, v = some w → w.exch = sl.exch ∧ w.deadline.isSome = true) :
    (s.setSlot b v).EngineBut sl.exch (s.setSlot b v).returns (s.setSlot b v).doing := by
  have hset := (hs.engineAt.but sl.exch).setBranch (b := b) (B := { s.branch b with slot := v }) (s.doing b)
    (fun y hy => Branch.seat_of_ne hy (fun w hw => by rw [hslot] at hw; cases hw; rfl) (fun w hw => (hv w hw).1) Iff.rfl
      rfl rfl) (by
    rw [hs.idle]
    refine ⟨fun w hw hd => ?_, fun _ _ _ => rfl, fun _ => hholder, nofun, nofun⟩
    have := (hv w hw).2
    rw [hd] at this
    cases this)
  rwa [doingAt_doingAt] at hset

theorem record (hs : s.EngineAfter b i) (he : s.record x = some e) : RecordAgrees (some e) (s.seat x) (s.returns x) :=
  he ▸ hs.engineAt.records x

/-- What the slot of the item says of its exchange. -/
theorem held (hs : s.EngineAfter b i) (hslot : (s.branch b).slot = some sl) (hd : sl.deadline = none) :
    (sl.kind = .request ∧ s.seat sl.exch b = .holds .request false ∧
      ∃ e d, s.record sl.exch = some e ∧ e.mode = .direct d ∧ d.port = b ∧ d.phase = .queued) ∨
    (sl.kind = .probe ∧ s.seat sl.exch b = .holds .probe false ∧
      ∃ e q, s.record sl.exch = some e ∧ e.mode = .probe q ∧ branchGet q.set b = true) := by
  have hheld := State.held_of_slot hslot
  rw [hd] at hheld
  cases hk : sl.kind with
  | request =>
    rw [hk] at hheld
    obtain ⟨hseat, hrecord⟩ := (hs.engineAt.records sl.exch).of_held_request hheld
    exact .inl ⟨rfl, hseat, hrecord⟩
  | probe =>
    rw [hk] at hheld
    obtain ⟨hseat, hrecord⟩ := (hs.engineAt.records sl.exch).of_held_probe hheld
    exact .inr ⟨rfl, hseat, hrecord⟩

theorem branchSent (hs : s.EngineAfter b i) : (s.branchSent b i).Engine := by
  rcases hs.slot.sends with hslot | ⟨sl, hslot, hd, hkind, hholder⟩
  · rw [State.branchSent_of_free hslot]
    exact hs.engine_of_free hslot
  · have hstarted := hs.setSlot hslot hholder (v := some { exch := sl.exch, kind := sl.kind, deadline := some s.now })
      (fun w hw => by cases hw; exact ⟨rfl, rfl⟩)
    have hseats := s.seat_startSlot b sl.exch sl.kind s.now
    rw [Slot.itemKind] at hkind
    rcases hs.held hslot hd with ⟨hk, hseat, e, d, he, hm, hport, hphase⟩ | ⟨hk, hseat, e, q, he, hm, hin⟩
    · have hrun : s.branchSent b i = (s.setSlot b (some { exch := sl.exch, kind := sl.kind, deadline := some s.now
          })).setRecord sl.exch (some (e.sent d)) := by
        rw [hk] at hkind
        simp [State.branchSent, hkind, State.slotHeldBy_of_slot hslot, hk, he, hm, hphase, State.startDeadline]
        rfl
      obtain ⟨hoff, hreq, hn, -⟩ := (RecordAgrees.queued_iff hm hphase).mp (hs.record he)
      rw [hrun]
      refine hstarted.engine_setRecord ((RecordAgrees.awaiting_iff rfl rfl).mpr ⟨fun c hc => ?_, hreq, hn, ?_⟩)
      · rw [hseats, if_neg (hport ▸ hc)]
        exact hoff c hc
      · rw [hseats, if_pos hport, hseat, hk]
        rfl
    · have hrun : s.branchSent b i = s.setSlot b (some { exch := sl.exch, kind := sl.kind, deadline := some s.now }) := by
        rw [hk] at hkind
        simp [State.branchSent, hkind, State.slotHeldBy_of_slot hslot, hk, State.startDeadline]
      rw [hrun]
      refine hstarted.engineAt ?_
      have hrecord : (s.setSlot b (some { exch := sl.exch, kind := sl.kind, deadline := some s.now })).record sl.exch =
        some e := he
      rw [hrecord]
      refine (hs.record he).started hm hin (run := true) ?_ fun c hc => ?_
      · rw [hseats, if_pos rfl, hseat, hk]
        rfl
      · rw [hseats, if_neg hc]

theorem branchAbandoned (hs : s.EngineAfter b i) : (s.branchAbandoned b i).Engine := by
  rcases hs.slot.sends with hslot | ⟨sl, hslot, hd, hkind, hholder⟩
  · rw [State.branchAbandoned_of_free hslot]
    exact hs.engine_of_free hslot
  · have hfreed := hs.setSlot hslot hholder (v := none) nofun
    rw [Slot.itemKind] at hkind
    rcases hs.held hslot hd with ⟨hk, hseat, e, d, he, hm, hport, hphase⟩ | ⟨hk, hseat, e, q, he, hm, hin⟩
    · obtain ⟨haway, hkept⟩ := State.seat_freeSlot hseat
      obtain ⟨hoff, -, hn, -⟩ := (RecordAgrees.queued_iff hm hphase).mp (hs.record he)
      have hrun : s.branchAbandoned b i = (s.setSlot b none).refuse sl.exch e d .contention := by
        rw [hk] at hkind
        simp [State.branchAbandoned, hkind, State.slotHeldBy_of_slot hslot, hk, he, hm, hphase]
      rw [hrun]
      refine hfreed.refuse (fun c => ?_) hn e d _
      by_cases hc : c = b
      · rw [hc]
        exact haway
      · exact (hkept c hc).trans (hoff c (hport ▸ hc))
    · obtain ⟨haway, hkept⟩ := State.seat_freeSlot hseat
      have hrun : s.branchAbandoned b i = (s.setSlot b none).loseBranch sl.exch e q b := by
        rw [hk] at hkind
        simp [State.branchAbandoned, hkind, State.slotHeldBy_of_slot hslot, hk, he, hm]
      rw [hrun]
      exact hfreed.loseBranch ((hs.record he).without hm haway hkept)

end State.EngineAfter

/-! ### The end of a trunk item (R43, R44, R68, R155, R180) -/

theorem State.returnDone_eq (h : s.records.length = 16) (x : SlotNo) :
    s.returnDone x = s.setRecord x ((s.record x).bind Exchange.afterReturn) := by
  have hx : x.val < s.records.length := x.isLt.trans_eq h.symm
  unfold State.returnDone
  cases he : s.record x with
  | none => exact (he ▸ State.setRecord_self hx).symm
  | some e =>
    dsimp only
    rw [Option.bind_some]
    cases hm : e.mode with
    | direct d => rw [Exchange.afterReturn_of_direct hm]
    | probe q =>
      rw [Exchange.afterReturn_of_probe hm]
      dsimp only
      rw [State.settle_eq]
      simp only [and_true]

/-- The return of exchange `x` has left the trunk, and its exchange has not been told. -/
theorem State.EngineAt.returnDone (hs : s.EngineAt n s.doing) (hn : ∀ y, n y = s.returns y + if y = x then 1 else 0) :
    (s.returnDone x).Engine := by
  have hx := hn x
  rw [if_pos rfl] at hx
  have hagrees := hs.records x
  have hle := hagrees.le_one
  have hnone : s.returns x = 0 := by omega
  rw [hx, hnone] at hagrees
  rw [State.returnDone_eq hs.length]
  refine ((hs.but x).returns fun y hy => ?_).engine_setRecord ?_
  · rw [hn, if_neg hy, Nat.add_zero]
  · rw [hnone]
    exact hagrees.afterReturn

/-- The item `i` has left the trunk, and its owner has not been told. -/
def State.EngineAfterTrunk (s : State) (i : TrunkItem) : Prop :=
  s.EngineAt (fun y => s.returns y + if i.isReturnOf y then 1 else 0) s.doing

namespace State.EngineAfterTrunk

variable {i : TrunkItem}

theorem still (hs : s.EngineAfterTrunk i) (h : s.Still t) : t.EngineAfterTrunk i := by
  unfold State.EngineAfterTrunk
  rw [funext h.doing_eq]
  simp only [h.returns_eq]
  exact h.engineAt hs

theorem returnDone (hs : s.EngineAfterTrunk i) (hi : i.returns = some x) : (s.returnDone x).Engine :=
  State.EngineAt.returnDone hs fun y => by simp [TrunkItem.isReturnOf_eq, hi, eq_comm]

theorem engine_of_other (hs : s.EngineAfterTrunk i) (hi : i.returns = none) : s.Engine := by
  have hnone : ∀ y, (s.returns y + if i.isReturnOf y then 1 else 0) = s.returns y := fun y => by
    simp [TrunkItem.isReturnOf_eq, hi]
  unfold State.EngineAfterTrunk at hs
  rwa [funext hnone] at hs

theorem responseEnds (hs : s.Engine) (straps : Straps) :
    (State.settleRestart { s with mgmt := { s.mgmt with phase := .idle } } straps).Engine :=
  State.Engine.settleRestart
    (State.Still.engine (s := s) (t := { s with mgmt := { s.mgmt with phase := .idle } }) (.of_eq rfl rfl rfl rfl) hs) straps

theorem trunkSent (hs : s.EngineAfterTrunk i) (straps : Straps) : (s.trunkSent straps i).Engine := by
  cases i with
  | frameReturn x b => exact hs.returnDone rfl
  | refusalReturn x r => exact hs.returnDone rfl
  | response => exact responseEnds (hs.engine_of_other rfl) straps
  | alert a => exact (State.Still.alertSent s a).engine (hs.engine_of_other rfl)
  | busy r => exact hs.engine_of_other rfl
  | immediate r => exact hs.engine_of_other rfl
  | passUp b => exact hs.engine_of_other rfl

theorem trunkAbandoned (hs : s.EngineAfterTrunk i) (straps : Straps) : (s.trunkAbandoned straps i).Engine := by
  cases i with
  | frameReturn x b => exact (State.Still.count ..).engine (hs.returnDone rfl)
  | refusalReturn x r => exact (State.Still.count ..).engine (hs.returnDone rfl)
  | response => exact responseEnds (hs.engine_of_other rfl) straps
  | alert a => exact (State.Still.alertLost s).engine (hs.engine_of_other rfl)
  | busy r => exact hs.engine_of_other rfl
  | immediate r => exact hs.engine_of_other rfl
  | passUp b => exact hs.engine_of_other rfl

end State.EngineAfterTrunk

/-! ### The end of the current item (R136, R137) -/

theorem State.Engine.idleTrunk (hs : s.Engine) {l m : Live} {c : Current} {i : TrunkItem} (h : s.live? .p0 = some l)
    (hc : l.tx.current? = some c) (hi : c.item = .trunk i) (hm : m.tx = .idle) :
    (s.setLive .p0 m).EngineAfterTrunk i := by
  have hreturns : ∀ y, s.returns y = (s.setLive .p0 m).returns y + if i.isReturnOf y then 1 else 0 := fun y => by
    rw [State.setLive, State.setLine, State.returns_setPort_p0, State.returns, State.standing, State.line_of_live? h,
      Line.sendsTrunk_eq_of_doing, Live.doing_eq, hc, Line.sendsTrunk_eq_of_doing, Live.doing_eq, hm]
    simp [hi, Tx.current?]
  unfold State.EngineAfterTrunk
  rw [← funext hreturns, State.setLive, State.setLine, State.doing_setPort_p0]
  exact State.EngineAt.of_eq (s := s) hs rfl rfl

theorem State.Engine.idleBranch (hs : s.Engine) {l m : Live} {c : Current} (h : s.live? (branchPort b) = some l)
    (hc : l.tx.current? = some c) (hm : m.tx = .idle) :
    ∃ i, c.item = .branch i ∧ (s.setLive (branchPort b) m).EngineAfter b i := by
  have hdoing : s.doing b = some (some c.item) := by rw [State.doing_of_live h, hc]; rfl
  cases hi : c.item with
  | trunk i => exact absurd (hi ▸ hdoing) ((hs.slot b).item i)
  | branch i =>
    have hidle : (Line.active m).doing = some none := by rw [Live.doing_eq, hm]; rfl
    refine ⟨i, rfl, ?_, ?_⟩
    · rw [State.setLive, State.setLine, State.returns_setPort, State.doing_setPort]
      have hsame : doingAt (doingAt s.doing b (Line.active m).doing) b (some (some (.branch i))) = s.doing := by
        rw [← hi, ← hdoing]
        funext d
        unfold doingAt
        split_ifs with hd
        · rw [hd]
        · rfl
      rw [hsame]
      exact State.EngineAt.of_eq (s := s) hs rfl rfl
    · rw [State.setLive, State.setLine, State.doing_setPort, doingAt_same]
      exact hidle

/-- The current item of a port has ended, sent or abandoned: the port is IDLE, counters have counted, the buffer is
released, and the owner is told. -/
theorem State.Engine.itemEnds (hs : s.Engine) {p : PortId} {l m : Live} {c : Current} (h : s.live? p = some l)
    (hc : l.tx.current? = some c) (hm : m.tx = .idle) (hv : (s.setLive p m).Still v) (straps : Straps) :
    (v.ownerSent p straps c.item).Engine ∧ (v.ownerAbandoned p straps c.item).Engine := by
  rcases portId_cases p with rfl | ⟨b, rfl⟩
  · cases hi : c.item with
    | trunk i =>
      have hafter := (hs.idleTrunk h hc hi hm).still hv
      exact ⟨hafter.trunkSent straps, hafter.trunkAbandoned straps⟩
    | branch i =>
      have hset : (s.setLive .p0 m).Engine := by
        refine State.EngineAt.engine_setTrunk (q := s.trunkQueue) hs fun x => ?_
        rw [State.returns, State.standing, State.line_of_live? h, Line.sendsTrunk_eq_of_doing, Live.doing_eq, hc]
        show _ = _ + (Line.active m).sendsTrunk _
        rw [Line.sendsTrunk_eq_of_doing, Live.doing_eq, hm]
        simp [hi, Tx.current?]
      exact ⟨hv.engine hset, hv.engine hset⟩
  · obtain ⟨i, hi, hafter⟩ := hs.idleBranch h hc hm
    have hv' := hafter.still hv
    rw [hi, State.ownerSent, State.ownerAbandoned]
    simp only [portBranch_branchPort]
    exact ⟨hv'.branchSent, hv'.branchAbandoned⟩

theorem State.Engine.contended (hs : s.Engine) {p : PortId} {l : Live} {c : Current} (h : s.live? p = some l)
    (hc : l.tx.current? = some c) (back : ReadBack) (first : Bool) (straps : Straps) :
    (s.contended p l c back first straps).Engine := by
  unfold State.contended
  dsimp only
  split
  · refine ((State.Still.setLive h ?_).trans (.countPort ..)).engine hs
    rw [hc]
    rfl
  · exact (hs.itemEnds h hc rfl (((State.Still.countPort ..).trans (.countPort ..)).trans (.releaseOpt ..)) straps).2

theorem State.Engine.completed (hs : s.Engine) {p : PortId} {l : Live} {c : Current} (h : s.live? p = some l)
    (hc : l.tx.current? = some c) (high : Nat) (straps : Straps) : (s.completed p l c high straps).Engine :=
  (hs.itemEnds h hc rfl ((State.Still.countPort ..).trans (.releaseOpt ..)) straps).1

end Lines

end Sys2Proof.Machine
end

section
/-! PROOFS. Teardown of a branch, FLUSH, and teardown of the trunk keep the exchange engine sound (R45, R46, R48, R70, R71,
R110). -/

namespace Sys2Proof.Machine

section Down

variable {s t u : State} {w : Sweep} {up : Bool} {b : BranchId}

/-! ### Room for the refusals (R106) -/

theorem classCount_exchange_eq (q : List TrunkItem) :
    classCount q .exchange = (q.filter (fun i => i.returns.isSome)).length := by
  refine congrArg List.length (List.filter_congr fun i _ => ?_)
  cases i <;> rfl

theorem sumOver_le {α : Type} {f g : α → Nat} {l : List α} (h : ∀ a ∈ l, f a ≤ g a) : sumOver f l ≤ sumOver g l :=
  List.sum_le_sum h

theorem sumOver_add {α : Type} (f g : α → Nat) (l : List α) :
    sumOver (fun a => f a + g a) l = sumOver f l + sumOver g l := List.sum_map_add

/-- The refusal of an exchange that is not RETURNING is its one return. -/
theorem RecordAgrees.refusal_le_one {r : Option Exchange} {seat : BranchId → Seat} {n : Nat} (h : RecordAgrees r seat n)
    (hw : ∀ d, w.pick d = true → d.phase ≠ .returning) (x : SlotNo) :
    n + (if (w.refusal? x r).isSome then 1 else 0) ≤ 1 := by
  have hle := h.le_one
  cases r with
  | none => exact hle
  | some e =>
    cases hm : e.mode with
    | probe q =>
      have hnone : w.refusal? x (some e) = none := by simp [Sweep.refusal?, hm]
      rw [hnone]
      exact hle
    | direct d =>
      cases hpick : w.pick d with
      | false =>
        have hnone : w.refusal? x (some e) = none := by simp [Sweep.refusal?, hm, hpick]
        rw [hnone]
        exact hle
      | true =>
        obtain ⟨-, hn⟩ := h.of_direct hm (hw d hpick)
        split_ifs <;> omega

/-- The trunk has room for the refusals of all exchanges that are not RETURNING. -/
theorem State.Engine.room (hs : s.Engine) (hw : ∀ d, w.pick d = true → d.phase ≠ .returning) :
    classCount s.trunkQueue .exchange + (w.refusals s allSlots).length ≤ 16 := by
  have hqueue : ∀ x, (s.trunkQueue.filter (TrunkItem.isReturnOf x)).length ≤ s.returns x := fun x =>
    Nat.le_add_right ..
  have hone : sumOver (fun x => (s.trunkQueue.filter (TrunkItem.isReturnOf x)).length +
      if (w.refusal? x (s.record x)).isSome then 1 else 0) allSlots ≤ sumOver (fun _ => 1) allSlots :=
    sumOver_le fun x _ => (Nat.add_le_add_right (hqueue x) _).trans ((State.EngineAt.records hs x).refusal_le_one hw x)
  rw [sumOver_add, sum_returns, sumOver_indicator] at hone
  rw [classCount_exchange_eq, Sweep.refusals, length_filterMap_eq]
  exact hone

/-! ### After a sweep -/

theorem Sweep.returns_of_refusal {x : SlotNo} {r : Option Exchange} {i : TrunkItem} (h : w.refusal? x r = some i) :
    i.returns = some x := by
  rw [Sweep.refusal?, Option.bind_eq_some_iff] at h
  obtain ⟨e, -, he⟩ := h
  cases hm : e.mode with
  | probe q =>
    rw [hm] at he
    cases he
  | direct d =>
    rw [hm] at he
    dsimp only at he
    split_ifs at he
    cases he
    rfl

/-- A sweep sends one refusal for each record that it picks. -/
theorem Sweep.refusals_of (w : Sweep) (s : State) (x : SlotNo) :
    ((w.refusals s allSlots).filter (TrunkItem.isReturnOf x)).length =
      if (w.refusal? x (s.record x)).isSome then 1 else 0 := by
  have hpick : ∀ y, ((w.refusal? y (s.record y)).map (TrunkItem.isReturnOf x)).getD false =
      (decide (y = x) && (w.refusal? x (s.record x)).isSome) := fun y => by
    cases h : w.refusal? y (s.record y) with
    | none =>
      by_cases hy : y = x
      · subst hy
        simp [h]
      · simp [hy]
    | some i =>
      have hreturn : i.isReturnOf x = decide (y = x) := by
        rw [TrunkItem.isReturnOf_eq, Sweep.returns_of_refusal h]
        simp
      by_cases hy : y = x
      · subst hy
        simp [h, hreturn]
      · simp [hy, hreturn]
  rw [← List.countP_eq_length_filter, Sweep.refusals, List.countP_filterMap]
  simp only [hpick]
  cases (w.refusal? x (s.record x)).isSome with
  | false => simp
  | true =>
    simp only [Bool.and_true, if_true]
    exact List.count_eq_one_of_mem nodup_allSlots (mem_allSlots x)

/-- The engine after a sweep over all records, each of which agrees with its seats and its returns then. -/
theorem State.Swept.engine (h : u.Swept w up t allSlots) (hlength : u.records.length = 16)
    (hrecords : ∀ x, RecordAgrees (w.left up (u.record x)) (u.seat x)
      (u.returns x + if up && (w.refusal? x (u.record x)).isSome then 1 else 0))
    (hslots : ∀ b, SlotAgrees (u.branch b) (u.doing b)) : t.Engine := by
  have hbranches : t.branches = u.branches := by rw [h.frame]
  have hreturns : ∀ x, t.returns x = u.returns x + if up && (w.refusal? x (u.record x)).isSome then 1 else 0 := fun x => by
    rw [State.returns, State.standing, h.queue, State.port_congr h.ports, List.filter_append, List.length_append,
      State.returns, State.standing]
    cases up with
    | false => simp
    | true =>
      rw [if_pos rfl, w.refusals_of, Bool.true_and]
      omega
  refine ⟨h.length.trans hlength, fun x => ?_, fun b => ?_⟩
  · rw [h.record_all, State.seat_congr hbranches, hreturns]
    exact hrecords x
  · rw [State.branch_congr hbranches, State.doing_congr h.ports]
    exact hslots b

theorem Branch.seat_empty {B : Branch} (hs : B.slot = none) (hh : B.holder = none) (hq : B.queue = []) (x : SlotNo) :
    B.seat x = .away := by
  rw [Branch.seat, hs, hh, hq]
  rfl

theorem downSweep_pick {d : Direct} (h : (downSweep b).pick d = true) : d.phase ≠ .returning := fun hp => by
  simp [downSweep, Direct.livesOn, Direct.onBranch, hp] at h

theorem flushSweep_pick {d : Direct} (h : flushSweep.pick d = true) : d.phase ≠ .returning := fun hp => by
  simp [flushSweep, Direct.onBranch, hp] at h

/-! ### Teardown of a branch (R45, R70) -/

theorem State.Engine.tearDownBranch (hs : s.Engine) {l : Live} (hl : s.live? (branchPort b) = some l) {line : Line}
    (hline : line.live? = none) : (s.tearDownBranch b line).Engine := by
  have hframe := State.stoppedBranch_frame hl line
  have hroom := hs.room (w := downSweep b) fun d => downSweep_pick
  have hdown : s.tearDownBranch b line = allSlots.foldl (State.downRecord b) (s.stoppedBranch b line) := rfl
  rw [hdown]
  generalize s.stoppedBranch b line = u at *
  have hrecords : u.records = s.records := by rw [hframe]
  have hqueue : u.trunkQueue = s.trunkQueue := by rw [hframe]
  have hports : u.ports = (s.setPort (branchPort b) (s.stoppedPort (branchPort b) l line)).ports := by rw [hframe]; rfl
  have hbranches : u.branches = (s.setBranch b
    { s.branch b with queue := [], slot := none, holder := none, lastTimedOut := none }).branches := by rw [hframe]; rfl
  clear hframe
  have hlength : u.records.length = 16 := hrecords ▸ State.EngineAt.length hs
  have hrecord := State.record_congr hrecords
  have hseat := State.seat_congr hbranches
  have hswept : u.Swept (downSweep b) (u.isActive .p0) (allSlots.foldl (State.downRecord b) u) allSlots :=
    State.Swept.all (fun t x ht => State.downRecord_eq b ht) nodup_allSlots hlength rfl
      fun _ => by rw [Sweep.refusals_congr _ hrecord, hqueue]; exact hroom
  refine hswept.engine hlength (fun x => ?_) (fun c => ?_)
  · have hreturns : u.returns x = s.returns x :=
      (State.returns_congr (s := s.setPort (branchPort b) (s.stoppedPort (branchPort b) l line)) hports hqueue x).trans
        (congrFun (State.returns_setPort ..) x)
    rw [hrecord, hreturns]
    refine (State.EngineAt.records hs x).down (u.isActive .p0) x ?_ fun c hc => ?_
    · rw [hseat, State.seat_setBranch, if_pos rfl]
      exact Branch.seat_empty rfl rfl rfl x
    · rw [hseat, State.seat_setBranch, if_neg hc]
  · rw [State.doing_congr hports, State.doing_setPort, State.branch_congr hbranches, State.branch_setBranch, doingAt]
    split_ifs with hc
    · refine .empty rfl rfl rfl fun i hi => ?_
      rw [show (s.stoppedPort (branchPort b) l line).line = line from rfl, Line.doing, hline] at hi
      cases hi
    · exact hs.slot c

/-! ### FLUSH (R48, R71) -/

theorem State.Engine.flushed (hs : s.Engine) : s.flushed.Engine := by
  have hroom := hs.room (w := flushSweep) fun d => flushSweep_pick
  have hbranch := s.branch_emptied
  have hrecord := s.record_emptied
  have hrecords : s.emptied.records = s.records := State.emptyBranches_records ..
  have hports : s.emptied.ports = s.ports := State.emptyBranches_ports ..
  have hqueue : s.emptied.trunkQueue = s.trunkQueue := State.emptyBranches_trunkQueue ..
  have hflush : s.flushed = allSlots.foldl State.flushRecord s.emptied := rfl
  rw [hflush]
  generalize s.emptied = u at *
  have hlength : u.records.length = 16 := hrecords ▸ State.EngineAt.length hs
  have hswept : u.Swept flushSweep (u.isActive .p0) (allSlots.foldl State.flushRecord u) allSlots :=
    State.Swept.all (fun t x _ => State.flushRecord_eq) nodup_allSlots hlength rfl
      fun _ => by rw [Sweep.refusals_congr _ hrecord, hqueue]; exact hroom
  refine hswept.engine hlength (fun x => ?_) (fun c => ?_)
  · rw [hrecord, State.returns_congr hports hqueue]
    refine (State.EngineAt.records hs x).flush (u.isActive .p0) x fun c => ?_
    rw [State.seat, hbranch]
    exact Branch.seat_empty rfl rfl rfl x
  · rw [State.doing_congr hports, hbranch]
    exact .empty rfl rfl rfl (hs.slot c).item

/-! ### Teardown of the trunk (R46, R71, R110) -/

theorem State.Engine.tearDownTrunk (hs : s.Engine) {l : Live} (hl : s.live? .p0 = some l) {line : Line}
    (hline : line.live? = none) : (s.tearDownTrunk line).Engine := by
  obtain ⟨hlength, hrecords, -⟩ := State.Dropped.tearDownTrunk (State.EngineAt.length hs) hl line
  obtain ⟨hports, -, -, hqueue⟩ := State.tearDownTrunk_of_live hl hline
  have hbranches := State.tearDownTrunk_branches s line
  generalize s.tearDownTrunk line = t at *
  have hset : t.ports = (s.setPort .p0 (s.stoppedPort .p0 l line)).ports := hports
  have hreturns : ∀ x, t.returns x = 0 := fun x => by
    rw [State.returns, State.standing, hqueue, State.port_congr hset, State.port_setPort, if_pos rfl,
      show (s.stoppedPort .p0 l line).line = line from rfl, Line.sendsTrunk_eq_of_doing, Line.doing, hline]
    rfl
  refine ⟨hlength, fun x => ?_, fun b => ?_⟩
  · have hagrees := State.EngineAt.records hs x
    have hle := hagrees.le_one
    have hzero := s.standing_eq_zero_iff (TrunkItem.isReturnOf x)
    rw [hrecords, hreturns, State.seat_congr hbranches]
    split_ifs with hany
    · have hone : s.returns x = 1 := by
        have : s.returns x ≠ 0 := fun h => by
          rw [hzero.mp h] at hany
          cases hany
        omega
      rw [hone] at hagrees
      exact hagrees.afterReturn
    · have hnone : s.returns x = 0 := hzero.mpr (by simpa using hany)
      rwa [hnone] at hagrees
  · rw [State.branch_congr hbranches, State.doing_congr hset, State.doing_setPort_p0]
    exact hs.slot b

end Down

end Sys2Proof.Machine
end

section
/-! PROOFS. Every effect of a command keeps the exchange engine sound, and with it O59. -/

namespace Sys2Proof.Machine

section Effects

variable {s t u v : State}

/-- The settings of a branch are nothing to the engine (R117). -/
theorem State.Still.configure (s : State) (b : BranchId) (rate guard unsolicited broadcast probe : Octet) :
    s.Still (s.configure b rate guard unsolicited broadcast probe) := by
  have hbranch : ∀ c, ((s.configure b rate guard unsolicited broadcast probe).branch c).queue = (s.branch c).queue ∧
      ((s.configure b rate guard unsolicited broadcast probe).branch c).slot = (s.branch c).slot ∧
      ((s.configure b rate guard unsolicited broadcast probe).branch c).holder = (s.branch c).holder ∧
      ((s.configure b rate guard unsolicited broadcast probe).branch c).lastTimedOut = (s.branch c).lastTimedOut :=
    fun c => by
      rw [State.configure, State.branch_setBranch]
      split_ifs with hc
      · rw [hc]
        exact ⟨rfl, rfl, rfl, rfl⟩
      · exact ⟨rfl, rfl, rfl, rfl⟩
  refine ⟨rfl, fun x c => ?_, fun c => (hbranch c).2, fun p => ?_, rfl⟩
  · obtain ⟨hqueue, hslot, hholder, -⟩ := hbranch c
    rw [State.seat, Branch.seat, hqueue, hslot, hholder]
    rfl
  · show (portGet (portSet s.ports (branchPort b) _) p).line.doing = _
    rw [portGet_portSet]
    split_ifs with hp
    · rw [hp]
    · rfl

theorem State.Engine.disable (hs : s.Engine) (b : BranchId) : (s.disable b).Engine := by
  unfold State.disable
  split
  · exact hs
  case h_2 l hl => exact hs.tearDownBranch (State.live?_of_line hl) rfl
  case h_3 n hl => exact (State.Still.setPort s (branchPort b) (by rw [hl]; rfl)).engine hs

theorem State.Engine.enable (hs : s.Engine) (p : PortId) : (s.enable p).Engine := by
  unfold State.enable
  split
  case h_1 hl => exact hs.wake (by rw [hl]; rfl) _
  · exact hs
  · exact hs

theorem State.Manages.engine (hm : s.Manages v) (hs : s.Engine) : v.Engine := by
  cases hm with
  | clearsPort p => exact (State.Still.setPort s p (x := { s.port p with counters := .zero }) rfl).engine hs
  | configures b rate guard unsolicited broadcast probe => exact (State.Still.configure ..).engine hs
  | enables p => exact hs.enable p
  | disables b => exact hs.disable b
  | flushes => exact hs.flushed
  | _ => exact State.Still.engine (s := s) (.of_eq rfl rfl rfl rfl) hs

theorem State.Operates.engine {h : Header} (ho : s.Operates h t) (hs : s.Engine) : t.Engine := by
  cases ho with
  | answers code status data hm => exact (hm.engine hs).respond h code status data
  | setsBridge policy window retries ageing dest =>
    have hconf : (s.configureBridge policy window retries ageing dest).Engine :=
      State.Still.engine (s := s) (.of_eq rfl rfl rfl rfl) hs
    exact (State.Still.offerAlert _).engine (hconf.respond ..)
  | _ => exact State.Still.engine (s := s) (.of_eq rfl rfl rfl rfl) hs

theorem State.Dispatches.engine {p : PortId} {b : BufId} (hd : u.Dispatches p b t) (hu : u.Engine) : t.Engine := by
  cases hd with
  | malformed => exact ((State.Still.countPort ..).trans (.release ..)).engine hu
  | released => exact (State.Still.release ..).engine hu
  | refusesBusy h _ => exact ((State.Still.release ..).trans (.refuseBusy ..)).engine hu
  | operates h _ _ ho => exact ho.engine ((State.Still.release ..).engine hu)
  | places f targets => exact (State.Still.placeNotices ..).engine hu
  | refuses r => exact (State.Still.refuseAtOnce ..).engine hu
  | counts c => exact ((State.Still.release ..).trans (.count ..)).engine hu
  | opensDirect f x q window retries viaLearned _ hx _ _ =>
    exact hu.openDirectAt (State.Holding.record_of_freeRecord hx) ..
  | opensProbe f x _ hx hset => exact hu.openProbeAt (State.Holding.record_of_freeRecord hx) f b hset
  | answersDirect f q sl e d hslot he _ hm _ => exact hu.matched hslot he hm f b
  | answersFirst q sl e w hslot he _ hm _ hp => exact hu.firstAnswer hslot he hm hp b
  | answersAgain q sl e w hslot he _ hm _ hp => exact hu.furtherAnswer hslot he hm hp b
  | acceptsLate f q x e d he hm _ hholder => exact hu.lateAccepted hholder he hm f b
  | unsolicited q => exact (State.Still.unsolicitedFrame ..).engine hu
  | lateUnsolicited q => exact ((State.Still.countPort ..).trans (.unsolicitedFrame ..)).engine hu
  | lateDiscarded q => exact ((State.Still.countPort ..).trans (.release ..)).engine hu

theorem State.Receives.engine {p : PortId} {l m : Live} (h : u.live? p = some l) (hm : m.tx = l.tx)
    (hr : u.Receives p m t) (hu : u.Engine) : t.Engine := by
  have hset : ∀ (b : BufId) (o : Octet) (rx : Rx),
      (State.setRx { u with pool := u.pool.store b o } p m rx).Engine := fun b o rx =>
    (State.Still.setRx (s := { u with pool := u.pool.store b o }) h hm rx).engine
      (State.Still.engine (s := u) (.of_eq rfl rfl rfl rfl) hu)
  cases hr with
  | hunts _ => exact (State.Still.setLive h (by rw [hm])).engine hu
  | stores b o _ => exact hset b o m.rx
  | fails b o c _ => exact ((State.Still.countPort ..).trans (.release ..)).engine (hset b o .hunt)
  | hands b o _ hd => exact hd.engine ((State.Still.countPort ..).engine (hset b o .hunt))
  | follows n k len next _ => exact (State.Still.setRx h hm _).engine hu
  | ends n len _ => exact (State.Still.setRx h hm _).engine hu

theorem State.Still.choices (s : State) (n : Nat) : s.Still { s with choices := n } := .of_eq rfl rfl rfl rfl

theorem State.Engine.stuck (hs : s.Engine) {p : PortId} {l : Live} (hl : s.live? p = some l) (high : Nat)
    (straps : Straps) : (s.stuck p high straps).Engine := by
  have hcount : (s.countPort p .faults).Engine := (State.Still.countPort ..).engine hs
  have hlive : (s.countPort p .faults).live? p = some l := (State.live?_countPort ..).trans hl
  rcases portId_cases p with rfl | ⟨b, rfl⟩
  · have htorn := hcount.tearDownTrunk hlive (line := .fault high) rfl
    unfold State.stuck
    dsimp only [portBranch]
    generalize (s.countPort .p0 .faults).tearDownTrunk (.fault high) = u at *
    exact ((State.Still.raise u ..).engine htorn).settleRestart straps
  · unfold State.stuck
    rw [portBranch_branchPort]
    dsimp only
    generalize s.countPort (branchPort b) .faults = u at *
    have hother : ∀ w : State, u.Still w → w.ports = u.ports → (w.tearDownBranch b (.fault high)).Engine :=
      fun w hw hports => (hw.engine hcount).tearDownBranch (l := l) (by
        rw [State.live?, State.port_congr hports]
        exact hlive) rfl
    rcases State.bothOrders_cases u (fun t => t.tearDownBranch b (.fault high))
      (fun t => t.raise .portFault (portNumber (branchPort b))) with h | h | h <;> rw [h]
    · exact (State.Still.raise ..).engine (hother u (.refl u) rfl)
    · exact hother _ ((State.Still.choices u _).trans (.raise ..)) (State.raise_ports ..)
    · exact (State.Still.raise ..).engine (hother _ (.choices u _) rfl)

theorem State.Does.engine (hd : u.Does t) (hu : u.Engine) : t.Engine := by
  cases hd with
  | nothing => exact hu
  | refusesBusy h _ => exact (State.Still.refuseBusy ..).engine hu
  | operates h q _ _ => exact (State.operates_operate q).engine hu
  | copies h job since _ =>
    have hcopied : State.Engine { u with table := { u.table with shadow := u.table.active } } :=
      State.Still.engine (s := u) (.of_eq rfl rfl rfl rfl) hu
    cases job
    · exact hcopied.respond ..
    · exact hcopied.respond ..
  | marked p l m o hl _ hm => exact (State.Still.marked hl.1 hm o).engine hu
  | unmarked p l m o hl _ hm => exact (State.receives_unmarked ..).engine hl.1 hm hu
  | endsEarly p l m hl _ hm =>
    exact ((State.Still.setLive hl.1 (by rw [hm])).trans (.endEarly (State.live?_setLive ..) rfl)).engine hu
  | stuck p l high straps hl => exact hu.stuck hl ..
  | recovers p since hl =>
    exact State.bothOrders_induction (I := State.Engine) (fun t ht => (State.Still.offerAlert t).engine ht)
      (fun t ht => (State.Still.raise t ..).engine ht) (fun h => (State.Still.choices ..).engine h)
      (hu.wake (by rw [hl]; rfl) _)
  | restartsRecovery p since again hl => exact (State.Still.setPort u p (by rw [hl]; rfl)).engine hu
  | windowExpires b sl start e d hslot hd he hm => exact hu.windowExpired hslot hd he hm
  | probeExpires b sl start e q hslot _ he hm => exact hu.loseSlot hslot he hm
  | ages =>
    rw [State.age, State.countTimes_frame]
    exact State.Still.engine (s := u) (.of_eq rfl rfl rfl rfl) hu
  | takes p => exact hu.takeItem p
  | startsSend p l c hl hc _ => exact (State.Still.startSend hl (by rw [hc]; rfl)).engine hu
  | contends p l c since frame back first straps hl htx => exact hu.contended hl (by rw [htx]; rfl) ..
  | completes p l c since frame high straps hl htx => exact hu.completed hl (by rw [htx]; rfl) ..
  | resets straps => exact u.engine_resetAt straps

/-! ### What the pool needs of the engine -/

/-- A record that agrees says when its request has been released, and has released it while a return stands. -/
theorem RecordAgrees.requestSound {e : Exchange} {seat : BranchId → Seat} {n : Nat}
    (h : RecordAgrees (some e) seat n) : e.RequestSound ∧ (n ≠ 0 → e.request = none) := by
  have hsome : e.request.isSome = true → e.request ≠ none := fun hr hn => by rw [hn] at hr; cases hr
  rw [Exchange.RequestSound]
  cases hm : e.mode with
  | direct d =>
    cases hp : d.phase with
    | queued =>
      obtain ⟨-, hreq, hn, -⟩ := (RecordAgrees.queued_iff hm hp).mp h
      exact ⟨⟨fun h => absurd h (hsome hreq), fun h => absurd (hp.symm.trans h) nofun⟩, fun h => absurd hn h⟩
    | awaiting =>
      obtain ⟨-, hreq, hn, -⟩ := (RecordAgrees.awaiting_iff hm hp).mp h
      exact ⟨⟨fun h => absurd h (hsome hreq), fun h => absurd (hp.symm.trans h) nofun⟩, fun h => absurd hn h⟩
    | repeating =>
      obtain ⟨-, hreq, hn, -⟩ := (RecordAgrees.repeating_iff hm hp).mp h
      exact ⟨⟨fun h => absurd h (hsome hreq), fun h => absurd (hp.symm.trans h) nofun⟩, fun h => absurd hn h⟩
    | returning =>
      obtain ⟨-, hreq, -⟩ := (RecordAgrees.returning_iff hm hp).mp h
      exact ⟨⟨fun _ => hp, fun _ => hreq⟩, fun _ => hreq⟩
  | probe q =>
    cases hp : q.phase with
    | probing =>
      obtain ⟨hreq, hn, -⟩ := (RecordAgrees.probing_iff hm hp).mp h
      exact ⟨⟨fun h => absurd h (hsome hreq), fun h => absurd (hp.symm.trans h) nofun⟩, fun h => absurd hn h⟩
    | settling =>
      obtain ⟨hreq, -⟩ := (RecordAgrees.settling_iff hm hp).mp h
      exact ⟨⟨fun _ => hp, fun _ => hreq⟩, fun _ => hreq⟩

theorem State.Engine.requestsSound (hs : s.Engine) : s.RequestsSound := fun _ _ he => (hs.record he).requestSound.1

/-- A return that stands on the trunk is of an exchange that has released its request. -/
theorem State.Engine.returnsIdle (hs : s.Engine) : s.ReturnsIdle s.trunkItems := fun i hi x hx _ he =>
  (hs.record he).requestSound.2 fun hn => by
    have hnone := (s.standing_eq_zero_iff (TrunkItem.isReturnOf x)).mp hn
    rw [List.any_eq_false] at hnone
    exact hnone i hi hx

/-- An effect keeps the engine and the pool sound together. -/
theorem State.Does.engineAndPool (hd : u.Does t) (hu : u.Engine ∧ u.Holding []) : t.Engine ∧ t.Holding [] := by
  obtain ⟨hengine, hpool⟩ := hu
  obtain ⟨-, hbranch, -⟩ := u.engineSound_iff.mpr hengine
  refine ⟨hd.engine hengine, hpool.does hd hengine.returnsIdle hbranch fun b sl start e d hslot hstart he hm hp => ?_⟩
  obtain ⟨-, -, hphase, -⟩ := hengine.slot_direct hslot he hm
  rw [hstart, hp] at hphase
  cases hphase

/-- What an event says of a line is nothing to the engine. -/
theorem State.Still.lineSeen (s : State) (p : PortId) (busy : Bool) : s.Still (s.lineSeen p busy) := by
  cases hl : s.live? p with
  | none =>
    rw [State.lineSeen_of_not_live hl]
    exact .refl s
  | some l =>
    rw [State.lineSeen_of_live hl]
    exact .setLive (m := { l with busy := l.busy || busy }) hl rfl

theorem State.Holding.lineSeen {hand : List BufId} (hs : s.Holding hand) (p : PortId) (busy : Bool) :
    (s.lineSeen p busy).Holding hand := by
  cases hl : s.live? p with
  | none => rwa [State.lineSeen_of_not_live hl]
  | some l =>
    rw [State.lineSeen_of_live hl]
    exact hs.setLive (m := { l with busy := l.busy || busy }) hl (hs.hunt p l hl) fun _ => rfl

end Effects

/-- Settles O59: every effect of a command keeps the engine sound, and the pool where the engine is sound. -/
theorem stepsKeepEngineAndPoolSound : Obligations.StepsKeepEngineAndPoolSound := by
  unfold Obligations.StepsKeepEngineAndPoolSound
  intro s t _ _ _ _ hengine hpool h
  have hs := s.engineSound_iff.mp hengine
  obtain ⟨ht, hholding⟩ := step_keeps (I := fun u => u.Engine ∧ u.Holding [])
    (fun u rest hu => ⟨State.Still.engine (s := u) (.of_eq rfl rfl rfl rfl) hu.1,
      hu.2.of_eq (fun _ => rfl) (fun _ => rfl) rfl rfl rfl⟩)
    (fun u dt hu => ⟨State.Still.engine (s := u) (.of_eq rfl rfl rfl rfl) hu.1,
      hu.2.of_eq (fun _ => rfl) (fun _ => rfl) rfl rfl rfl⟩)
    (fun u p busy hu => ⟨(State.Still.lineSeen u p busy).engine hu.1, hu.2.lineSeen p busy⟩)
    (fun _ _ hu hd => hd.engineAndPool hu) h ⟨hs, s.poolSound_iff.mp ⟨hpool, hs.requestsSound⟩⟩
  exact ⟨t.engineSound_iff.mpr ht, (t.poolSound_iff.mpr hholding).1⟩

end Sys2Proof.Machine
end
